-- ==== Sys2Proof/Word.lean ====
section
/-! DEFINITION. The names and the plainest data of the B32: hoses, compartments, meters, probes and
products (00_scope.md, "The bowser the part controls"), one value per name, time stamps of the site
clock, and tables kept as sorted lists. -/

namespace Sys2Proof

/-- One body byte of a telegram, 0 to 127 (R184). -/
abbrev Septet := BitVec 7

/-- One byte of the line: a lead has bit 7 set, every other byte has it clear (R184). -/
abbrev LineByte := BitVec 8

/-- A 40-bit tag ID (R38). -/
abbrev TagId := BitVec 40

/-- The 4-bit sequence tag that a request carries and its reply echoes (R184, R188). -/
abbrev SeqTag := BitVec 4

/-- A text: one character code per seven-bit group (R184). -/
abbrev Text := List Septet

/-- The hoses H1, H2 and H3. -/
inductive Hose where
  | h1 | h2 | h3
deriving DecidableEq, Repr

/-- The compartments C1 and C2. -/
inductive Comp where
  | c1 | c2
deriving DecidableEq, Repr

/-- The two products, DIESEL in C1 and FLUID in C2. -/
inductive Product where
  | diesel | fluid
deriving DecidableEq, Repr

/-- The meters M1 to M3 of the hoses and M4 of the inlet. -/
inductive Meter where
  | m1 | m2 | m3 | m4
deriving DecidableEq, Repr

/-- The temperature probes P1 (C1), P2 (C2) and P3 (inlet line). -/
inductive Probe where
  | p1 | p2 | p3
deriving DecidableEq, Repr

/-- One value for each hose. -/
structure PerHose (α : Type) where
  h1 : α
  h2 : α
  h3 : α
deriving DecidableEq, Repr

/-- One value for each compartment. -/
structure PerComp (α : Type) where
  c1 : α
  c2 : α
deriving DecidableEq, Repr

/-- One value for each product. -/
structure PerProduct (α : Type) where
  diesel : α
  fluid : α
deriving DecidableEq, Repr

/-- One value for each meter. -/
structure PerMeter (α : Type) where
  m1 : α
  m2 : α
  m3 : α
  m4 : α
deriving DecidableEq, Repr

/-- One value for each temperature probe. -/
structure PerProbe (α : Type) where
  p1 : α
  p2 : α
  p3 : α
deriving DecidableEq, Repr

def PerHose.get {α : Type} (p : PerHose α) : Hose → α
  | .h1 => p.h1
  | .h2 => p.h2
  | .h3 => p.h3

def PerHose.set {α : Type} (p : PerHose α) (h : Hose) (a : α) : PerHose α :=
  match h with
  | .h1 => { p with h1 := a }
  | .h2 => { p with h2 := a }
  | .h3 => { p with h3 := a }

def PerHose.all {α : Type} (a : α) : PerHose α := ⟨a, a, a⟩

def PerComp.get {α : Type} (p : PerComp α) : Comp → α
  | .c1 => p.c1
  | .c2 => p.c2

def PerComp.set {α : Type} (p : PerComp α) (c : Comp) (a : α) : PerComp α :=
  match c with
  | .c1 => { p with c1 := a }
  | .c2 => { p with c2 := a }

def PerComp.all {α : Type} (a : α) : PerComp α := ⟨a, a⟩

def PerProduct.get {α : Type} (p : PerProduct α) : Product → α
  | .diesel => p.diesel
  | .fluid => p.fluid

def PerProduct.set {α : Type} (p : PerProduct α) (q : Product) (a : α) : PerProduct α :=
  match q with
  | .diesel => { p with diesel := a }
  | .fluid => { p with fluid := a }

def PerProduct.all {α : Type} (a : α) : PerProduct α := ⟨a, a⟩

def PerMeter.get {α : Type} (p : PerMeter α) : Meter → α
  | .m1 => p.m1
  | .m2 => p.m2
  | .m3 => p.m3
  | .m4 => p.m4

def PerMeter.set {α : Type} (p : PerMeter α) (m : Meter) (a : α) : PerMeter α :=
  match m with
  | .m1 => { p with m1 := a }
  | .m2 => { p with m2 := a }
  | .m3 => { p with m3 := a }
  | .m4 => { p with m4 := a }

def PerMeter.all {α : Type} (a : α) : PerMeter α := ⟨a, a, a, a⟩

def PerProbe.get {α : Type} (p : PerProbe α) : Probe → α
  | .p1 => p.p1
  | .p2 => p.p2
  | .p3 => p.p3

def PerProbe.set {α : Type} (p : PerProbe α) (q : Probe) (a : α) : PerProbe α :=
  match q with
  | .p1 => { p with p1 := a }
  | .p2 => { p with p2 := a }
  | .p3 => { p with p3 := a }

def PerProbe.all {α : Type} (a : α) : PerProbe α := ⟨a, a, a⟩

/-- A time of the site clock with its clock-unset flag (R153, R158). -/
structure Stamp where
  time : Nat
  unset : Bool
deriving DecidableEq, Repr

/-- A table from indices to rows, kept as a list in strictly ascending order of index; an index that
is not listed has no row (an EMPTY entry, an alarm row that is not pending). -/
abbrev Table (α : Type) := List (Nat × α)

end Sys2Proof
end

