-- ==== Sys2Proof/Syntax.lean ====
section
/-! DEFINITION. The commands of the B32: one constructor for each row of spec/opcode_table.json, with
the operands that the rules give the row. A host request is carried as the telegram that brings it:
its sequence tag, and its body after the message code, seven bits a byte (R184, R187); the owner's
fields are read from the body in Machine/Operands.lean. -/

namespace Sys2Proof

/-- One flow band of a meter (R2): a lower bound in tenths of a litre per minute and a factor in
microlitres per pulse. -/
structure Band where
  lower : Nat
  factor : Nat
deriving DecidableEq, Repr

/-- The calibration set (R164): the bands of M1 to M4, the coefficient of C1 and C2, the offsets of
P1 to P3. -/
structure CalSet where
  bands : PerMeter (List Band)
  alpha : PerComp Nat
  offset : PerProbe Int
deriving DecidableEq, Repr

/-- What a gauging run hands to a requester with outcome OK (R125). -/
structure GaugeReading where
  time : Stamp
  level : Nat
  gross : Nat
  net : Int
  above : Bool
deriving DecidableEq, Repr

/-- The result of a gauging run as its requesters take it (R125). -/
inductive GaugeResult where
  | failed
  | ok (r : GaugeReading)
deriving DecidableEq, Repr

/-- An order of the three hoses, for a drop of the link that reaches several of them (R191: the hoses
may take it in either order). -/
inductive HoseOrder where
  | o123 | o132 | o213 | o231 | o312 | o321
deriving DecidableEq, Repr

/-- The three ways a frame is broken (R185, R186): a new lead arrives before the frame is complete,
the length byte is 0 or above 100, or a completed frame that checks is of a class other than request. -/
inductive BrokenFrame where
  | newLead (lead : LineByte)
  | badLength
  | wrongClass
deriving DecidableEq, Repr

/-- The commands, one constructor for each row of spec/opcode_table.json. -/
inductive Instr where
  /-- R195: host request; returns the site summary. -/
  | siteStatus (tag : SeqTag) (body : List Septet)
  /-- R193: host request; returns and clears up to 10 pending alarm rows. -/
  | alarms (tag : SeqTag) (body : List Septet)
  /-- R190: host request; returns and clears the link counters. -/
  | linkCounters (tag : SeqTag) (body : List Septet)
  /-- R196: host request; returns the site settings. -/
  | settingsRead (tag : SeqTag) (body : List Septet)
  /-- R196: host request; replaces the site settings. -/
  | settingsWrite (tag : SeqTag) (body : List Septet)
  /-- R197: host request; asks for a start-up that keeps the site clock. -/
  | restart (tag : SeqTag) (body : List Septet)
  /-- R35: host request; returns one tag channel. -/
  | tagChannelRead (tag : SeqTag) (body : List Septet)
  /-- R49: host request; returns one registry entry. -/
  | machineRead (tag : SeqTag) (body : List Septet)
  /-- R47: host request; creates or replaces a registry entry, or queues the write. -/
  | machineWrite (tag : SeqTag) (body : List Septet)
  /-- R48: host request; empties a registry entry, or queues the deletion. -/
  | machineDelete (tag : SeqTag) (body : List Septet)
  /-- R50: host request; finds the entry that carries a tag ID. -/
  | machineFind (tag : SeqTag) (body : List Septet)
  /-- R51: host request; lists entries from a starting index. -/
  | machineList (tag : SeqTag) (body : List Septet)
  /-- R55: host request; returns one account. -/
  | accountRead (tag : SeqTag) (body : List Septet)
  /-- R53: host request; creates or replaces an account. -/
  | accountWrite (tag : SeqTag) (body : List Septet)
  /-- R54: host request; empties an account. -/
  | accountDelete (tag : SeqTag) (body : List Septet)
  /-- R65: host request; grants the fill of a hose in AWAITING. -/
  | approve (tag : SeqTag) (body : List Septet)
  /-- R66: host request; refuses the fill of a hose in AWAITING. -/
  | decline (tag : SeqTag) (body : List Septet)
  /-- R68: host request; names the machine at a hose in IDENTIFYING and grants a MANUAL fill. -/
  | authorise (tag : SeqTag) (body : List Septet)
  /-- R97: host request; returns one hose and delivers its notices. -/
  | hoseStatus (tag : SeqTag) (body : List Septet)
  /-- R87: host request; ends an identification or a fill. -/
  | stop (tag : SeqTag) (body : List Septet)
  /-- R99: host request; returns a hose to service. -/
  | hoseEnable (tag : SeqTag) (body : List Septet)
  /-- R98: host request; takes a hose out of service. -/
  | hoseDisable (tag : SeqTag) (body : List Septet)
  /-- R100: host request; returns a hose's settings. -/
  | hoseSettingsRead (tag : SeqTag) (body : List Septet)
  /-- R100: host request; replaces a hose's settings. -/
  | hoseSettingsWrite (tag : SeqTag) (body : List Septet)
  /-- R113: host request; returns pumps, emergency stop, inhibits and stray counters. -/
  | equipmentStatus (tag : SeqTag) (body : List Septet)
  /-- R106: host request; returns a pump's settings. -/
  | pumpSettingsRead (tag : SeqTag) (body : List Septet)
  /-- R106: host request; replaces a pump's settings. -/
  | pumpSettingsWrite (tag : SeqTag) (body : List Septet)
  /-- R112: host request; returns a compartment to NORMAL. -/
  | inhibitClear (tag : SeqTag) (body : List Septet)
  /-- R132: host request; returns a compartment's stock. -/
  | stockStatus (tag : SeqTag) (body : List Septet)
  /-- R119: host request; returns a compartment's setup. -/
  | tankSetupRead (tag : SeqTag) (body : List Septet)
  /-- R119: host request; replaces a compartment's setup. -/
  | tankSetupWrite (tag : SeqTag) (body : List Septet)
  /-- R120: host request; returns a strapping table. -/
  | strappingRead (tag : SeqTag) (body : List Septet)
  /-- R120: host request; the last part of a strapping table write. -/
  | strappingWrite (tag : SeqTag) (body : List Septet)
  /-- R189: a part of a long STRAPPING WRITE that is not the last, with its part number and fragment. -/
  | strappingWritePart (tag : SeqTag) (part : Septet) (fragment : List Septet)
  /-- R123: host request; requests a gauging run. -/
  | gauge (tag : SeqTag) (body : List Septet)
  /-- R130: host request; returns a compartment's gauging state. -/
  | gaugeRead (tag : SeqTag) (body : List Septet)
  /-- R131: host request; sets a compartment's book. -/
  | bookAdjust (tag : SeqTag) (body : List Septet)
  /-- R145: host request; returns the delivery controller's state. -/
  | deliveryStatus (tag : SeqTag) (body : List Septet)
  /-- R134: host request; opens a delivery. -/
  | deliveryOpen (tag : SeqTag) (body : List Septet)
  /-- R141: host request; cancels a delivery or closes its inlet valve. -/
  | deliveryClose (tag : SeqTag) (body : List Septet)
  /-- R157: host request; returns the state of the log. -/
  | logStatus (tag : SeqTag) (body : List Septet)
  /-- R154: host request; hands over the oldest UNSENT record. -/
  | logRead (tag : SeqTag) (body : List Septet)
  /-- R155: host request; removes SENT records. -/
  | logConfirm (tag : SeqTag) (body : List Septet)
  /-- R156: host request; marks every SENT record UNSENT. -/
  | logRewind (tag : SeqTag) (body : List Septet)
  /-- R159: host request; sets the site clock. -/
  | clockSet (tag : SeqTag) (body : List Septet)
  /-- R161: host request; closes the shift. -/
  | shiftClose (tag : SeqTag) (body : List Septet)
  /-- R163: host request; returns one account's shift totals. -/
  | shiftTotals (tag : SeqTag) (body : List Septet)
  /-- R172: host request; returns one calibration item. -/
  | calRead (tag : SeqTag) (body : List Septet)
  /-- R166: host request; opens the calibration window. -/
  | calOpen (tag : SeqTag) (body : List Septet)
  /-- R168: host request; replaces one calibration item. -/
  | calWrite (tag : SeqTag) (body : List Septet)
  /-- R167: host request; closes the calibration window. -/
  | calClose (tag : SeqTag) (body : List Septet)
  /-- R171: host request; returns one audit trail entry. -/
  | auditRead (tag : SeqTag) (body : List Septet)
  /-- R183: host request; returns the park controller's state. -/
  | parkStatus (tag : SeqTag) (body : List Septet)
  /-- R176: host request; begins the unattended watch. -/
  | park (tag : SeqTag) (body : List Septet)
  /-- R187 step 4: a valid frame whose message code is not in the code table. -/
  | unknown (tag : SeqTag) (code : Septet)
  /-- R186 test 2: a completed frame whose check fails; `code` is its body byte 0 as received. -/
  | check (tag : SeqTag) (code : Septet)
  /-- R186 test 1: a frame completed while the part is still sending. -/
  | overlap
  /-- R185, R186 test 3: a frame cut short, or completed with a class other than request. -/
  | brokenFrame (kind : BrokenFrame)
  /-- R185: a framing error or an overrun of the line receiver. -/
  | byteError
  /-- R181: a valid frame taken while the part is PARKED. -/
  | waking (tag : SeqTag) (code : Septet)
  /-- R58: a nozzle switch leaves its hook. -/
  | nozzleLift (h : Hose)
  /-- R85: a nozzle switch returns to its hook. -/
  | nozzleHang (h : Hose)
  /-- R1: one pulse of a meter. -/
  | meterPulse (m : Meter)
  /-- R10: a temperature reading, in hundredths of a degree Celsius, before the probe's offset. -/
  | tempReading (p : Probe) (reading : Int)
  /-- R11: a fault indication of a temperature probe. -/
  | tempFaultIndication (p : Probe)
  /-- R118: a level reading, in tenths of a millimetre. -/
  | levelReading (c : Comp) (level : Nat)
  /-- R118: a fault indication of a level probe. -/
  | levelFaultIndication (c : Comp)
  /-- R30 to R32: a tag frame classed VALID(id) on the channel of hose `ch`. -/
  | valid (ch : Hose) (id : TagId)
  /-- R27: a tag frame classed INVERTED(id). -/
  | inverted (ch : Hose) (id : TagId)
  /-- R28: a tag frame classed CHECK_BAD. -/
  | checkBad (ch : Hose)
  /-- R28: a tag frame classed BAD_START. -/
  | badStart (ch : Hose)
  /-- R61, R84: the hose takes its channel's report confirmed(id). -/
  | confirmed (h : Hose) (id : TagId)
  /-- R83: the hose takes its channel's report lost. -/
  | lost (h : Hose)
  /-- R83: the hose takes its channel's report changed(id). -/
  | changed (h : Hose) (id : TagId)
  /-- R107: the emergency-stop input becomes active. -/
  | emergencyStopActive
  /-- R108: the emergency-stop input becomes inactive. -/
  | emergencyStopInactive
  /-- R139: an overfill switch becomes active. -/
  | overfillSwitchActive (c : Comp)
  /-- R139: an overfill switch becomes inactive. -/
  | overfillSwitchInactive (c : Comp)
  /-- R165: the seal switch becomes OPEN. -/
  | sealSwitchOpen
  /-- R167: the seal switch becomes CLOSED. -/
  | sealSwitchClosed
  /-- R173: the surroundings alter the stored calibration set to `set` and leave the stored check value. -/
  | storeDisturbance (set : CalSet)
  /-- R101: start-up after power-on. -/
  | startUp
  /-- R7: a meter's one-second interval timer expires. -/
  | intervalEnd (m : Meter)
  /-- R11: a temperature source's hold timer reaches 60 s. -/
  | sourceHoldTimerExpiry (p : Probe)
  /-- R30, R33: a tag channel's hold timer expires. -/
  | channelHoldTimerExpiry (ch : Hose)
  /-- R60: a hose's identify timer expires. -/
  | identifyTimerExpiry (h : Hose)
  /-- R67: a hose's approval timer expires. -/
  | approvalTimerExpiry (h : Hose)
  /-- R82: a hose's no-flow timer expires. -/
  | noFlowTimerExpiry (h : Hose)
  /-- R84: a hose's resume grace timer expires. -/
  | resumeGraceTimerExpiry (h : Hose)
  /-- R90: a hose's drain quiet timer expires. -/
  | hoseDrainQuietExpiry (h : Hose)
  /-- R90: a hose's drain cap timer expires. -/
  | hoseDrainCapExpiry (h : Hose)
  /-- R142: the delivery's drain quiet timer expires. -/
  | deliveryDrainQuietExpiry
  /-- R142: the delivery's drain cap timer expires. -/
  | deliveryDrainCapExpiry
  /-- R104: a pump's continuous-run timer reaches the max run. -/
  | maxRunReached (c : Comp)
  /-- R105: a RESTING pump's rest timer expires. -/
  | restTimerExpiry (c : Comp)
  /-- R167: the calibration window timer expires. -/
  | windowTimerExpiry
  /-- R173: the 60 s check timer expires. -/
  | checkTimerExpiry
  /-- R191: the link watchdog expires; the hoses in AWAITING take the drop in the order given. -/
  | watchdogExpiry (order : HoseOrder)
  /-- R179: the watch timer expires. -/
  | watchTimerExpiry
  /-- R181: the confirm timer expires. -/
  | confirmTimerExpiry
  /-- R158: the site clock advances by one second. -/
  | siteClockTick
  /-- R135: the delivery controller takes the result of the pre-delivery run on compartment `c`. -/
  | preGaugeResult (c : Comp) (r : GaugeResult)
  /-- R144: the delivery controller takes the result of the post-delivery run. -/
  | postGaugeResult (c : Comp) (r : GaugeResult)
  /-- R177: the park controller takes the result of a baseline run. -/
  | parkBaselineResult (c : Comp) (r : GaugeResult)
  /-- R180: the park controller takes the result of a watch run. -/
  | parkWatchResult (c : Comp) (r : GaugeResult)
  /-- R187, R197: the last byte of the reply has gone out. -/
  | answerSent
  /-- R19: the supply is lost. -/
  | lossOfPower
deriving DecidableEq, Repr

end Sys2Proof
end

