-- ==== Sys2Proof/WellFormed.lean ====
section
/-! DEFINITION. Which commands the line and the bowser can present: body lengths of a telegram
(R184, R189), message codes outside the code table for UNKNOWN (R187), levels within the probe's range
(R118), and calibration sets of at most 4 bands a meter (R2). -/

namespace Sys2Proof

/-- The message codes of R184. -/
def messageCodes : List Nat :=
  [1, 2, 3, 4, 5, 6, 8, 16, 17, 18, 19, 20, 24, 25, 26, 32, 33, 34, 40, 41, 42, 43, 44, 45, 48, 49,
    50, 51, 56, 57, 58, 59, 60, 61, 62, 63, 72, 73, 74, 80, 81, 82, 83, 88, 89, 90, 96, 97, 98, 99,
    100, 104, 105]

/-- R184: a telegram's body is 1 to 100 bytes and opens with the message code. -/
def bodyFits (body : List Septet) : Bool := decide (body.length ≤ 99)

/-- R189: the body of a STRAPPING WRITE frame that is not the row STRAPPING WRITE PART: it has no flag, or
its last-part flag is not clear. -/
def lastPart : List Septet → Bool
  | _ :: flag :: _ => decide (flag.toNat ≠ 0)
  | [_] | [] => true

/-- R2: lower bounds strictly ascend from band to band. -/
def bandsAscend : List Band → Bool
  | a :: b :: rest => decide (a.lower < b.lower) && bandsAscend (b :: rest)
  | _ => true

/-- R2, R164: a valid list has 1 to 4 bands, a lower bound of 0 for band 1, ascending lower bounds of 0
to 3,000 and factors of 500 to 20,000. -/
def bandsValid (l : List Band) : Bool :=
  decide (1 ≤ l.length ∧ l.length ≤ 4) && decide ((l.head?.map Band.lower) = some 0) && bandsAscend l &&
    l.all fun b => decide (b.lower ≤ 3000 ∧ 500 ≤ b.factor ∧ b.factor ≤ 20000)

/-- R164: a valid coefficient is 0 to 2,000 ppm per degree. -/
def alphaValid (a : Nat) : Bool := decide (a ≤ 2000)

/-- R164: a valid offset is −200 to +200 hundredths of a degree. -/
def offsetValid (o : Int) : Bool := decide (-200 ≤ o ∧ o ≤ 200)

/-- R125: a mean level is the mean of levels of 0 to 40,000. -/
def GaugeResult.wf : GaugeResult → Bool
  | .failed => true
  | .ok r => decide (r.level ≤ 40000)

/-- R184: a lead has bit 7 set. -/
def BrokenFrame.wf : BrokenFrame → Bool
  | .newLead lead => decide (128 ≤ lead.toNat)
  | .badLength => true
  | .wrongClass => true

/-- R2: the store holds at most 4 bands for a meter. -/
def CalSet.bandsFit (s : CalSet) : Bool :=
  decide (s.bands.m1.length ≤ 4 ∧ s.bands.m2.length ≤ 4 ∧ s.bands.m3.length ≤ 4 ∧
    s.bands.m4.length ≤ 4)

/-- A command that the line or the bowser can present. R173 puts no limit on the values that a store
disturbance leaves: it may leave any set, of valid items or not, with at most 4 bands for a meter (DESIGN
CHOICE, assumption 45). -/
def Instr.wf : Instr → Bool
  | .siteStatus _ body => bodyFits body
  | .alarms _ body => bodyFits body
  | .linkCounters _ body => bodyFits body
  | .settingsRead _ body => bodyFits body
  | .settingsWrite _ body => bodyFits body
  | .restart _ body => bodyFits body
  | .tagChannelRead _ body => bodyFits body
  | .machineRead _ body => bodyFits body
  | .machineWrite _ body => bodyFits body
  | .machineDelete _ body => bodyFits body
  | .machineFind _ body => bodyFits body
  | .machineList _ body => bodyFits body
  | .accountRead _ body => bodyFits body
  | .accountWrite _ body => bodyFits body
  | .accountDelete _ body => bodyFits body
  | .approve _ body => bodyFits body
  | .decline _ body => bodyFits body
  | .authorise _ body => bodyFits body
  | .hoseStatus _ body => bodyFits body
  | .stop _ body => bodyFits body
  | .hoseEnable _ body => bodyFits body
  | .hoseDisable _ body => bodyFits body
  | .hoseSettingsRead _ body => bodyFits body
  | .hoseSettingsWrite _ body => bodyFits body
  | .equipmentStatus _ body => bodyFits body
  | .pumpSettingsRead _ body => bodyFits body
  | .pumpSettingsWrite _ body => bodyFits body
  | .inhibitClear _ body => bodyFits body
  | .stockStatus _ body => bodyFits body
  | .tankSetupRead _ body => bodyFits body
  | .tankSetupWrite _ body => bodyFits body
  | .strappingRead _ body => bodyFits body
  | .strappingWrite _ body => bodyFits body && lastPart body
  | .gauge _ body => bodyFits body
  | .gaugeRead _ body => bodyFits body
  | .bookAdjust _ body => bodyFits body
  | .deliveryStatus _ body => bodyFits body
  | .deliveryOpen _ body => bodyFits body
  | .deliveryClose _ body => bodyFits body
  | .logStatus _ body => bodyFits body
  | .logRead _ body => bodyFits body
  | .logConfirm _ body => bodyFits body
  | .logRewind _ body => bodyFits body
  | .clockSet _ body => bodyFits body
  | .shiftClose _ body => bodyFits body
  | .shiftTotals _ body => bodyFits body
  | .calRead _ body => bodyFits body
  | .calOpen _ body => bodyFits body
  | .calWrite _ body => bodyFits body
  | .calClose _ body => bodyFits body
  | .auditRead _ body => bodyFits body
  | .parkStatus _ body => bodyFits body
  | .park _ body => bodyFits body
  | .strappingWritePart _ _ fragment => decide (fragment.length ≤ 97)
  | .unknown _ code => !(messageCodes.contains code.toNat)
  | .check _ _ => true
  | .overlap => true
  | .brokenFrame kind => kind.wf
  | .byteError => true
  | .waking _ _ => true
  | .nozzleLift _ => true
  | .nozzleHang _ => true
  | .meterPulse _ => true
  | .tempReading _ _ => true
  | .tempFaultIndication _ => true
  | .levelReading _ level => decide (level ≤ 40000)
  | .levelFaultIndication _ => true
  | .valid _ _ => true
  | .inverted _ _ => true
  | .checkBad _ => true
  | .badStart _ => true
  | .confirmed _ _ => true
  | .lost _ => true
  | .changed _ _ => true
  | .emergencyStopActive => true
  | .emergencyStopInactive => true
  | .overfillSwitchActive _ => true
  | .overfillSwitchInactive _ => true
  | .sealSwitchOpen => true
  | .sealSwitchClosed => true
  | .storeDisturbance set => set.bandsFit
  | .startUp => true
  | .intervalEnd _ => true
  | .sourceHoldTimerExpiry _ => true
  | .channelHoldTimerExpiry _ => true
  | .identifyTimerExpiry _ => true
  | .approvalTimerExpiry _ => true
  | .noFlowTimerExpiry _ => true
  | .resumeGraceTimerExpiry _ => true
  | .hoseDrainQuietExpiry _ => true
  | .hoseDrainCapExpiry _ => true
  | .deliveryDrainQuietExpiry => true
  | .deliveryDrainCapExpiry => true
  | .maxRunReached _ => true
  | .restTimerExpiry _ => true
  | .windowTimerExpiry => true
  | .checkTimerExpiry => true
  | .watchdogExpiry _ => true
  | .watchTimerExpiry => true
  | .confirmTimerExpiry => true
  | .siteClockTick => true
  | .preGaugeResult _ r => r.wf
  | .postGaugeResult _ r => r.wf
  | .parkBaselineResult _ r => r.wf
  | .parkWatchResult _ r => r.wf
  | .answerSent => true
  | .lossOfPower => true

end Sys2Proof
end

