-- ==== Sys2Proof/Config.lean ====
section
/-! DEFINITION. What the part fixes once: the free values of the model (constants with no body) and
the fixed times and limits of the rules. -/

namespace Sys2Proof.Config

/-- R164: the check value is computed from every value of all nine items by a fixed function of the
part that the manual does not set out. A free value (assumption 7). -/
opaque checkFunction : CalSet → BitVec 32

/-- The factor of a pulse whose meter's current band is not in its list, which only a store disturbance
during an operation can bring about; the manual gives none. A free value (assumption 8). -/
opaque missingFactor : Nat → Nat

/-- The band chosen at an interval end whose list has no band with a lower bound at or below the flow
rate, which only a disturbed list can bring about; the manual gives none. A free value (assumption 8). -/
opaque missingBand : Nat → Nat

/-- The VCF of a coefficient beyond its range, which only a store disturbance can bring about, by the
coefficient and the temperature: R15 gives its formula for coefficients in range, and its law keeps every VCF
within bounds. A free value (assumption 45). -/
opaque disturbedVcf : Nat → Int → Nat

/-- R88, R142: the drain quiet time, 2 s. -/
def drainQuiet : Nat := 2

/-- R88, R142: the drain cap time, 15 s. -/
def drainCap : Nat := 15

/-- R166: the calibration window, 120 s. -/
def windowTime : Nat := 120

/-- R173: the check timer, 60 s. -/
def checkTime : Nat := 60

/-- R175, R181: the confirm timer, 10 s. -/
def confirmTime : Nat := 10

/-- R11: a source holds for at most 60 s. -/
def holdTime : Nat := 60

/-- R3, R4: the greatest gross and net volume of an operation, in microlitres. -/
def volumeMax : Nat := 999999999999

/-- R3: the greatest interval accumulator, in microlitres. -/
def intervalMax : Nat := 999999999

/-- R158: the greatest value of the site clock. -/
def clockMax : Nat := 34359738367

/-- R147: the slots of the log. -/
def logSlots : Nat := 1024

/-- R147, R148: the greatest sequence number. -/
def seqMax : Nat := 4294967295

/-- R41, R52: the greatest used and charged total. -/
def usedMax : Nat := 2000000000

/-- R22, R109, R190: the greatest value of a 16-bit counter. -/
def counterMax : Nat := 65535

/-- R73: the fill ceiling, in mL. -/
def fillCeiling : Int := 2000000

/-- R43: the slots of the deferred update queue. -/
def queueSlots : Nat := 16

/-- R170: the entries of the audit trail. -/
def trailEntries : Nat := 32

end Sys2Proof.Config
end

