-- ==== Sys2Proof/Machine/State.lean ====
section
/-! DEFINITION. The state of the B32: what its non-volatile store keeps (`Store`), the volatile state
of each block, the bowser's input levels, the reply on the line, the bytes on the line, and the queue
of commands that wait.
All of it is plain data. `State.reset` is the part as shipped, after its first power-on start-up. -/

namespace Sys2Proof.Machine

/-- Nothing stops the B32: every telegram has an answer or a refusal telegram and every event an
effect, so no command raises a fault and this type is empty. Safe: no claim can rest on a fault. -/
inductive Fault where
deriving DecidableEq, Repr

/-- Why a command has no meaning. -/
inductive Refusal where
  /-- Raised by an arm of `exec` whose command has no meaning yet, by its mnemonic; safe. -/
  | notModelled (mnemonic : String)
deriving DecidableEq, Repr

/-- A timer: stopped, or running with the time left (in seconds; the hold timers of the tag channels
in milliseconds). -/
inductive Timer where
  | stopped
  | running (left : Nat)
deriving DecidableEq, Repr

/-! ## Machine registry and accounts (R37 to R55) -/

/-- The writable fields of a machine entry (section 3.1). -/
structure MachineFields where
  suspended : Bool
  fleet : Text
  tags : PerProduct (Option TagId)
  account : Nat
  maxFill : PerProduct (Option Nat)
  allowance : PerProduct (Option Nat)
  offline : Bool
deriving DecidableEq, Repr

/-- The last fill of a machine (R41). -/
structure LastFill where
  seq : Nat
  time : Nat
  product : Product
  net : Nat
deriving DecidableEq, Repr

/-- A machine entry that is not EMPTY (section 3.1). -/
structure MachineEntry where
  fields : MachineFields
  used : PerProduct Nat
  reserved : PerProduct Nat
  lastFill : Option LastFill
deriving DecidableEq, Repr

/-- An item of the deferred update queue (section 3.3): a WRITE with its contents, or a DELETE
(`contents = none`). -/
structure Update where
  entry : Nat
  contents : Option MachineFields
deriving DecidableEq, Repr

/-- The writable fields of an account (section 3.5). -/
structure AccountFields where
  suspended : Bool
  code : Text
  rate : PerProduct Nat
  budget : PerProduct (Option Nat)
deriving DecidableEq, Repr

/-- An account that is not EMPTY (section 3.5). -/
structure Account where
  fields : AccountFields
  used : PerProduct Nat
  reserved : PerProduct Nat
  charged : Nat
deriving DecidableEq, Repr

/-! ## Hoses and fills (R56 to R101) -/

/-- The settings of a hose (R100) with its enabled setting (section 5.9). Times in seconds, the hold
period in milliseconds, volumes in mL. -/
structure HoseConfig where
  identifyTime : Nat
  approvalTime : Nat
  approval : Bool
  holdPeriod : Nat
  minimumGrant : Nat
  overrunAllowance : Nat
  startVolume : Nat
  taperVolume : Nat
  noFlowTime : Nat
  resumeGrace : Nat
  enabled : Bool
deriving DecidableEq, Repr

/-- The refusal reasons (section 4.7), in the order of its table. -/
inductive Reason where
  | emergency | metrology | deliveryOpen | inhibited | pumpResting
  | identifyTimeout
  | unknownTag | wrongProduct | machineSuspended | accountSuspended | alreadyFilling
  | noLink | declined | approvalTimeout | logFull
  | noStock | noBudget | noAllowance | belowMinimum | rehang
deriving DecidableEq, Repr

/-- The stop causes of a fill (R85, R101), in the order of their codes (R184). -/
inductive StopCause where
  | hungUp | hostStop | noFlow | tagLost | tagChanged | pumpGuard | emergency | inhibit | metrology
  | limit | overrun | powerLoss
deriving DecidableEq, Repr

/-- The hose states, with what the state holds: the machine and tag noted at the lookup in AWAITING
(R64), the reason in REFUSED (R70). -/
inductive HoseState where
  | idle
  | identifying
  | awaiting (machine : Nat) (tag : TagId)
  | refused (reason : Reason)
  | blocked
  | flowing
  | paused
  | draining
  | finished
deriving DecidableEq, Repr

/-- The positions of a hose valve (R78). -/
inductive Valve where
  | closed | low | high
deriving DecidableEq, Repr

/-- The stages of a FLOWING hose (R79). -/
inductive Stage where
  | start | full | taper
deriving DecidableEq, Repr

/-- The no-flow timer (R82): stopped, running, or frozen with its remaining time. -/
inductive NoFlowTimer where
  | stopped
  | running (left : Nat)
  | frozen (left : Nat)
deriving DecidableEq, Repr

/-- The volume state of an operation (section 1.2): gross and net in microlitres, the remainder in
millionths of a microlitre, the applied VCF in ppm with the temperature it came from, and the two
degraded-temperature flags. -/
structure Volume where
  gross : Nat
  net : Nat
  remainder : Nat
  vcf : Int
  vcfTemp : Int
  clamped : Bool
  uncompensated : Bool
deriving DecidableEq, Repr

/-- The transaction context of a fill (R76, R78). Its log slot is the commitment that the context's
presence stands for (R151). -/
structure Transaction where
  machine : Nat
  tag : Option TagId
  account : Nat
  rate : Nat
  limit : Nat
  reservation : Nat
  start : Stamp
  offline : Bool
  manual : Bool
  volume : Volume
  pauses : Nat
  cause : Option StopCause
  drainCut : Bool
  overrunNoted : Bool
deriving DecidableEq, Repr

/-- A completion notice (R95). -/
structure Completion where
  seq : Nat
  cause : StopCause
  net : Nat
  charge : Nat
deriving DecidableEq, Repr

/-- The volatile state of a hose controller (section 4.1, R78, R81, R95). -/
structure HoseCtl where
  state : HoseState
  valve : Valve
  stage : Stage
  lowUntil : Nat
  nearEndGiven : Bool
  identify : Timer
  approval : Timer
  noFlow : NoFlowTimer
  grace : Timer
  quiet : Timer
  cap : Timer
  nearEnd : Bool
  completion : Option Completion
deriving DecidableEq, Repr

/-! ## Tag channels (R21 to R36) -/

/-- The channel states with what each holds (section 2.2): the candidate and its match count in
ACQUIRING; the confirmed ID and an optional challenger with its count in CONFIRMED. -/
inductive ChannelState where
  | off
  | searching
  | acquiring (id : TagId) (count : Nat)
  | confirmed (id : TagId) (challenger : Option (TagId × Nat))
deriving DecidableEq, Repr

/-- A tag channel (section 2.2). `inverted` is the polarity INVERTED; the hold timer is in
milliseconds. -/
structure Channel where
  state : ChannelState
  inverted : Bool
  run : Nat
  hold : Timer
  valids : Nat
  checkBads : Nat
  badStarts : Nat
  switches : Nat
deriving DecidableEq, Repr

/-- The reports of a tag channel to its hose (R34). -/
inductive TagReport where
  | confirmed (id : TagId)
  | lost
  | changed (id : TagId)
deriving DecidableEq, Repr

/-! ## Meters, temperature sources and pumps (R1 to R20, R102 to R110) -/

/-- The state of a meter (section 1.2): current band, interval accumulator, flow rate, the one-second
interval timer (RUNNING or STOPPED), and the stray counter (R109, R110). -/
structure MeterCtl where
  band : Nat
  acc : Nat
  flow : Nat
  interval : Timer
  strays : Nat
deriving DecidableEq, Repr

/-- The states of a temperature source (R10 to R13). -/
inductive SourceState where
  | valid | clamped | holding | defaulted
deriving DecidableEq, Repr

/-- A temperature source (section 1.4). -/
structure Source where
  state : SourceState
  held : Option Int
  hold : Timer
deriving DecidableEq, Repr

/-- The settings of a pump (R106): max run in minutes, rest time in seconds. -/
structure PumpConfig where
  maxRun : Nat
  restTime : Nat
deriving DecidableEq, Repr

/-- A pump controller (section 6.1): the continuous-run time counts only in RUNNING, the rest timer
runs only in RESTING (R102). -/
inductive Pump where
  | off
  | running (time : Nat)
  | resting (left : Nat)
deriving DecidableEq, Repr

/-! ## Compartments (R109 to R132) -/

/-- A point of a strapping table (R120): level in tenths of a millimetre, gross volume in mL. -/
structure Point where
  level : Nat
  volume : Nat
deriving DecidableEq, Repr

/-- The event that inhibited a compartment with its subject (section 6.6). -/
inductive InhibitCause where
  | overrun (h : Hose)
  | drainCut (m : Meter)
  | strayPulse (m : Meter)
deriving DecidableEq, Repr

/-- The inhibit record (section 6.6). -/
structure InhibitRecord where
  cause : InhibitCause
  time : Stamp
deriving DecidableEq, Repr

/-- The value group of a last gauging (section 7.4). -/
structure GaugeValues where
  time : Stamp
  level : Nat
  temp : Int
  gross : Nat
  net : Int
  variance : Int
  above : Bool
deriving DecidableEq, Repr

/-- The last gauging of a compartment (section 7.4). -/
structure LastGauging where
  ok : Bool
  stale : Bool
  values : Option GaugeValues
deriving DecidableEq, Repr

/-- The stored state of a compartment (section 7.1). NORMAL is `inhibit = none`. -/
structure Compartment where
  capacity : Nat
  reserveLevel : Nat
  lowStock : Nat
  cutoff : Nat
  window : Nat
  strapping : List Point
  book : Int
  opening : Int
  delivered : Int
  dispensed : Int
  adjustments : Int
  reservations : Nat
  inhibit : Option InhibitRecord
  gauging : LastGauging
deriving DecidableEq, Repr

/-- The requester kinds of a gauging run (R123). -/
inductive Requester where
  | host | preDelivery | postDelivery | parkBaseline | parkWatch
deriving DecidableEq, Repr

/-- A gauging run (R123 to R125). -/
inductive Run where
  | idle
  | pending (reqs : List Requester)
  | sampling (reqs : List Requester) (window count sum : Nat)
deriving DecidableEq, Repr

/-- The volatile state of a compartment unit (section 7.1). -/
structure CompUnit where
  armed : Bool
  level : Option Nat
  run : Run
deriving DecidableEq, Repr

/-! ## Deliveries (R133 to R146) -/

/-- The delivery states other than NONE (section 8.1). -/
inductive DeliveryState where
  | preGauge | receiving | draining | postGauge
deriving DecidableEq, Repr

/-- The stop causes of a delivery, in the order of their codes (R184). -/
inductive DeliveryCause where
  | closed | highLevel | overfill | emergency | powerLoss
deriving DecidableEq, Repr

/-- What a delivery keeps of a gauging (R135, R144). -/
structure DeliveryGauge where
  level : Nat
  net : Int
  above : Bool
deriving DecidableEq, Repr

/-- The delivery context with the delivery state (section 8.1). -/
structure Delivery where
  state : DeliveryState
  comp : Comp
  docket : Text
  declared : Option Int
  preGauge : Option DeliveryGauge
  start : Option Nat
  finish : Option Nat
  unset : Bool
  volume : Volume
  final : Option (Nat × Nat)
  cause : Option DeliveryCause
  drainCut : Bool
  levelFault : Bool
deriving DecidableEq, Repr

/-- The volatile state of the inlet (R133, R142): the valve and the two drain timers. -/
structure Inlet where
  valveOpen : Bool
  quiet : Timer
  cap : Timer
deriving DecidableEq, Repr

/-! ## Transaction log, shifts and clock (R147 to R163) -/

/-- The contents of a FILL record (R93). -/
structure FillRecord where
  hose : Hose
  product : Product
  machine : Nat
  fleet : Text
  tag : Option TagId
  account : Nat
  accountCode : Text
  rate : Nat
  start : Nat
  finish : Nat
  unset : Bool
  gross : Nat
  net : Nat
  vcf : Int
  vcfTemp : Int
  limit : Nat
  charge : Nat
  cause : StopCause
  pauses : Nat
  offline : Bool
  manual : Bool
  uncompensated : Bool
  clamped : Bool
  drainCut : Bool
deriving DecidableEq, Repr

/-- The contents of a DELIVERY record (R144). -/
structure DeliveryRecord where
  comp : Comp
  docket : Text
  declared : Option Int
  start : Nat
  finish : Nat
  unset : Bool
  gross : Nat
  net : Nat
  temp : Int
  vcf : Int
  preGauge : Option (Int × Nat)
  postGauge : Option (Int × Nat)
  variance : Option Int
  docketVariance : Option Int
  cause : DeliveryCause
  clamped : Bool
  uncompensated : Bool
  drainCut : Bool
  levelFault : Bool
  above : Bool
deriving DecidableEq, Repr

/-- The contents of an ADJUST record (R152); the GAUGED form is the one with a gauging time. -/
structure AdjustRecord where
  comp : Comp
  gauged : Bool
  reason : Nat
  time : Stamp
  before : Int
  after : Int
  gaugingTime : Option Nat
deriving DecidableEq, Repr

/-- The figures of one compartment in a SHIFT record (R162). -/
structure ShiftFigures where
  opening : Int
  delivered : Int
  dispensed : Int
  adjustments : Int
  closing : Int
  fills : Nat
deriving DecidableEq, Repr

/-- The last gauging of one compartment in a SHIFT record (R162). -/
structure ShiftGauge where
  net : Int
  time : Nat
  stale : Bool
deriving DecidableEq, Repr

/-- The contents of a SHIFT record (R162). -/
structure ShiftRecord where
  opened : Stamp
  closed : Stamp
  figures : PerComp ShiftFigures
  gauges : PerComp (Option ShiftGauge)
deriving DecidableEq, Repr

/-- The record kinds with their contents (section 9.2). -/
inductive RecordBody where
  | fill (r : FillRecord)
  | delivery (r : DeliveryRecord)
  | adjust (r : AdjustRecord)
  | shift (r : ShiftRecord)
deriving DecidableEq, Repr

/-- A stored record (section 9.1); UNSENT is `sent = false`. -/
structure Record where
  seq : Nat
  sent : Bool
  shift : Nat
  body : RecordBody
deriving DecidableEq, Repr

/-- The stored state of the log (section 9.1). -/
structure Log where
  records : List Record
  commitments : Nat
  nextSeq : Nat
deriving DecidableEq, Repr

/-- The volatile state of the log: the near-full watch (R150) and the kept LOG READ answer (R154). -/
structure LogWatch where
  armed : Bool
  kept : Option (List Septet)
deriving DecidableEq, Repr

/-- The stored state of the shift and clock block (section 9.5). -/
structure Shift where
  number : Nat
  opened : Stamp
  fills : PerComp Nat
deriving DecidableEq, Repr

/-! ## Metrology guard (R164 to R174) -/

/-- The nine items of the calibration set (R164). -/
inductive CalItem where
  | meter (m : Meter)
  | alpha (c : Comp)
  | offset (p : Probe)
deriving DecidableEq, Repr

/-- The value of a calibration item. -/
inductive CalValue where
  | bands (l : List Band)
  | alpha (n : Nat)
  | offset (i : Int)
deriving DecidableEq, Repr

/-- An audit trail entry (R170). -/
structure AuditEntry where
  number : Nat
  time : Stamp
  item : CalItem
  old : CalValue
  new : CalValue
deriving DecidableEq, Repr

/-- The stored state of the guard: the set with its check value (R164), the audit counter and the
audit trail (R170). -/
structure Calibration where
  set : CalSet
  check : BitVec 32
  audits : Nat
  trail : List AuditEntry
deriving DecidableEq, Repr

/-- The volatile state of the guard: the metrology state (FAULT is `fault = true`), the calibration
window (OPEN while its timer runs, R166, R167), and the check timer (R173). -/
structure Guard where
  fault : Bool
  window : Timer
  check : Timer
deriving DecidableEq, Repr

/-! ## Park controller (R175 to R183) -/

/-- The park states. -/
inductive ParkState where
  | active | parking | parked | waking
deriving DecidableEq, Repr

/-- The outcomes of a park (R175). -/
inductive ParkOutcome where
  | cancelled | lift | frame | emergency | stockLoss | watchFailed
deriving DecidableEq, Repr

/-- A baseline (R175). -/
structure Baseline where
  net : Int
  level : Nat
  time : Stamp
deriving DecidableEq, Repr

/-- The park controller (R175). -/
structure Park where
  state : ParkState
  baselines : PerComp (Option Baseline)
  awaited : PerComp Bool
  watched : PerComp Bool
  watch : Timer
  confirm : Timer
  outcome : Option ParkOutcome
deriving DecidableEq, Repr

/-- The four site settings (R196); the link timeout OFF is 0. -/
structure SiteConfig where
  linkTimeout : Nat
  offlineCap : Nat
  watchInterval : Nat
  theftThreshold : Nat
deriving DecidableEq, Repr

/-! ## Site link (R184 to R197) -/

/-- The refusal codes (R188). -/
inductive RefusalCode where
  | check | unknown | format | range | state | busy | notFound | duplicate | full | locked | logFull
  | waking
deriving DecidableEq, Repr

/-- A field of an answer, by the type that fixes its size on the line (R184). `present` and `absent`
are the presence group of an optional part; `code` is a value of a named set; `raw` is a fragment of
a long answer (R189). -/
inductive Field where
  | count (n : Nat)
  | count2 (n : Nat)
  | wide (n : Nat)
  | long (n : Nat)
  | signed (i : Int)
  | volume (i : Int)
  | money (n : Nat)
  | time (n : Nat)
  | tag (id : TagId)
  | text (t : Text)
  | code (n : Nat)
  | flag (b : Bool)
  | present
  | absent
  | raw (bs : List Septet)
deriving DecidableEq, Repr

/-- A reply of the part (R188): an answer with its sequence tag, the message code of the request and
the answer's fields, or a refusal with its code and the echo of body byte 0. -/
inductive Reply where
  | answer (tag : SeqTag) (code : Septet) (fields : List Field)
  | refusal (tag : SeqTag) (r : RefusalCode) (echo : Septet)
deriving DecidableEq, Repr

/-- The assembly state of the receiver with the frame in assembly (R185). -/
inductive Assembly where
  | hunt
  | length (lead : LineByte)
  | body (lead : LineByte) (len : Nat) (got : List Septet)
  | checkHigh (lead : LineByte) (got : List Septet)
  | checkLow (lead : LineByte) (got : List Septet) (high : Septet)
deriving DecidableEq, Repr

/-- A long request assembly (R189): the message code, the part number expected next and the
fragments joined so far. -/
structure LongRequest where
  code : Septet
  next : Nat
  got : List Septet
deriving DecidableEq, Repr

/-- The watchdog (R191). -/
inductive Watchdog where
  | stopped
  | suspended
  | running (left : Nat)
deriving DecidableEq, Repr

/-- The six link counters (R190). -/
structure LinkCounters where
  good : Nat
  checkFailures : Nat
  broken : Nat
  byteErrors : Nat
  overlaps : Nat
  unknownFormat : Nat
deriving DecidableEq, Repr

/-- The site link (section 12.2). `sending` holds the reply that is going out; the part is sending
while it is present. -/
structure Link where
  assembly : Assembly
  sending : Option Reply
  longRequest : Option LongRequest
  online : Bool
  watchdog : Watchdog
  counters : LinkCounters
deriving DecidableEq, Repr

/-! ## Alarms, inputs and the whole state -/

/-- The kinds and subjects of the alarm table (section 12.4). -/
inductive Alarm where
  | stockLoss (c : Comp)
  | lowStock (c : Comp)
  | highLevel (c : Comp)
  | overfill (c : Comp)
  | inletFlow (c : Comp)
  | levelProbeFault (c : Comp)
  | tempProbeFault (p : Probe)
  | tempRange (p : Probe)
  | leak (h : Hose)
  | overrun (h : Hose)
  | pumpGuard (c : Comp)
  | tagPolarity (h : Hose)
  | emergency
  | metrologyFault
  | sealOpen
  | logNearFull
deriving DecidableEq, Repr

/-- A pending alarm row (R192): its count and its first occurrence. A row that is not listed in the
alarm table is not pending. -/
structure AlarmRow where
  count : Nat
  first : Stamp
deriving DecidableEq, Repr

/-- The levels of the bowser's discrete inputs as last taken: nozzle switches lifted, emergency stop
active, overfill switches active, seal switch OPEN. -/
structure Inputs where
  lifted : PerHose Bool
  emergency : Bool
  overfill : PerComp Bool
  sealOpen : Bool
deriving DecidableEq, Repr

/-- Whether the part is powered and running, between an accepted RESTART and its start-up (R197), or
without power. -/
inductive Power where
  | on | restarting | off
deriving DecidableEq, Repr

/-- An event that one block has handed to another and that its receiver has yet to take as an event of
its own: a tag report (R34), or a gauging result for a requester (R125). The model's own field. -/
inductive Handed where
  | report (h : Hose) (r : TagReport)
  | result (k : Requester) (c : Comp) (r : GaugeResult)
deriving DecidableEq, Repr

/-- The non-volatile store: the state that the part keeps through a loss of power. -/
structure Store where
  machines : Table MachineEntry
  queue : List Update
  accounts : Table Account
  hoseConfigs : PerHose HoseConfig
  txs : PerHose (Option Transaction)
  pumpConfigs : PerComp PumpConfig
  comps : PerComp Compartment
  delivery : Option Delivery
  selector : Comp
  log : Log
  shift : Shift
  cal : Calibration
  site : SiteConfig
deriving DecidableEq, Repr

/-- The state of the B32. `draws` counts the free values drawn (the model's own field); `pending` is
the queue of commands that wait and `line` the bytes that have arrived on the line and that the receiver
has yet to take, both first in, first out. -/
structure State where
  store : Store
  clock : Stamp
  channels : PerHose Channel
  hoses : PerHose HoseCtl
  meters : PerMeter MeterCtl
  sources : PerProbe Source
  pumps : PerComp Pump
  units : PerComp CompUnit
  inlet : Inlet
  logWatch : LogWatch
  guard : Guard
  park : Park
  link : Link
  alarms : Table AlarmRow
  inputs : Inputs
  power : Power
  handed : List Handed
  draws : Nat
  pending : List Instr
  line : List LineByte
deriving DecidableEq, Repr

/-! ## Start-up values and the state after reset -/

/-- R101: a hose at rest, in a state of its own, with no timer, no notice and its valve CLOSED. -/
def HoseCtl.atRest (st : HoseState) : HoseCtl :=
  { state := st, valve := .closed, stage := .start, lowUntil := 0, nearEndGiven := false,
    identify := .stopped, approval := .stopped, noFlow := .stopped, grace := .stopped,
    quiet := .stopped, cap := .stopped, nearEnd := false, completion := none }

/-- R23: a channel after start-up. -/
def Channel.started : Channel :=
  { state := .off, inverted := false, run := 0, hold := .stopped, valids := 0, checkBads := 0,
    badStarts := 0, switches := 0 }

/-- R19, R113: a meter after start-up. -/
def MeterCtl.started : MeterCtl := { band := 1, acc := 0, flow := 0, interval := .stopped, strays := 0 }

/-- R13: a temperature source after start-up. -/
def Source.started : Source := { state := .valid, held := none, hold := .stopped }

/-- Section 7.1: the volatile part of a compartment unit at the beginning of start-up. -/
def CompUnit.started : CompUnit := { armed := true, level := none, run := .idle }

/-- R133: the inlet after start-up. -/
def Inlet.started : Inlet := { valveOpen := false, quiet := .stopped, cap := .stopped }

/-- R150, R154: the log's volatile state at the beginning of start-up. -/
def LogWatch.started : LogWatch := { armed := true, kept := none }

/-- R166, R173: the guard after start-up, before its check. -/
def Guard.started : Guard := { fault := false, window := .stopped, check := .running Config.checkTime }

/-- R175: the park controller after start-up. -/
def Park.started : Park :=
  { state := .active, baselines := .all none, awaited := .all false, watched := .all false,
    watch := .stopped, confirm := .stopped, outcome := none }

/-- R190: the link counters after start-up. -/
def LinkCounters.zero : LinkCounters :=
  { good := 0, checkFailures := 0, broken := 0, byteErrors := 0, overlaps := 0, unknownFormat := 0 }

/-- Section 12.2: the site link after start-up. -/
def Link.started : Link :=
  { assembly := .hunt, sending := none, longRequest := none, online := false, watchdog := .stopped,
    counters := .zero }

/-- R100, section 5.9: a hose's settings as shipped. -/
def HoseConfig.shipped : HoseConfig :=
  { identifyTime := 120, approvalTime := 60, approval := false, holdPeriod := 750,
    minimumGrant := 1000, overrunAllowance := 500, startVolume := 300, taperVolume := 1500,
    noFlowTime := 45, resumeGrace := 10, enabled := true }

/-- R102: a pump's settings as shipped. -/
def PumpConfig.shipped : PumpConfig := { maxRun := 20, restTime := 120 }

/-- R127: the last gauging as shipped. -/
def LastGauging.shipped : LastGauging := { ok := false, stale := true, values := none }

/-- R114: a compartment as shipped, by its capacity and low-stock level. -/
def Compartment.shipped (capacity lowStock : Nat) : Compartment :=
  { capacity := capacity, reserveLevel := 0, lowStock := lowStock, cutoff := 38000, window := 20,
    strapping := [⟨0, 0⟩, ⟨40000, capacity⟩], book := 0, opening := 0, delivered := 0, dispensed := 0,
    adjustments := 0, reservations := 0, inhibit := none, gauging := .shipped }

/-- R164: the calibration set as shipped. -/
def shippedSet : CalSet := { bands := .all [⟨0, 10000⟩], alpha := ⟨830, 400⟩, offset := .all 0 }

/-- The non-volatile store as shipped: no machine (R37), no account (R52), an empty queue (R43), hoses
enabled with their shipped settings, books of 0 (R114), no delivery (R133), an empty log (section 9.1),
shift 1 (section 9.5), the shipped calibration set with its check value (R164), and the shipped site
settings (R196). -/
def Store.shipped : Store :=
  { machines := [], queue := [], accounts := [], hoseConfigs := .all .shipped, txs := .all none,
    pumpConfigs := .all .shipped, comps := ⟨.shipped 30000000 3000000, .shipped 3000000 300000⟩,
    delivery := none, selector := .c1, log := { records := [], commitments := 0, nextSeq := 1 },
    shift := { number := 1, opened := ⟨0, true⟩, fills := .all 0 },
    cal := { set := shippedSet, check := Config.checkFunction shippedSet, audits := 0, trail := [] },
    site := { linkTimeout := 30, offlineCap := 200000, watchInterval := 60, theftThreshold := 20000 } }

/-- The bowser's inputs at reset: every nozzle hung, the emergency stop and the overfill switches
inactive, the seal CLOSED (DESIGN CHOICE, assumption 1). -/
def Inputs.quiet : Inputs :=
  { lifted := .all false, emergency := false, overfill := .all false, sealOpen := false }

/-- The part right after reset: as shipped, after its first power-on start-up. The books of 0 are at
their low-stock levels, so start-up has raised LOW_STOCK(C1) and LOW_STOCK(C2), rows 2 and 3, at clock
0 with the clock unset, and has cleared the low-stock armed flags (R117, R158, R192). -/
def State.reset : State :=
  { store := .shipped, clock := ⟨0, true⟩, channels := .all .started, hoses := .all (.atRest .idle),
    meters := .all .started, sources := .all .started, pumps := .all .off,
    units := .all { armed := false, level := none, run := .idle }, inlet := .started,
    logWatch := .started, guard := .started, park := .started, link := .started,
    alarms := [(2, ⟨1, ⟨0, true⟩⟩), (3, ⟨1, ⟨0, true⟩⟩)], inputs := .quiet, power := .on, handed := [],
    draws := 0, pending := [], line := [] }

end Sys2Proof.Machine
end

