-- ==== Sys2Proof/Machine/Ops.lean ====
section
/-! DEFINITION. The operations that every family shares: setting one field of the state, updating one
row of a table, saturating counters, and raising an alarm (R192). -/

namespace Sys2Proof.Machine

/-! ## One field at a time -/

def State.setMachines (v : Table MachineEntry) (s : State) : State :=
  { s with store := { s.store with machines := v } }

def State.setQueue (v : List Update) (s : State) : State :=
  { s with store := { s.store with queue := v } }

def State.setAccounts (v : Table Account) (s : State) : State :=
  { s with store := { s.store with accounts := v } }

def State.setHoseConfigs (v : PerHose HoseConfig) (s : State) : State :=
  { s with store := { s.store with hoseConfigs := v } }

def State.setTxs (v : PerHose (Option Transaction)) (s : State) : State :=
  { s with store := { s.store with txs := v } }

def State.setPumpConfigs (v : PerComp PumpConfig) (s : State) : State :=
  { s with store := { s.store with pumpConfigs := v } }

def State.setComps (v : PerComp Compartment) (s : State) : State :=
  { s with store := { s.store with comps := v } }

def State.setDelivery (v : Option Delivery) (s : State) : State :=
  { s with store := { s.store with delivery := v } }

def State.setSelector (v : Comp) (s : State) : State :=
  { s with store := { s.store with selector := v } }

def State.setLog (v : Log) (s : State) : State :=
  { s with store := { s.store with log := v } }

def State.setShift (v : Shift) (s : State) : State :=
  { s with store := { s.store with shift := v } }

def State.setCal (v : Calibration) (s : State) : State :=
  { s with store := { s.store with cal := v } }

def State.setSite (v : SiteConfig) (s : State) : State :=
  { s with store := { s.store with site := v } }

def State.setClock (v : Stamp) (s : State) : State := { s with clock := v }

def State.setChannels (v : PerHose Channel) (s : State) : State := { s with channels := v }

def State.setHoses (v : PerHose HoseCtl) (s : State) : State := { s with hoses := v }

def State.setMeters (v : PerMeter MeterCtl) (s : State) : State := { s with meters := v }

def State.setSources (v : PerProbe Source) (s : State) : State := { s with sources := v }

def State.setPumps (v : PerComp Pump) (s : State) : State := { s with pumps := v }

def State.setUnits (v : PerComp CompUnit) (s : State) : State := { s with units := v }

def State.setInlet (v : Inlet) (s : State) : State := { s with inlet := v }

def State.setLogWatch (v : LogWatch) (s : State) : State := { s with logWatch := v }

def State.setGuard (v : Guard) (s : State) : State := { s with guard := v }

def State.setPark (v : Park) (s : State) : State := { s with park := v }

def State.setLink (v : Link) (s : State) : State := { s with link := v }

def State.setAlarms (v : Table AlarmRow) (s : State) : State := { s with alarms := v }

def State.setInputs (v : Inputs) (s : State) : State := { s with inputs := v }

def State.setPower (v : Power) (s : State) : State := { s with power := v }

def State.setHanded (v : List Handed) (s : State) : State := { s with handed := v }

def State.setDraws (v : Nat) (s : State) : State := { s with draws := v }

def State.setPending (v : List Instr) (s : State) : State := { s with pending := v }

def State.setLine (v : List LineByte) (s : State) : State := { s with line := v }

/-! ## One hose, compartment, meter, probe at a time -/

abbrev State.hose (s : State) (h : Hose) : HoseCtl := s.hoses.get h
abbrev State.config (s : State) (h : Hose) : HoseConfig := s.store.hoseConfigs.get h
abbrev State.tx (s : State) (h : Hose) : Option Transaction := s.store.txs.get h
abbrev State.channel (s : State) (h : Hose) : Channel := s.channels.get h
abbrev State.comp (s : State) (c : Comp) : Compartment := s.store.comps.get c
abbrev State.unit (s : State) (c : Comp) : CompUnit := s.units.get c
abbrev State.pump (s : State) (c : Comp) : Pump := s.pumps.get c
abbrev State.meter (s : State) (m : Meter) : MeterCtl := s.meters.get m
abbrev State.source (s : State) (p : Probe) : Source := s.sources.get p

abbrev State.putHose (h : Hose) (v : HoseCtl) (s : State) : State := s.setHoses (s.hoses.set h v)
abbrev State.putTx (h : Hose) (v : Option Transaction) (s : State) : State :=
  s.setTxs (s.store.txs.set h v)
abbrev State.putConfig (h : Hose) (v : HoseConfig) (s : State) : State :=
  s.setHoseConfigs (s.store.hoseConfigs.set h v)
abbrev State.putChannel (h : Hose) (v : Channel) (s : State) : State :=
  s.setChannels (s.channels.set h v)
abbrev State.putComp (c : Comp) (v : Compartment) (s : State) : State :=
  s.setComps (s.store.comps.set c v)
abbrev State.putUnit (c : Comp) (v : CompUnit) (s : State) : State := s.setUnits (s.units.set c v)
abbrev State.putPump (c : Comp) (v : Pump) (s : State) : State := s.setPumps (s.pumps.set c v)
abbrev State.putMeter (m : Meter) (v : MeterCtl) (s : State) : State := s.setMeters (s.meters.set m v)
abbrev State.putSource (p : Probe) (v : Source) (s : State) : State := s.setSources (s.sources.set p v)

/-- The site clock as a time stamp (R153). -/
abbrev State.now (s : State) : Stamp := s.clock

/-- The part takes bowser inputs, timer expiries and handed events: it is powered and no accepted
RESTART awaits its start-up (R197). -/
def State.live (s : State) : Bool := decide (s.power = .on)

/-! ## Tables -/

/-- The row of index `k`, if the table lists one. -/
def tableFind {α : Type} : Table α → Nat → Option α
  | [], _ => none
  | (j, a) :: rest, k => if j = k then some a else tableFind rest k

/-- The table with row `k` set to `a`, its indices still ascending. -/
def tablePut {α : Type} : Table α → Nat → α → Table α
  | [], k, a => [(k, a)]
  | (j, b) :: rest, k, a =>
    if k < j then (k, a) :: (j, b) :: rest
    else if k = j then (k, a) :: rest
    else (j, b) :: tablePut rest k a

/-- The table without row `k`. -/
def tableErase {α : Type} (t : Table α) (k : Nat) : Table α := t.filter fun e => decide (e.1 ≠ k)

/-- The table with every row changed by `f`. -/
def tableMap {α : Type} (f : α → α) (t : Table α) : Table α := t.map fun e => (e.1, f e.2)

abbrev State.machine (s : State) (k : Nat) : Option MachineEntry := tableFind s.store.machines k
abbrev State.account (s : State) (k : Nat) : Option Account := tableFind s.store.accounts k

/-- Change machine entry `k`, if it is not EMPTY. -/
def State.onMachine (k : Nat) (f : MachineEntry → MachineEntry) (s : State) : State :=
  match s.machine k with
  | some m => s.setMachines (tablePut s.store.machines k (f m))
  | none => s

/-- Change account `k`, if it is not EMPTY. -/
def State.onAccount (k : Nat) (f : Account → Account) (s : State) : State :=
  match s.account k with
  | some a => s.setAccounts (tablePut s.store.accounts k (f a))
  | none => s

/-! ## Counters and alarms -/

/-- A counter that saturates (00_scope.md, "Counters, flags and notices"). -/
def bump (limit n : Nat) : Nat := min (n + 1) limit

/-- A total that saturates (R41, R52). -/
def addUpTo (limit n k : Nat) : Nat := min (n + k) limit

/-- Section 12.4: the row number of an alarm. -/
def Alarm.row : Alarm → Nat
  | .stockLoss .c1 => 0 | .stockLoss .c2 => 1
  | .lowStock .c1 => 2 | .lowStock .c2 => 3
  | .highLevel .c1 => 4 | .highLevel .c2 => 5
  | .overfill .c1 => 6 | .overfill .c2 => 7
  | .inletFlow .c1 => 8 | .inletFlow .c2 => 9
  | .levelProbeFault .c1 => 10 | .levelProbeFault .c2 => 11
  | .tempProbeFault .p1 => 12 | .tempProbeFault .p2 => 13 | .tempProbeFault .p3 => 14
  | .tempRange .p1 => 15 | .tempRange .p2 => 16 | .tempRange .p3 => 17
  | .leak .h1 => 18 | .leak .h2 => 19 | .leak .h3 => 20
  | .overrun .h1 => 21 | .overrun .h2 => 22 | .overrun .h3 => 23
  | .pumpGuard .c1 => 24 | .pumpGuard .c2 => 25
  | .tagPolarity .h1 => 26 | .tagPolarity .h2 => 27 | .tagPolarity .h3 => 28
  | .emergency => 29
  | .metrologyFault => 30
  | .sealOpen => 31
  | .logNearFull => 32

/-- R192: a row after a raise at time `now`. -/
def raisedRow (now : Stamp) : Option AlarmRow → AlarmRow
  | none => { count := 1, first := now }
  | some r => { r with count := bump 255 r.count }

/-- R192: a raise of an alarm. -/
def raiseAlarm (a : Alarm) (s : State) : State :=
  s.setAlarms (tablePut s.alarms a.row (raisedRow s.now (tableFind s.alarms a.row)))

/-- R34, R125: hand an event to its receiver, which takes it as an event of its own. -/
def handOver (e : Handed) (s : State) : State := s.setHanded (s.handed ++ [e])

/-- The receiver takes a handed event: its first occurrence no longer waits. -/
def takeHanded (e : Handed) (s : State) : State := s.setHanded (s.handed.erase e)

/-! ## The wiring of the bowser (00_scope.md, section 1.1) -/

/-- The compartment a hose draws from. -/
def compOf : Hose → Comp
  | .h1 => .c1
  | .h2 => .c1
  | .h3 => .c2

/-- The product of a compartment. -/
def productIn : Comp → Product
  | .c1 => .diesel
  | .c2 => .fluid

/-- The product a hose dispenses. -/
def productOf (h : Hose) : Product := productIn (compOf h)

/-- The hoses of a compartment. -/
def hosesOf : Comp → List Hose
  | .c1 => [.h1, .h2]
  | .c2 => [.h3]

/-- The meter of a hose. -/
def meterOf : Hose → Meter
  | .h1 => .m1
  | .h2 => .m2
  | .h3 => .m3

/-- The temperature probe of a compartment. -/
def probeOf : Comp → Probe
  | .c1 => .p1
  | .c2 => .p2

/-- The hoses in order. -/
def allHoses : List Hose := [.h1, .h2, .h3]

/-- The number of a hose on the line. -/
def hoseNumber : Hose → Nat
  | .h1 => 1
  | .h2 => 2
  | .h3 => 3

/-- The number of a compartment on the line. -/
def compNumber : Comp → Nat
  | .c1 => 1
  | .c2 => 2

/-- The number of a meter on the line. -/
def meterNumber : Meter → Nat
  | .m1 => 1
  | .m2 => 2
  | .m3 => 3
  | .m4 => 4

/-- The hose of a number, when it is 1 to 3. -/
def hoseOfNumber : Nat → Option Hose
  | 1 => some .h1
  | 2 => some .h2
  | 3 => some .h3
  | _ => none

/-- The compartment (or pump) of a number, when it is 1 or 2. -/
def compOfNumber : Nat → Option Comp
  | 1 => some .c1
  | 2 => some .c2
  | _ => none

end Sys2Proof.Machine
end

