-- ==== Sys2Proof/Machine/Channels.lean ====
section
/-! DEFINITION. The tag channels (chapter 02): the classes of the front end (R21, R22), and what each
class, the hold timer, enabling and going OFF do to a channel (R24 to R33). -/

namespace Sys2Proof.Machine

/-! ## The front end (R21, R22) -/

/-- A candidate frame as the front end sees it: a start pair and an end pair found, in either polarity,
and what it decodes to read as received (`normal`) and with every chip inverted (`flipped`): the tag ID
and the check byte, or nothing where a data or check position holds no data symbol. -/
structure Candidate where
  startPair : Bool
  endPair : Bool
  normal : Option (TagId × BitVec 8)
  flipped : Option (TagId × BitVec 8)
deriving DecidableEq, Repr

/-- The frame classes (R22). -/
inductive FrameClass where
  | badStart
  | valid (id : TagId)
  | inverted (id : TagId)
  | checkBad
deriving DecidableEq, Repr

/-- R21: the sum of the five bytes of the ID and the check byte is a multiple of 256. -/
def idChecks (id : TagId) (check : BitVec 8) : Bool :=
  decide ((id.toNat / 2 ^ 32 % 256 + id.toNat / 2 ^ 24 % 256 + id.toNat / 2 ^ 16 % 256 +
    id.toNat / 2 ^ 8 % 256 + id.toNat % 256 + check.toNat) % 256 = 0)

/-- R21: the ID of a reading that decodes and checks. -/
def checkedId : Option (TagId × BitVec 8) → Option TagId
  | some (id, check) => if idChecks id check then some id else none
  | none => none

/-- R21, R22: the class of a candidate in the channel's polarity; none where the front end discards it
because its end pair was not found. -/
def classify (inverted : Bool) (c : Candidate) : Option FrameClass :=
  let current := if inverted then c.flipped else c.normal
  let opposite := if inverted then c.normal else c.flipped
  if c.startPair = false then some .badStart
  else if c.endPair = false then none
  else match checkedId current, checkedId opposite with
    | some id, _ => some (.valid id)
    | none, some id => some (.inverted id)
    | none, none => some .checkBad

/-- The command that a class report is. -/
def classCommand (ch : Hose) : FrameClass → Instr
  | .badStart => .badStart ch
  | .valid id => .valid ch id
  | .inverted id => .inverted ch id
  | .checkBad => .checkBad ch

/-! ## The channel (R24 to R33) -/

/-- The channel is enabled: its state is other than OFF (R24). -/
def Channel.enabled (c : Channel) : Bool := decide (c.state ≠ .off)

/-- R24: the channel is enabled and searches; polarity and counters are kept. -/
def Channel.enable (c : Channel) : Channel :=
  { c with state := .searching, run := 0, hold := .stopped }

/-- R25: the channel goes OFF; polarity and counters are kept. -/
def Channel.turnOff (c : Channel) : Channel := { c with state := .off, run := 0, hold := .stopped }

/-- R30 to R32: the state after a VALID frame with the report it gives and whether the hold timer
(re)starts. -/
def afterValid (st : ChannelState) (id : TagId) : ChannelState × Option TagReport × Bool :=
  match st with
  | .off => (.off, none, false)
  | .searching => (.acquiring id 1, none, true)
  | .acquiring cand n =>
    if id = cand then
      if n + 1 = 3 then (.confirmed id none, some (.confirmed id), true)
      else (.acquiring cand (n + 1), none, true)
    else (.acquiring id 1, none, true)
  | .confirmed own chal =>
    if id = own then (.confirmed own none, none, true)
    else match chal with
      | none => (.confirmed own (some (id, 1)), none, false)
      | some (other, n) =>
        if id = other then
          if n + 1 = 3 then (.confirmed id none, some (.changed id), true)
          else (.confirmed own (some (other, n + 1)), none, false)
        else (.confirmed own (some (id, 1)), none, false)

/-- R26, R29 to R32: the channel after a VALID frame, by the hold period in force. -/
def Channel.onValid (period : Nat) (id : TagId) (c : Channel) : Channel :=
  let r := afterValid c.state id
  { c with
    state := r.1
    run := 0
    hold := if r.2.2 then .running period else c.hold
    valids := bump Config.counterMax c.valids }

/-- R27: the channel after an INVERTED frame; the third in a run flips the polarity. -/
def Channel.onInverted (c : Channel) : Channel :=
  if c.run + 1 = 3 then
    { c with inverted := !c.inverted, run := 0, switches := bump Config.counterMax c.switches }
  else { c with run := c.run + 1 }

/-- R28: the channel after a CHECK_BAD frame. -/
def Channel.onCheckBad (c : Channel) : Channel :=
  { c with checkBads := bump Config.counterMax c.checkBads }

/-- R28: the channel after a BAD_START frame. -/
def Channel.onBadStart (c : Channel) : Channel :=
  { c with badStarts := bump Config.counterMax c.badStarts }

/-- R30, R33: the channel after the expiry of its hold timer. -/
def Channel.onHoldExpiry (c : Channel) : Channel := { c with state := .searching, hold := .stopped }

/-- R25: turn the channel of a hose OFF. -/
def channelOff (h : Hose) (s : State) : State := s.putChannel h (s.channel h).turnOff

/-- R24: enable the channel of a hose. -/
def channelOn (h : Hose) (s : State) : State := s.putChannel h (s.channel h).enable

/-- R34: hand the report of a channel to its own hose, if it gives one. -/
def report (h : Hose) (r : Option TagReport) (s : State) : State :=
  match r with
  | some r => handOver (.report h r) s
  | none => s

end Sys2Proof.Machine
end

