-- ==== Sys2Proof/Machine/Metering.lean ====
section
/-! DEFINITION. The volume computer and the temperature sources (chapter 01): counting a pulse, the rate
interval and band selection, the compensation temperature, the volume correction factor and the charge. -/

namespace Sys2Proof.Machine

/-! ## The compensation temperature (R9 to R13) -/

/-- R10: the source after a reading that gives T. -/
def readSource (t : Int) : Source :=
  if t < -4000 then { state := .clamped, held := some (-4000), hold := .stopped }
  else if 7000 < t then { state := .clamped, held := some 7000, hold := .stopped }
  else { state := .valid, held := some t, hold := .stopped }

/-- R10: a reading moves the source to VALID or CLAMPED; entering CLAMPED from another state raises
TEMP_RANGE. R9: T is the reading plus the probe's offset. -/
def takeReading (p : Probe) (reading : Int) (s : State) : State :=
  let new := readSource (reading + s.store.cal.set.offset.get p)
  if new.state = .clamped ∧ (s.source p).state ≠ .clamped then
    raiseAlarm (.tempRange p) (s.putSource p new)
  else s.putSource p new

/-- R11: the source enters DEFAULT, and PROBE_FAULT of the probe is raised. -/
def enterDefault (p : Probe) (s : State) : State :=
  raiseAlarm (.tempProbeFault p)
    (s.putSource p { s.source p with state := .defaulted, hold := .stopped })

/-- R11, R13: a fault indication starts a hold of the held temperature, or leads to DEFAULT when there
is nothing to hold. -/
def takeFault (p : Probe) (s : State) : State :=
  match (s.source p).state, (s.source p).held with
  | .valid, some _ | .clamped, some _ =>
    s.putSource p { s.source p with state := .holding, hold := .running Config.holdTime }
  | .valid, none | .clamped, none => enterDefault p s
  | .holding, _ | .defaulted, _ => s

/-- R12: the temperature that a source gives. -/
def sourceTemp (src : Source) : Int :=
  match src.state with
  | .defaulted => 1500
  | .valid | .clamped | .holding => src.held.getD 1500

/-- R17: a computation from this source sets UNCOMPENSATED. -/
def sourceUncompensated (src : Source) : Bool :=
  match src.state with
  | .defaulted => true
  | .valid => src.held.isNone
  | .clamped | .holding => false

/-- R17: a computation from this source sets TEMP_CLAMPED. -/
def sourceClamped (src : Source) : Bool := decide (src.state = .clamped)

/-! ## The volume correction factor (R14 to R17) -/

/-- 00_scope.md, "Arithmetic": the nearest integer to x / 100, halves rounded away from zero. -/
def roundHundredths (x : Int) : Int :=
  if 0 ≤ x then (x + 50) / 100 else -((-x + 50) / 100)

/-- R15: the VCF of a coefficient and a temperature, in ppm. A coefficient beyond its range of 0 to 2,000
gives a free value within the bounds of R15's law, 890,000 to 1,110,000 (assumption 45). -/
def vcfOf (alpha : Nat) (temp : Int) : Int :=
  if alpha ≤ 2000 then 1000000 - roundHundredths ((alpha : Int) * (temp - 1500))
  else 890000 + ((Config.disturbedVcf alpha temp % 220001 : Nat) : Int)

/-- R16, R17: a VCF computation for an operation's volume state. -/
def applyVcf (alpha : Nat) (src : Source) (v : Volume) : Volume :=
  { v with
    vcf := vcfOf alpha (sourceTemp src)
    vcfTemp := sourceTemp src
    clamped := v.clamped || sourceClamped src
    uncompensated := v.uncompensated || sourceUncompensated src }

/-- R4, R17, R76: the volume state of an operation that starts. -/
def Volume.zero : Volume :=
  { gross := 0, net := 0, remainder := 0, vcf := 0, vcfTemp := 0, clamped := false,
    uncompensated := false }

/-- R14, R16: a VCF computation for an operation of a compartment from a probe's source. -/
def computeVcf (c : Comp) (p : Probe) (s : State) (v : Volume) : Volume :=
  applyVcf (s.store.cal.set.alpha.get c) (s.source p) v

/-! ## Counting (R3 to R5) -/

/-- R3, R4: the volume state after a counted pulse of factor `f`. -/
def countVolume (f : Nat) (v : Volume) : Volume :=
  let x : Int := (f : Int) * v.vcf + (v.remainder : Int)
  { v with
    gross := addUpTo Config.volumeMax v.gross f
    net := addUpTo Config.volumeMax v.net (x / 1000000).toNat
    remainder := (x % 1000000).toNat }

/-- R5: gross in whole mL. -/
def Volume.grossMl (v : Volume) : Nat := v.gross / 1000

/-- R5: net in whole mL. -/
def Volume.netMl (v : Volume) : Nat := v.net / 1000

/-- R3: the factor of the meter's current band. A list without that band gives a free value. -/
def pulseFactor (m : Meter) (s : State) : Nat :=
  match (s.store.cal.set.bands.get m)[(s.meter m).band - 1]? with
  | some b => b.factor
  | none => Config.missingFactor s.draws

/-- The count of free values drawn after a pulse of a meter. -/
def drawFactor (m : Meter) (s : State) : State :=
  match (s.store.cal.set.bands.get m)[(s.meter m).band - 1]? with
  | some _ => s
  | none => s.setDraws (s.draws + 1)

/-- R3: the factor is added to the meter's interval accumulator. -/
def addToInterval (m : Meter) (f : Nat) (s : State) : State :=
  s.putMeter m { s.meter m with acc := addUpTo Config.intervalMax (s.meter m).acc f }

/-! ## The rate interval (R6, R7) -/

/-- R6: the meter's rate interval starts in band 1. -/
def startInterval (m : Meter) (s : State) : State :=
  s.putMeter m { s.meter m with band := 1, acc := 0, interval := .running 1 }

/-- R6: the meter's rate interval stops, and the volume counted in it is discarded. -/
def stopInterval (m : Meter) (s : State) : State :=
  s.putMeter m { s.meter m with acc := 0, interval := .stopped }

/-- R7 step 1: the flow rate of an interval, in tenths of a litre per minute. -/
def flowRate (acc : Nat) : Nat := acc * 6 / 10000

/-- R7 step 2: the band of the highest number, counting from `i`, whose lower bound is not greater than
the flow rate. -/
def selectBand (flow : Nat) : Nat → List Band → Option Nat → Option Nat
  | _, [], best => best
  | i, b :: rest, best => selectBand flow (i + 1) rest (if b.lower ≤ flow then some i else best)

/-- R7 steps 1, 2 and 4 at the meter: flow rate and band from the interval that ends, and the next
interval begins. A list with no band to select gives a free band of 1 to 4. -/
def endInterval (m : Meter) (s : State) : State :=
  let mc := s.meter m
  let flow := flowRate mc.acc
  match selectBand flow 1 (s.store.cal.set.bands.get m) none with
  | some band => s.putMeter m { mc with band := band, acc := 0, flow := flow, interval := .running 1 }
  | none =>
    (s.putMeter m { mc with band := Config.missingBand s.draws % 4 + 1, acc := 0, flow := flow,
                            interval := .running 1 }).setDraws (s.draws + 1)

/-- R16: the applied VCF of a hose's transaction is recomputed. -/
def recomputeHose (h : Hose) (s : State) : State :=
  match s.tx h with
  | some tx =>
    s.putTx h (some { tx with volume := computeVcf (compOf h) (probeOf (compOf h)) s tx.volume })
  | none => s

/-- R7 step 3: the applied VCF of the meter's operation is recomputed. -/
def recomputeVcf (m : Meter) (s : State) : State :=
  match m with
  | .m1 => recomputeHose .h1 s
  | .m2 => recomputeHose .h2 s
  | .m3 => recomputeHose .h3 s
  | .m4 =>
    match s.store.delivery with
    | some d => s.setDelivery (some { d with volume := computeVcf d.comp .p3 s d.volume })
    | none => s

/-! ## The charge -/

/-- R18: the charge of a fill, in cents. -/
def chargeOf (net rate : Nat) : Nat := (net * rate + 5000) / 10000

end Sys2Proof.Machine
end

