-- ==== Sys2Proof/Machine/Gauging.lean ====
section
/-! DEFINITION. Compartments, pumps' demand and gauging runs (chapters 06 and 07): the book and the
low-stock watch, pump demand, rest, the strapping table, and the life of a gauging run. -/

namespace Sys2Proof.Machine

/-! ## The book (R115 to R117, R128) -/

/-- R117: the low-stock watch is evaluated. -/
def watchStock (c : Comp) (s : State) : State :=
  let low := decide ((s.comp c).book ≤ ((s.comp c).lowStock : Int))
  if (s.unit c).armed then
    if low then raiseAlarm (.lowStock c) (s.putUnit c { s.unit c with armed := false }) else s
  else if low then s
  else s.putUnit c { s.unit c with armed := true }

/-- R128: the STALE flag of the last gauging is set. -/
def setStale (c : Comp) (s : State) : State :=
  s.putComp c { s.comp c with gauging := { (s.comp c).gauging with stale := true } }

/-- R115: a change of the book is followed by the STALE rule and the low-stock watch. -/
def afterBookChange (c : Comp) (s : State) : State := watchStock c (setStale c s)

/-- R116: the available stock. -/
def available (c : Compartment) : Int := c.book - (c.reserveLevel : Int) - (c.reservations : Int)

/-! ## Pump demand (R103) -/

/-- A hose is FLOWING. -/
def flowing (s : State) (h : Hose) : Bool := decide ((s.hose h).state = .flowing)

/-- A hose is DRAINING. -/
def draining (s : State) (h : Hose) : Bool := decide ((s.hose h).state = .draining)

/-- R103: the compartment's pump has demand. -/
def demand (c : Comp) (s : State) : Bool :=
  (hosesOf c).any (flowing s) && (s.comp c).inhibit.isNone && !s.inputs.emergency

/-- R103: pump demand is evaluated. -/
def evalPump (c : Comp) (s : State) : State :=
  match s.pump c with
  | .off => if demand c s then s.putPump c (.running 0) else s
  | .running _ => if demand c s then s else s.putPump c .off
  | .resting _ => s

/-! ## Rest (R122) -/

/-- The pump is RUNNING. -/
def Pump.isRunning : Pump → Bool
  | .running _ => true
  | .off | .resting _ => false

/-- R122: a delivery into the compartment is in DRAINING. -/
def deliveryDraining (c : Comp) (s : State) : Bool :=
  match s.store.delivery with
  | some d => decide (d.comp = c ∧ d.state = .draining)
  | none => false

/-- R122: the compartment is at rest. -/
def atRest (c : Comp) (s : State) : Bool :=
  !(s.pump c).isRunning && !(s.inlet.valveOpen && decide (s.store.selector = c)) &&
    !((hosesOf c).any (draining s)) && !deliveryDraining c s

/-! ## Gauging runs (R123 to R126) -/

/-- R123: the requester list of a run. -/
def Run.requesters : Run → List Requester
  | .idle => []
  | .pending reqs => reqs
  | .sampling reqs _ _ _ => reqs

def setRun (c : Comp) (r : Run) (s : State) : State := s.putUnit c { s.unit c with run := r }

/-- R122, R124: rest is evaluated: a PENDING run enters SAMPLING at rest with the gauge window in
force, and a SAMPLING run returns to PENDING at the loss of rest. -/
def evalRest (c : Comp) (s : State) : State :=
  match (s.unit c).run with
  | .idle => s
  | .pending reqs => if atRest c s then setRun c (.sampling reqs (s.comp c).window 0 0) s else s
  | .sampling reqs _ _ _ => if atRest c s then s else setRun c (.pending reqs) s

/-- The evaluations that follow a change in a compartment's hoses, inhibit or inlet: pump demand
(R103), then rest (R122). -/
def settle (c : Comp) (s : State) : State := evalRest c (evalPump c s)

/-- R123: a request for a gauging run. -/
def requestRun (c : Comp) (k : Requester) (s : State) : State :=
  match (s.unit c).run with
  | .idle => evalRest c (setRun c (.pending [k]) s)
  | .pending reqs => if k ∈ reqs then s else setRun c (.pending (reqs ++ [k])) s
  | .sampling reqs w n sum => if k ∈ reqs then s else setRun c (.sampling (reqs ++ [k]) w n sum) s

/-- R123: a requester withdraws; a run left with no requester returns to IDLE. -/
def withdraw (c : Comp) (k : Requester) (s : State) : State :=
  match (s.unit c).run with
  | .idle => s
  | .pending reqs =>
    setRun c (if reqs.erase k = [] then .idle else .pending (reqs.erase k)) s
  | .sampling reqs w n sum =>
    setRun c (if reqs.erase k = [] then .idle else .sampling (reqs.erase k) w n sum) s

/-- The event is a gauging result for a requester kind from a compartment. -/
def Handed.isResult (c : Comp) (k : Requester) : Handed → Bool
  | .result j d _ => decide (j = k ∧ d = c)
  | .report _ _ => false

/-- R135, R178: a requester that cancels withdraws from the run (R123), and no result of the run reaches it any
longer: one that is handed over and not yet taken is dropped (assumption 43). -/
def cancelRequest (c : Comp) (k : Requester) (s : State) : State :=
  let s := withdraw c k s
  s.setHanded (s.handed.filter fun e => !e.isResult c k)

/-- R121: the gross volume of a level by interpolation in a strapping table, and ABOVE_TABLE. -/
def strapGross : List Point → Nat → Nat × Bool
  | [], _ => (0, false)
  | [p], level => (p.volume, decide (p.level < level))
  | p :: q :: rest, level =>
    if level < p.level then (p.volume, false)
    else if level < q.level then
      (p.volume + (level - p.level) * (q.volume - p.volume) / (q.level - p.level), false)
    else strapGross (q :: rest) level

/-- R121: the net volume of a gross at a VCF. -/
def netOf (gross : Nat) (vcf : Int) : Int := (gross : Int) * vcf / 1000000

/-- R121, R125: the reading of a mean level of compartment `c`, with the temperature, the coefficient
and the strapping table as they stand. -/
def gaugeLevel (c : Comp) (level : Nat) (s : State) : GaugeReading :=
  let g := strapGross (s.comp c).strapping level
  let vcf := vcfOf (s.store.cal.set.alpha.get c) (sourceTemp (s.source (probeOf c)))
  { time := s.now, level := level, gross := g.1, net := netOf g.1 vcf, above := g.2 }

/-- R125: the value group that a completed run leaves. -/
def valuesOf (c : Comp) (r : GaugeReading) (s : State) : GaugeValues :=
  { time := r.time, level := r.level, temp := sourceTemp (s.source (probeOf c)), gross := r.gross,
    net := r.net, variance := r.net - (s.comp c).book, above := r.above }

/-- R125: the result is handed to each requester in the list, in joining order. The host takes no
notice; it reads the result with GAUGE READ. -/
def handResults (c : Comp) (r : GaugeResult) (reqs : List Requester) (s : State) : State :=
  reqs.foldl (fun s k => if k = .host then s else handOver (.result k c r) s) s

/-- R125: a run completes at the window's last sample. -/
def completeRun (c : Comp) (reqs : List Requester) (count sum : Nat) (s : State) : State :=
  let r := gaugeLevel c (sum / count) s
  let s := s.putComp c { s.comp c with
    gauging := { ok := true, stale := false, values := some (valuesOf c r s) } }
  handResults c (.ok r) reqs (setRun c .idle s)

/-- R125: a run fails at a fault indication taken in SAMPLING. -/
def failRun (c : Comp) (reqs : List Requester) (s : State) : State :=
  let s := s.putComp c { s.comp c with gauging := { (s.comp c).gauging with ok := false } }
  handResults c .failed reqs (setRun c .idle (raiseAlarm (.levelProbeFault c) s))

/-- R124: a level reading is offered to the run; in SAMPLING it is one sample. -/
def sampleRun (c : Comp) (level : Nat) (s : State) : State :=
  match (s.unit c).run with
  | .sampling reqs w n sum =>
    if w ≤ n + 1 then completeRun c reqs (n + 1) (sum + level) s
    else setRun c (.sampling reqs w (n + 1) (sum + level)) s
  | .idle | .pending _ => s

/-- R125: a level fault indication is offered to the run. -/
def faultRun (c : Comp) (s : State) : State :=
  match (s.unit c).run with
  | .sampling reqs _ _ _ => failRun c reqs s
  | .idle | .pending _ => s

/-- R118: the live level, absent after a fault indication. -/
def setLevel (c : Comp) (level : Option Nat) (s : State) : State :=
  s.putUnit c { s.unit c with level := level }

/-- R129: the last gauging is current. -/
def LastGauging.current (g : LastGauging) : Bool := g.ok && !g.stale

end Sys2Proof.Machine
end

