-- ==== Sys2Proof/Machine/LogOps.lean ====
section
/-! DEFINITION. The transaction log (chapter 09): commitments, writing a record, and the near-full
watch. -/

namespace Sys2Proof.Machine

/-- R150: the free slots. -/
def freeSlots (l : Log) : Nat := Config.logSlots - l.records.length - l.commitments

/-- R147: the log takes a new commitment. -/
def canCommit (s : State) : Bool :=
  decide (s.store.log.records.length + s.store.log.commitments < Config.logSlots ∧
    s.store.log.nextSeq + s.store.log.commitments ≤ Config.seqMax)

/-- R150: the near-full watch is evaluated. -/
def watchLog (s : State) : State :=
  if s.logWatch.armed then
    if freeSlots s.store.log ≤ 32 then
      raiseAlarm .logNearFull (s.setLogWatch { s.logWatch with armed := false })
    else s
  else if 32 < freeSlots s.store.log then s.setLogWatch { s.logWatch with armed := true }
  else s

/-- R147: a slot commitment is taken. -/
def takeCommitment (s : State) : State :=
  watchLog (s.setLog { s.store.log with commitments := s.store.log.commitments + 1 })

/-- R147: a slot commitment is released without a record. -/
def releaseCommitment (s : State) : State :=
  watchLog (s.setLog { s.store.log with commitments := s.store.log.commitments - 1 })

/-- R148, R160: the record that a write makes: the next sequence number, UNSENT, with the shift number
in force. -/
def newRecord (body : RecordBody) (s : State) : Record :=
  { seq := s.store.log.nextSeq, sent := false, shift := s.store.shift.number, body := body }

/-- R148: a record is written into a committed slot. -/
def writeRecord (body : RecordBody) (s : State) : State :=
  watchLog (s.setLog
    { records := s.store.log.records ++ [newRecord body s]
      commitments := s.store.log.commitments - 1
      nextSeq := s.store.log.nextSeq + 1 })

/-- R154, R157: the UNSENT records. -/
def unsent (l : Log) : List Record := l.records.filter fun r => !r.sent

/-- R155: the records that a confirm of `n` removes. -/
def confirmable (n : Nat) (r : Record) : Bool := r.sent && decide (r.seq ≤ n)

/-- R154: mark the record of number `n` SENT. -/
def markSent (n : Nat) (l : Log) : Log :=
  { l with records := l.records.map fun r => if r.seq = n then { r with sent := true } else r }

end Sys2Proof.Machine
end

