-- ==== Sys2Proof/Machine/Registry.lean ====
section
/-! DEFINITION. The machine registry (chapter 03): the lookup by tag, holds, the uniqueness of tags, and
the deferred update queue. -/

namespace Sys2Proof.Machine

/-- R42: the entry that a hose names in a holding state. -/
def holding (s : State) (h : Hose) : Option Nat :=
  match (s.hose h).state with
  | .awaiting k _ => some k
  | .flowing | .paused | .draining => (s.tx h).map Transaction.machine
  | .idle | .identifying | .refused _ | .blocked | .finished => none

/-- R42, R49: the holders of an entry, in hose order. -/
def holders (s : State) (k : Nat) : List Hose := allHoses.filter fun h => decide (holding s h = some k)

/-- R42: the entry is held. -/
def held (s : State) (k : Nat) : Bool := !(holders s k).isEmpty

/-- R61 test 5, R62: another hose of the same product holds the entry. -/
def heldByOther (s : State) (h : Hose) (k : Nat) : Bool :=
  allHoses.any fun g => decide (g ≠ h ∧ productOf g = productOf h ∧ holding s g = some k)

/-- R38: the product for which fields carry a tag. -/
def carries (f : MachineFields) (id : TagId) : Option Product :=
  if f.tags.diesel = some id then some .diesel
  else if f.tags.fluid = some id then some .fluid
  else none

/-- R40: the lookup by tag over current contents: the entry's index and the product. -/
def findTag : Table MachineEntry → TagId → Option (Nat × Product)
  | [], _ => none
  | (k, m) :: rest, id =>
    match carries m.fields id with
    | some p => some (k, p)
    | none => findTag rest id

/-- R50: the search of the pending WRITEs in the queue. -/
def findPendingTag : List Update → TagId → Option (Nat × Product)
  | [], _ => none
  | u :: rest, id =>
    match u.contents.bind fun f => carries f id with
    | some p => some (u.entry, p)
    | none => findPendingTag rest id

/-- R39: the tags of an entry's current contents and of its pending update carry this ID. -/
def tagTaken (s : State) (k : Nat) (id : TagId) : Bool :=
  s.store.machines.any (fun e => decide (e.1 ≠ k) && (carries e.2.fields id).isSome) ||
    s.store.queue.any fun u => decide (u.entry ≠ k) && (u.contents.bind fun f => carries f id).isSome

/-- R43: the update that waits for an entry. -/
def pendingUpdate (s : State) (k : Nat) : Option Update :=
  s.store.queue.find? fun u => decide (u.entry = k)

/-- R41: an entry that a write creates. -/
def newEntry (f : MachineFields) : MachineEntry :=
  { fields := f, used := .all 0, reserved := .all 0, lastFill := none }

/-- R41, R45, R47: set the writable fields of an entry, creating it if it is EMPTY. -/
def writeEntry (k : Nat) (f : MachineFields) (s : State) : State :=
  match s.machine k with
  | some m => s.setMachines (tablePut s.store.machines k { m with fields := f })
  | none => s.setMachines (tablePut s.store.machines k (newEntry f))

/-- R41: the entry becomes EMPTY. -/
def deleteEntry (k : Nat) (s : State) : State := s.setMachines (tableErase s.store.machines k)

/-- R45: apply an update to its entry. -/
def applyContents (u : Update) (s : State) : State :=
  match u.contents with
  | some f => writeEntry u.entry f s
  | none => deleteEntry u.entry s

/-- R45: an update is applied and leaves the queue, the others keeping their order. -/
def applyUpdate (u : Update) (s : State) : State :=
  (applyContents u s).setQueue (s.store.queue.filter fun v => decide (v.entry ≠ u.entry))

/-- R45: at the end of a hold on entry `k`, its pending update is applied if this was the last hold. -/
def endHold (k : Nat) (s : State) : State :=
  if held s k then s
  else match pendingUpdate s k with
    | some u => applyUpdate u s
    | none => s

/-- R46: at start-up every queued update is applied in queue order, and the queue is empty. -/
def applyQueue (s : State) : State :=
  (s.store.queue.foldl (fun s u => applyContents u s) s).setQueue []

/-- R44: an update replaces the one for its entry in the same position, or joins at the tail. -/
def enqueue (u : Update) : List Update → List Update
  | [] => [u]
  | v :: rest => if v.entry = u.entry then u :: rest else v :: enqueue u rest

/-- R44, R47, R48: the entry is held, the queue holds no update for it, and the queue is full. -/
def queueBusy (s : State) (k : Nat) : Bool :=
  held s k && (pendingUpdate s k).isNone && decide (Config.queueSlots ≤ s.store.queue.length)

/-- R44: apply an update at once if its entry is not held, and queue it otherwise; whether it was
queued. -/
def writeOrQueue (u : Update) (s : State) : State :=
  if held s u.entry then s.setQueue (enqueue u s.store.queue) else applyContents u s

/-- R54 check 3: an entry or a pending WRITE names the account. -/
def accountNamed (s : State) (a : Nat) : Bool :=
  s.store.machines.any (fun e => decide (e.2.fields.account = a)) ||
    s.store.queue.any fun u => decide (u.contents.map MachineFields.account = some a)

end Sys2Proof.Machine
end

