-- ==== Sys2Proof/Machine/Fills.lean ====
section
/-! DEFINITION. The hose controllers (chapters 04 and 05) with what stops them (chapter 06): site
conditions, refusals, stops, the compartment inhibit, valve stages, pulses, the grant and the close. -/

namespace Sys2Proof.Machine

/-! ## Site conditions and refusals (R58, R59, R70) -/

/-- R58: the first site condition that holds for a hose, in the order of the rule. -/
def siteCondition (h : Hose) (s : State) : Option Reason :=
  let c := compOf h
  if s.inputs.emergency then some .emergency
  else if s.guard.fault then some .metrology
  else if s.store.delivery.map Delivery.comp = some c then some .deliveryOpen
  else if (s.comp c).inhibit.isSome then some .inhibited
  else match s.pump c with
    | .resting _ => some .pumpResting
    | .off | .running _ => none

/-- A hose enters a state in which it has no pre-grant timer. -/
def moveHose (h : Hose) (st : HoseState) (s : State) : State :=
  s.putHose h { s.hose h with state := st, identify := .stopped, approval := .stopped }

/-- R42, R64: the hold that a hose took in AWAITING ends with its departure to REFUSED or IDLE. -/
def endAwaitHold (st : HoseState) (s : State) : State :=
  match st with
  | .awaiting k _ => endHold k s
  | .idle | .identifying | .refused _ | .blocked | .flowing | .paused | .draining | .finished => s

/-- R59, R64, R70: a hose before its grant enters REFUSED with a reason. -/
def refuseHose (h : Hose) (r : Reason) (s : State) : State :=
  endAwaitHold (s.hose h).state (moveHose h (.refused r) s)

/-- R60, R64: a hose before its grant enters IDLE at a nozzle hang. -/
def idleHose (h : Hose) (s : State) : State :=
  endAwaitHold (s.hose h).state (moveHose h .idle s)

/-! ## Stops (R85 to R88) -/

/-- R88: entry into DRAINING. -/
def enterDraining (h : Hose) (s : State) : State :=
  s.putHose h { s.hose h with
    state := .draining
    valve := .closed
    noFlow := .stopped
    grace := .stopped
    quiet := .running Config.drainQuiet
    cap := .running Config.drainCap }

/-- R85: the stop cause is set if it is absent. -/
def Transaction.stopWith (cause : StopCause) (tx : Transaction) : Transaction :=
  { tx with cause := tx.cause.or (some cause) }

/-- R85, R88: a stop event at a hose in FLOWING or PAUSED. From PAUSED the meter's rate interval starts
(R6); from FLOWING it runs on. -/
def stopFill (h : Hose) (cause : StopCause) (s : State) : State :=
  let stopped := enterDraining h (s.putTx h ((s.tx h).map (Transaction.stopWith cause)))
  match (s.hose h).state with
  | .flowing => settle (compOf h) stopped
  | .paused => settle (compOf h) (startInterval (meterOf h) stopped)
  | .idle | .identifying | .awaiting _ _ | .refused _ | .blocked | .draining | .finished => s

/-- R59, R85: a condition reaches a hose: a fill in FLOWING or PAUSED stops with the cause, a hose in
IDENTIFYING or AWAITING is refused with the reason, and any other hose is not changed. -/
def strike (cause : StopCause) (reason : Reason) (h : Hose) (s : State) : State :=
  match (s.hose h).state with
  | .flowing | .paused => stopFill h cause s
  | .identifying | .awaiting _ _ => refuseHose h reason s
  | .idle | .refused _ | .blocked | .draining | .finished => s

/-- A condition reaches several hoses, each as its own event. -/
def strikeAll (cause : StopCause) (reason : Reason) (hs : List Hose) (s : State) : State :=
  hs.foldl (fun s h => strike cause reason h s) s

/-- R111: a NORMAL compartment becomes INHIBITED; an INHIBITED one keeps its first record. -/
def inhibit (c : Comp) (cause : InhibitCause) (s : State) : State :=
  if (s.comp c).inhibit.isSome then s
  else
    let s := s.putComp c { s.comp c with inhibit := some { cause := cause, time := s.now } }
    evalRest c (strikeAll .inhibit .inhibited (hosesOf c) (evalPump c s))

/-- R174: the metrology state enters FAULT. -/
def enterFault (s : State) : State :=
  strikeAll .metrology .metrology allHoses
    (raiseAlarm .metrologyFault (s.setGuard { s.guard with fault := true }))

/-- R173: the computed check value equals the stored one. -/
def checkMatches (s : State) : Bool := decide (Config.checkFunction s.store.cal.set = s.store.cal.check)

/-- R173: the integrity check. -/
def integrityCheck (s : State) : State :=
  if s.guard.fault || checkMatches s then s else enterFault s

/-! ## Valve stages (R79 to R81) -/

/-- R79 tests 2 to 4: the stage of a fill of net `n` below its limit. -/
def stageOf (n limit taper lowUntil : Nat) : Stage :=
  if (limit : Int) - (taper : Int) ≤ (n : Int) then .taper
  else if n < lowUntil then .start
  else .full

/-- R79: the valve position of a stage. -/
def valveOf : Stage → Valve
  | .start | .taper => .low
  | .full => .high

/-- R79, R81: the hose after a stage evaluation below the limit; the first entry into TAPER latches the
near-end notice. -/
def HoseCtl.atStage (st : Stage) (hc : HoseCtl) : HoseCtl :=
  { hc with
    stage := st
    valve := valveOf st
    nearEnd := hc.nearEnd || (decide (st = .taper) && !hc.nearEndGiven)
    nearEndGiven := hc.nearEndGiven || decide (st = .taper) }

/-- R79: the stage of a hose in FLOWING is evaluated. -/
def evalStage (h : Hose) (s : State) : State :=
  match s.tx h with
  | none => s
  | some tx =>
    let n := tx.volume.netMl
    if tx.limit ≤ n then stopFill h .limit s
    else
      s.putHose h ((s.hose h).atStage
        (stageOf n tx.limit (s.config h).taperVolume (s.hose h).lowUntil))

/-! ## Pulses (R1 to R4, R89, R91, R109, R110) -/

/-- R3, R4: a pulse is counted into a hose's transaction and its meter's interval. -/
def countHosePulse (h : Hose) (s : State) : State :=
  let f := pulseFactor (meterOf h) s
  let s := addToInterval (meterOf h) f (drawFactor (meterOf h) s)
  s.putTx h ((s.tx h).map fun tx => { tx with volume := countVolume f tx.volume })

/-- R91: the fill has passed its reservation and the overrun is not yet noted. -/
def newlyOverrun (tx : Transaction) : Bool :=
  decide (tx.reservation < tx.volume.netMl) && !tx.overrunNoted

/-- R91: the effects of the first pulse above the reservation, in their order. -/
def overrun (h : Hose) (s : State) : State :=
  let s := s.putTx h ((s.tx h).map fun tx => { tx with cause := some .overrun })
  let s := stopFill h .overrun s
  let s := inhibit (compOf h) (.overrun h) (raiseAlarm (.overrun h) s)
  s.putTx h ((s.tx h).map fun tx => { tx with overrunNoted := true })

/-- R79, R82, R91: a counted pulse in FLOWING restarts the no-flow timer, is tested for overrun, and
otherwise has the stage evaluated. -/
def pulseFlowing (h : Hose) (s : State) : State :=
  let s := countHosePulse h s
  let s := s.putHose h { s.hose h with noFlow := .running (s.config h).noFlowTime }
  if ((s.tx h).map newlyOverrun).getD false then overrun h s else evalStage h s

/-- R89, R91: a counted pulse in DRAINING is tested for overrun and restarts the drain quiet timer. -/
def pulseDraining (h : Hose) (s : State) : State :=
  let s := countHosePulse h s
  let s := if ((s.tx h).map newlyOverrun).getD false then overrun h s else s
  s.putHose h { s.hose h with quiet := .running Config.drainQuiet }

/-- R109, R110: the meter's stray counter rises. -/
def countStray (m : Meter) (s : State) : State :=
  s.putMeter m { s.meter m with strays := bump Config.counterMax (s.meter m).strays }

/-- R109: a stray pulse on a hose meter. -/
def strayPulse (h : Hose) (s : State) : State :=
  inhibit (compOf h) (.strayPulse (meterOf h)) (raiseAlarm (.leak h) (countStray (meterOf h) s))

/-- R1: a pulse on the meter of a hose. -/
def hosePulse (h : Hose) (s : State) : State :=
  match (s.hose h).state with
  | .flowing => pulseFlowing h s
  | .draining => pulseDraining h s
  | .idle | .identifying | .awaiting _ _ | .refused _ | .blocked | .paused | .finished => strayPulse h s

/-! ## The grant (R71 to R76) -/

/-- What a grant is asked for (section 4.8): the hose and the entry it identified, the tag noted at the
lookup (none for a directed authorisation), the preset, and whether the grant is offline. -/
structure GrantRequest where
  hose : Hose
  machine : Nat
  tag : Option TagId
  preset : Option Int
  offline : Bool
deriving DecidableEq, Repr

/-- R72: a headroom term, present with its allowance or budget. -/
def headroom (bound : Option Nat) (used reserved : Nat) : Option Int :=
  bound.map fun b => (b : Int) - (used : Int) - (reserved : Int)

/-- R72: Rm, the machine's headroom. -/
def machineHeadroom (m : MachineEntry) (p : Product) : Option Int :=
  headroom (m.fields.allowance.get p) (m.used.get p) (m.reserved.get p)

/-- R72: Ra, the account's headroom. -/
def accountHeadroom (a : Account) (p : Product) : Option Int :=
  headroom (a.fields.budget.get p) (a.used.get p) (a.reserved.get p)

/-- 00_scope.md, "Arithmetic": the least of a term and the optional terms present. -/
def leastOf (x : Int) (rest : List (Option Int)) : Int :=
  rest.foldl (fun m t => match t with
    | some y => min m y
    | none => m) x

/-- The account that an entry names, with no budget and no rate where it is EMPTY (which R47 and R54
rule out, assumption 33). -/
def accountOf (s : State) (k : Nat) : Account :=
  (s.account k).getD
    { fields := { suspended := false, code := [], rate := .all 0, budget := .all none },
      used := .all 0, reserved := .all 0, charged := 0 }

/-- R73: the limit L of a grant on entry `m`. -/
def limitOf (g : GrantRequest) (m : MachineEntry) (s : State) : Int :=
  let p := productOf g.hose
  let h := leastOf (available (s.comp (compOf g.hose)))
    [accountHeadroom (accountOf s m.fields.account) p, machineHeadroom m p]
  leastOf Config.fillCeiling
    [g.preset, (m.fields.maxFill.get p).map Int.ofNat,
      if g.offline then some (s.store.site.offlineCap : Int) else none,
      some (h - ((s.config g.hose).overrunAllowance : Int))]

/-- R74: the headroom less A is below G. -/
def short (headroom : Option Int) (cfg : HoseConfig) : Bool :=
  match headroom with
  | some r => decide (r - (cfg.overrunAllowance : Int) < (cfg.minimumGrant : Int))
  | none => false

/-- R74: the reason of a grant whose limit is below the minimum grant, or none. -/
def limitRefusal (g : GrantRequest) (m : MachineEntry) (s : State) : Option Reason :=
  let p := productOf g.hose
  let cfg := s.config g.hose
  if limitOf g m s < (cfg.minimumGrant : Int) then
    if short (some (available (s.comp (compOf g.hose)))) cfg then some .noStock
    else if short (accountHeadroom (accountOf s m.fields.account) p) cfg then some .noBudget
    else if short (machineHeadroom m p) cfg then some .noAllowance
    else some .belowMinimum
  else none

/-- R71: the reason a grant is refused with, by its checks in their order. -/
def grantRefusal (g : GrantRequest) (m : MachineEntry) (s : State) : Option Reason :=
  match siteCondition g.hose s with
  | some r => some r
  | none => if canCommit s then limitRefusal g m s else some .logFull

/-- R75: the reservations of a grant of R mL, in the machine, the account and the compartment. -/
def reserve (h : Hose) (k account r : Nat) (s : State) : State :=
  let p := productOf h
  let c := compOf h
  let s := s.onMachine k fun m => { m with reserved := m.reserved.set p (m.reserved.get p + r) }
  let s := s.onAccount account fun a => { a with reserved := a.reserved.set p (a.reserved.get p + r) }
  s.putComp c { s.comp c with reservations := (s.comp c).reservations + r }

/-- R76: the transaction context of a grant with limit L. -/
def newTransaction (g : GrantRequest) (m : MachineEntry) (limit : Nat) (s : State) : Transaction :=
  let c := compOf g.hose
  { machine := g.machine
    tag := g.tag
    account := m.fields.account
    rate := (accountOf s m.fields.account).fields.rate.get (productOf g.hose)
    limit := limit
    reservation := limit + (s.config g.hose).overrunAllowance
    start := s.now
    offline := g.offline
    manual := g.tag.isNone
    volume := computeVcf c (probeOf c) s .zero
    pauses := 0
    cause := none
    drainCut := false
    overrunNoted := false }

/-- R78, R80, R82: the hose's own items at the grant, before the stage is evaluated. -/
def HoseCtl.granted (cfg : HoseConfig) (hc : HoseCtl) : HoseCtl :=
  { hc with
    state := .flowing
    lowUntil := cfg.startVolume
    nearEndGiven := false
    identify := .stopped
    approval := .stopped
    noFlow := .running cfg.noFlowTime
    grace := .stopped
    quiet := .stopped
    cap := .stopped }

/-- R75, R76: a grant that passes its checks opens a transaction, and the hose enters FLOWING. -/
def openFill (g : GrantRequest) (m : MachineEntry) (s : State) : State :=
  let h := g.hose
  let tx := newTransaction g m (limitOf g m s).toNat s
  let s := takeCommitment (reserve h g.machine tx.account tx.reservation s)
  let s := startInterval (meterOf h) (s.putTx h (some tx))
  let s := s.putHose h ((s.hose h).granted (s.config h))
  settle (compOf h) (evalStage h s)

/-- R71: the grant. An entry that is EMPTY cannot be identified (R40, R68); nothing is granted on it. -/
def grant (g : GrantRequest) (s : State) : State :=
  match s.machine g.machine with
  | none => s
  | some m =>
    match grantRefusal g m s with
    | some r => refuseHose g.hose r s
    | none => openFill g m s

/-! ## The close (R92 to R95) -/

/-- R93: the FILL record of a transaction at its close. -/
def fillRecord (h : Hose) (tx : Transaction) (s : State) : FillRecord :=
  { hose := h
    product := productOf h
    machine := tx.machine
    fleet := ((s.machine tx.machine).map fun m => m.fields.fleet).getD []
    tag := tx.tag
    account := tx.account
    accountCode := ((s.account tx.account).map fun a => a.fields.code).getD []
    rate := tx.rate
    start := tx.start.time
    finish := s.now.time
    unset := tx.start.unset || s.now.unset
    gross := tx.volume.grossMl
    net := tx.volume.netMl
    vcf := tx.volume.vcf
    vcfTemp := tx.volume.vcfTemp
    limit := tx.limit
    charge := chargeOf tx.volume.netMl tx.rate
    cause := tx.cause.getD .powerLoss
    pauses := tx.pauses
    offline := tx.offline
    manual := tx.manual
    uncompensated := tx.volume.uncompensated
    clamped := tx.volume.clamped
    drainCut := tx.drainCut }

/-- R41: the machine entry at the close: used rises by the net and reserved falls by R. -/
def MachineEntry.charge (p : Product) (net r : Nat) (m : MachineEntry) : MachineEntry :=
  { m with
    used := m.used.set p (addUpTo Config.usedMax (m.used.get p) net)
    reserved := m.reserved.set p (m.reserved.get p - r) }

/-- R52: the account at the close. -/
def Account.charge (p : Product) (net r cents : Nat) (a : Account) : Account :=
  { a with
    used := a.used.set p (addUpTo Config.usedMax (a.used.get p) net)
    reserved := a.reserved.set p (a.reserved.get p - r)
    charged := addUpTo Config.usedMax a.charged cents }

/-- R92 step 4, R115: the compartment at the close: the book falls and dispensed rises by the net, and
the reservations fall by R. -/
def Compartment.dispense (net r : Nat) (c : Compartment) : Compartment :=
  { c with
    book := c.book - (net : Int)
    dispensed := c.dispensed + (net : Int)
    reservations := c.reservations - r }

/-- R149, R160: the fill count of a compartment rises by one FILL record. -/
def countFill (c : Comp) (s : State) : State :=
  s.setShift { s.store.shift with
    fills := s.store.shift.fills.set c (bump Config.counterMax (s.store.shift.fills.get c)) }

/-- R92 steps 2 to 6: the entry, the account and the compartment are charged, the FILL record is
written, and the entry's last fill is set. -/
def chargeFill (h : Hose) (tx : Transaction) (s : State) : State :=
  let p := productOf h
  let c := compOf h
  let net := tx.volume.netMl
  let rec' := fillRecord h tx s
  let seq := s.store.log.nextSeq
  let s := s.onMachine tx.machine (MachineEntry.charge p net tx.reservation)
  let s := s.onAccount tx.account (Account.charge p net tx.reservation (chargeOf net tx.rate))
  let s := s.putComp c ((s.comp c).dispense net tx.reservation)
  let s := if net = 0 then s else afterBookChange c s
  let s := countFill c (writeRecord (.fill rec') s)
  s.onMachine tx.machine fun m =>
    { m with lastFill := some { seq := seq, time := s.now.time, product := p, net := net } }

/-- R92 step 9, R94: the state a hose takes at its close. -/
def closedState (h : Hose) (s : State) : HoseState :=
  if s.inputs.lifted.get h then .finished else .idle

/-- R95: the completion notice of a close. -/
def completionOf (tx : Transaction) (seq : Nat) : Completion :=
  { seq := seq, cause := tx.cause.getD .powerLoss, net := tx.volume.netMl,
    charge := chargeOf tx.volume.netMl tx.rate }

/-- R92: the close of a hose's transaction at the end of its drain. -/
def closeFill (h : Hose) (s : State) : State :=
  match s.tx h with
  | none => s
  | some tx =>
    let seq := s.store.log.nextSeq
    let s := (chargeFill h tx s).putTx h none
    let s := s.putHose h
      { HoseCtl.atRest (closedState h s) with completion := some (completionOf tx seq) }
    settle (compOf h) (stopInterval (meterOf h) (endHold tx.machine s))

end Sys2Proof.Machine
end

