-- ==== Sys2Proof/Machine/DeliveryOps.lean ====
section
/-! DEFINITION. The delivery controller (chapter 08): entry into RECEIVING, the valve-closing events,
the drain, the credit and the record. -/

namespace Sys2Proof.Machine

/-- R142: entry into DRAINING. -/
def drainDelivery (d : Delivery) (s : State) : State :=
  evalRest d.comp
    ((s.setDelivery (some { d with state := .draining })).setInlet
      { valveOpen := false, quiet := .running Config.drainQuiet, cap := .running Config.drainCap })

/-- R138 to R142: a delivery in RECEIVING has its inlet valve closed with a stop cause. -/
def closeInlet (cause : DeliveryCause) (s : State) : State :=
  match s.store.delivery with
  | some d =>
    match d.state with
    | .receiving => drainDelivery { d with cause := some cause } s
    | .preGauge | .draining | .postGauge => s
  | none => s

/-- R136 step 2: the condition that keeps the inlet valve closed, if one holds, in the rule's order. -/
def inletCondition (c : Comp) (s : State) : Option DeliveryCause :=
  if s.inputs.emergency then some .emergency
  else if s.inputs.overfill.get c then some .overfill
  else match (s.unit c).level with
    | some level => if (s.comp c).cutoff ≤ level then some .highLevel else none
    | none => some .highLevel

/-- R136 step 2: the conditions of level; the alarm HIGH_LEVEL is raised for a level at the cutoff, and
LEVEL_FAULT is set for an absent level. -/
def levelAlarm (c : Comp) (cause : DeliveryCause) (s : State) : State :=
  if cause = .highLevel ∧ (s.unit c).level.isSome then raiseAlarm (.highLevel c) s else s

/-- R136 step 1: the delivery starts its count. -/
def startCount (d : Delivery) (s : State) : Delivery :=
  { d with
    state := .receiving
    start := some s.now.time
    unset := d.unset || s.now.unset
    volume := computeVcf d.comp .p3 s { d.volume with remainder := 0 } }

/-- R136: entry into RECEIVING. -/
def enterReceiving (d : Delivery) (s : State) : State :=
  let d := startCount d s
  let s := startInterval .m4 s
  match inletCondition d.comp s with
  | some cause =>
    drainDelivery { d with
      cause := some cause
      levelFault := d.levelFault || decide (cause = .highLevel) && (s.unit d.comp).level.isNone }
      (levelAlarm d.comp cause s)
  | none =>
    evalRest d.comp ((s.setDelivery (some d)).setInlet { s.inlet with valveOpen := true })

/-- R3, R4, R137: a pulse on M4 is counted into the delivery. -/
def countInletPulse (d : Delivery) (s : State) : State :=
  let f := pulseFactor .m4 s
  let s := addToInterval .m4 f (drawFactor .m4 s)
  s.setDelivery (some { d with volume := countVolume f d.volume })

/-- R110: a stray inlet pulse. -/
def strayInletPulse (s : State) : State :=
  raiseAlarm (.inletFlow s.store.selector) (countStray .m4 s)

/-- R1, R142: a pulse on M4; in DRAINING it restarts the drain quiet timer. -/
def inletPulse (s : State) : State :=
  match s.store.delivery with
  | some d =>
    match d.state with
    | .receiving => countInletPulse d s
    | .draining =>
      let s := countInletPulse d s
      s.setInlet { s.inlet with quiet := .running Config.drainQuiet }
    | .preGauge | .postGauge => strayInletPulse s
  | none => strayInletPulse s

/-- R138: a level observation is handed to the delivery controller while a delivery into the compartment
is RECEIVING. -/
def offerLevel (c : Comp) (s : State) : State :=
  match s.store.delivery with
  | none => s
  | some d =>
    if d.comp = c ∧ d.state = .receiving then
      match (s.unit c).level with
      | some level =>
        if (s.comp c).cutoff ≤ level then closeInlet .highLevel (raiseAlarm (.highLevel c) s) else s
      | none => closeInlet .highLevel (s.setDelivery (some { d with levelFault := true }))
    else s

/-- R143 steps 1 and 2: the final volumes and the end time. -/
def finishDelivery (d : Delivery) (s : State) : Delivery :=
  { d with
    state := .postGauge
    final := some (d.volume.grossMl, d.volume.netMl)
    finish := some s.now.time
    unset := d.unset || s.now.unset
    volume := { d.volume with remainder := 0 } }

/-- R143 step 3, R115: the compartment after a credit. -/
def Compartment.credit (net : Nat) (c : Compartment) : Compartment :=
  { c with book := c.book + (net : Int), delivered := c.delivered + (net : Int) }

/-- R143: the end of the drain credits the compartment. -/
def creditDelivery (d : Delivery) (s : State) : State :=
  let s := stopInterval .m4 s
  let s := s.putComp d.comp ((s.comp d.comp).credit d.volume.netMl)
  afterBookChange d.comp
    ((s.setDelivery (some (finishDelivery d s))).setInlet { s.inlet with quiet := .stopped, cap := .stopped })

/-- R142, R143: a drain ends: credit, rest, and the request for the post-delivery run. -/
def endDeliveryDrain (d : Delivery) (s : State) : State :=
  requestRun d.comp .postDelivery (evalRest d.comp (creditDelivery d s))

/-- R135, R144: what a delivery keeps of a gauging result. -/
def deliveryGauge : GaugeResult → Option DeliveryGauge
  | .ok r => some { level := r.level, net := r.net, above := r.above }
  | .failed => none

/-- R144: the contents of the DELIVERY record. -/
def deliveryRecord (d : Delivery) (post : Option DeliveryGauge) : DeliveryRecord :=
  let gross := (d.final.map Prod.fst).getD d.volume.grossMl
  let net := (d.final.map Prod.snd).getD d.volume.netMl
  { comp := d.comp
    docket := d.docket
    declared := d.declared
    start := d.start.getD 0
    finish := d.finish.getD 0
    unset := d.unset
    gross := gross
    net := net
    temp := d.volume.vcfTemp
    vcf := d.volume.vcf
    preGauge := d.preGauge.map fun g => (g.net, g.level)
    postGauge := post.map fun g => (g.net, g.level)
    variance := match d.preGauge, post with
      | some a, some b => some (b.net - a.net - (net : Int))
      | _, _ => none
    docketVariance := d.declared.map fun x => (net : Int) - x
    cause := d.cause.getD .powerLoss
    clamped := d.volume.clamped
    uncompensated := d.volume.uncompensated
    drainCut := d.drainCut
    levelFault := d.levelFault
    above := ((d.preGauge.map DeliveryGauge.above).getD false) || ((post.map DeliveryGauge.above).getD false) }

/-- R144: the delivery is recorded and its state returns to NONE. -/
def recordDelivery (d : Delivery) (post : Option DeliveryGauge) (s : State) : State :=
  (writeRecord (.delivery (deliveryRecord d post)) s).setDelivery none

/-- R141, R146: a delivery in PRE_GAUGE is cancelled: the commitment is released and the context
discarded. -/
def cancelDelivery (s : State) : State := (releaseCommitment s).setDelivery none

end Sys2Proof.Machine
end

