-- ==== Sys2Proof/Machine/ParkOps.lean ====
section
/-! DEFINITION. The park controller (chapter 11): entry into PARKED, cancelling and waking, the watch. -/

namespace Sys2Proof.Machine

/-- R182: the part returns to ACTIVE with a last outcome, its watch and confirm timers stopped. -/
def wake (o : ParkOutcome) (s : State) : State :=
  s.setPark { s.park with state := .active, watch := .stopped, confirm := .stopped, outcome := some o }

/-- R178 step 1: the PARK_BASELINE kind is withdrawn where the baseline is awaited, and no result of it reaches
the controller. -/
def withdrawBaseline (c : Comp) (s : State) : State :=
  if s.park.awaited.get c then cancelRequest c .parkBaseline s else s

/-- R178: PARKING is cancelled with a last outcome. -/
def cancelPark (o : ParkOutcome) (s : State) : State :=
  let s := withdrawBaseline .c2 (withdrawBaseline .c1 s)
  s.setPark { s.park with state := .active, awaited := .all false, outcome := some o }

/-- R178, R182: what a lift or the emergency stop does to the park, with the outcome it gives in
PARKING and the one it gives in PARKED and WAKING. -/
def disturbPark (inParking inParked : ParkOutcome) (s : State) : State :=
  match s.park.state with
  | .active => s
  | .parking => cancelPark inParking s
  | .parked | .waking => wake inParked s

/-- R176 check 2: every hose is IDLE or BLOCKED. -/
def hosesParked (s : State) : Bool :=
  allHoses.all fun h => decide ((s.hose h).state = .idle ∨ (s.hose h).state = .blocked)

/-- R176 checks 2 to 4. -/
def parkAllowed (s : State) : Bool :=
  hosesParked s && s.store.delivery.isNone && !s.inputs.emergency

/-- R175, R179: the watch timer starts with the watch interval, set in minutes. -/
def watchTimer (s : State) : Timer := .running (s.store.site.watchInterval * 60)

/-- R177: entry into PARKED. -/
def enterParked (s : State) : State :=
  let s := channelOff .h3 (channelOff .h2 (channelOff .h1 s))
  let s := s.setLink { s.link with online := false, watchdog := .suspended }
  s.setPark { s.park with state := .parked, watch := watchTimer s }

/-- R177: when neither baseline is awaited any longer, the part enters PARKED or abandons the park. -/
def finishParking (s : State) : State :=
  if s.park.awaited.c1 || s.park.awaited.c2 then s
  else if parkAllowed s then enterParked s
  else s.setPark { s.park with state := .active, outcome := some .cancelled }

/-- R177: a baseline from a gauging result. -/
def baselineOf : GaugeResult → Option Baseline
  | .ok r => some { net := r.net, level := r.level, time := r.time }
  | .failed => none

/-- R177: the result of an awaited baseline run. -/
def takeBaseline (c : Comp) (r : GaugeResult) (s : State) : State :=
  finishParking (s.setPark { s.park with
    baselines := s.park.baselines.set c (baselineOf r)
    watched := s.park.watched.set c (baselineOf r).isSome
    awaited := s.park.awaited.set c false })

/-- R180: a watch result wakes the part only when it is PARKED or WAKING. -/
def wakeIfParked (o : ParkOutcome) (s : State) : State :=
  match s.park.state with
  | .parked | .waking => wake o s
  | .active | .parking => s

/-- R180: the result of a watch run is compared with the baseline. -/
def takeWatch (c : Comp) (r : GaugeResult) (s : State) : State :=
  match s.park.baselines.get c with
  | none => s
  | some b =>
    match r with
    | .failed => wakeIfParked .watchFailed s
    | .ok r =>
      if (s.store.site.theftThreshold : Int) < b.net - r.net then
        wakeIfParked .stockLoss (raiseAlarm (.stockLoss c) s)
      else s

/-- R179: a watch run is requested on a watched compartment. -/
def requestWatch (c : Comp) (s : State) : State :=
  if s.park.watched.get c then requestRun c .parkWatch s else s

/-- R176: the effects of an accepted PARK. -/
def beginPark (s : State) : State :=
  let s := s.setPark { s.park with
    state := .parking
    baselines := .all none
    watched := .all false
    awaited := .all true
    outcome := none }
  requestRun .c2 .parkBaseline (requestRun .c1 .parkBaseline s)

end Sys2Proof.Machine
end

