-- ==== Sys2Proof/Machine/Flags.lean ====
section
/-! DEFINITION. What the part shows: the outputs it drives, worked out from the state (the alert line,
the pump drives, the nozzle coils), and the codes of the named sets (R184). A set is numbered from 0 in
the order of its listing (assumption 15), except for the four sets whose codes R184 gives. -/

namespace Sys2Proof.Machine

/-! ## Outputs -/

/-- A hose holds a latched notice. -/
def HoseCtl.notified (hc : HoseCtl) : Bool := hc.nearEnd || hc.completion.isSome

/-- A hose is in AWAITING. -/
def HoseState.isAwaiting : HoseState → Bool
  | .awaiting _ _ => true
  | .idle | .identifying | .refused _ | .blocked | .flowing | .paused | .draining | .finished => false

/-- R194: the alert line is active. Without power it is inactive; start-up is one event here, and the
line shows what it leaves (assumption 25). -/
def alertActive (s : State) : Bool :=
  decide (s.power ≠ .off) && (!s.alarms.isEmpty ||
    allHoses.any fun h => (s.hose h).notified || (s.hose h).state.isAwaiting)

/-- R102: the drive of a compartment's pump is on. -/
def pumpDrive (s : State) (c : Comp) : Bool := (s.pump c).isRunning

/-- R21, R24, R25: the coil of a hose's nozzle is driven while its channel is enabled. -/
def coilDriven (s : State) (h : Hose) : Bool := (s.channel h).enabled

/-- R78: the position to which a hose's valve is driven. -/
def valveDrive (s : State) (h : Hose) : Valve := (s.hose h).valve

/-- R133: the inlet valve is driven OPEN. -/
def inletOpen (s : State) : Bool := s.inlet.valveOpen

/-! ## Codes of named sets (R184) -/

/-- R184, last table. -/
def HoseState.code : HoseState → Nat
  | .idle => 0
  | .identifying => 1
  | .awaiting _ _ => 2
  | .refused _ => 3
  | .blocked => 4
  | .flowing => 5
  | .paused => 6
  | .draining => 7
  | .finished => 8

/-- R184, last table. -/
def StopCause.code : StopCause → Nat
  | .hungUp => 0
  | .hostStop => 1
  | .noFlow => 2
  | .tagLost => 3
  | .tagChanged => 4
  | .pumpGuard => 5
  | .emergency => 6
  | .inhibit => 7
  | .metrology => 8
  | .limit => 9
  | .overrun => 10
  | .powerLoss => 11

/-- R184, last table. -/
def Stage.code : Stage → Nat
  | .start => 0
  | .full => 1
  | .taper => 2

/-- R184, last table: the stage shown for a hose whose valve is not in a stage. -/
def closedStageCode : Nat := 3

/-- R184, last table. -/
def DeliveryCause.code : DeliveryCause → Nat
  | .closed => 0
  | .highLevel => 1
  | .overfill => 2
  | .emergency => 3
  | .powerLoss => 4

/-- Section 4.7. -/
def Reason.code : Reason → Nat
  | .emergency => 0
  | .metrology => 1
  | .deliveryOpen => 2
  | .inhibited => 3
  | .pumpResting => 4
  | .identifyTimeout => 5
  | .unknownTag => 6
  | .wrongProduct => 7
  | .machineSuspended => 8
  | .accountSuspended => 9
  | .alreadyFilling => 10
  | .noLink => 11
  | .declined => 12
  | .approvalTimeout => 13
  | .logFull => 14
  | .noStock => 15
  | .noBudget => 16
  | .noAllowance => 17
  | .belowMinimum => 18
  | .rehang => 19

/-- R175: ACTIVE, PARKING, PARKED, WAKING. -/
def ParkState.code : ParkState → Nat
  | .active => 0
  | .parking => 1
  | .parked => 2
  | .waking => 3

/-- R175: CANCELLED, LIFT, FRAME, EMERGENCY, STOCK_LOSS, WATCH_FAILED. -/
def ParkOutcome.code : ParkOutcome → Nat
  | .cancelled => 0
  | .lift => 1
  | .frame => 2
  | .emergency => 3
  | .stockLoss => 4
  | .watchFailed => 5

/-- R102: OFF, RUNNING, RESTING. -/
def Pump.code : Pump → Nat
  | .off => 0
  | .running _ => 1
  | .resting _ => 2

/-- Section 2.2: OFF, SEARCHING, ACQUIRING, CONFIRMED. -/
def ChannelState.code : ChannelState → Nat
  | .off => 0
  | .searching => 1
  | .acquiring _ _ => 2
  | .confirmed _ _ => 3

/-- Sections 3.1 and 3.5: EMPTY 0, ACTIVE 1, SUSPENDED 2, for an entry or account by its suspension. -/
def entryCode : Option Bool → Nat
  | none => 0
  | some false => 1
  | some true => 2

/-- Section 1.1: DIESEL, FLUID. -/
def productCode : Product → Nat
  | .diesel => 0
  | .fluid => 1

/-- Section 7.1: IDLE, PENDING, SAMPLING. -/
def Run.code : Run → Nat
  | .idle => 0
  | .pending _ => 1
  | .sampling _ _ _ _ => 2

/-- R123: HOST, PRE_DELIVERY, POST_DELIVERY, PARK_BASELINE, PARK_WATCH. -/
def Requester.code : Requester → Nat
  | .host => 0
  | .preDelivery => 1
  | .postDelivery => 2
  | .parkBaseline => 3
  | .parkWatch => 4

/-- Section 8.1: NONE, PRE_GAUGE, RECEIVING, DRAINING, POST_GAUGE. -/
def deliveryCode : Option DeliveryState → Nat
  | none => 0
  | some .preGauge => 1
  | some .receiving => 2
  | some .draining => 3
  | some .postGauge => 4

/-- Section 6.6: OVERRUN, DRAIN_CUT, STRAY_PULSE. -/
def InhibitCause.code : InhibitCause → Nat
  | .overrun _ => 0
  | .drainCut _ => 1
  | .strayPulse _ => 2

/-- Section 6.6: the number of the subject, a hose or a meter. -/
def InhibitCause.subject : InhibitCause → Nat
  | .overrun h => hoseNumber h
  | .drainCut m | .strayPulse m => meterNumber m

/-- R164: the selectors METER 1 to 4, ALPHA 1 to 2, OFFSET 1 to 3. -/
def CalItem.code : CalItem → Nat
  | .meter .m1 => 0
  | .meter .m2 => 1
  | .meter .m3 => 2
  | .meter .m4 => 3
  | .alpha .c1 => 4
  | .alpha .c2 => 5
  | .offset .p1 => 6
  | .offset .p2 => 7
  | .offset .p3 => 8

/-- Section 9.2: FILL, DELIVERY, ADJUST, SHIFT. -/
def RecordBody.code : RecordBody → Nat
  | .fill _ => 0
  | .delivery _ => 1
  | .adjust _ => 2
  | .shift _ => 3

/-- A set of two values, by whether the value is the one listed second. -/
def secondIf (b : Bool) : Nat := if b then 1 else 0

/-- A discrete level or output: active 0, inactive 1. -/
def activeCode (active : Bool) : Nat := secondIf (!active)

/-- R145, R172: the inlet valve and the calibration window, OPEN 0, CLOSED 1. -/
def openCode (isOpen : Bool) : Nat := secondIf (!isOpen)

/-- R191: ONLINE 0, OFFLINE 1. -/
def linkCode (online : Bool) : Nat := secondIf (!online)

/-- Section 6.6: NORMAL 0, INHIBITED 1. -/
def inhibitCode (c : Compartment) : Nat := secondIf c.inhibit.isSome

/-- R173: GOOD 0, FAULT 1. -/
def metrologyCode (g : Guard) : Nat := secondIf g.fault

/-- R166, R167: the calibration window is OPEN. -/
def Guard.windowOpen (g : Guard) : Bool := decide (g.window ≠ .stopped)

/-- R47, R48: APPLIED 0, PENDING 1, in the order in which R47 defines the indication of its answer. R44 names
PENDING first: that the order is R47's is the model's choice (assumption 15). -/
def appliedCode (queued : Bool) : Nat := secondIf queued

/-- Section 3.3: WRITE 0, DELETE 1. -/
def updateCode (u : Update) : Nat := secondIf u.contents.isNone

end Sys2Proof.Machine
end

