-- ==== Sys2Proof/Machine/Answers.lean ====
section
/-! DEFINITION. The fields of the answers that show state, in the order of their rules (R184). Each field
that is present only in some states or cases has its own presence group, which is always sent; what the
manual names as one optional thing (a last fill, a notice, a baseline, a record's part) is one optional
part (assumption 16). Hoses, compartments and meters are given by their numbers (assumption 17). -/

namespace Sys2Proof.Machine

/-! ## Parts -/

/-- R184: an optional part, its presence group and its fields when present. -/
def optPart {α : Type} (f : α → List Field) : Option α → List Field
  | none => [.absent]
  | some a => .present :: f a

/-- R184: several fields that are present together, each with its own presence group (assumption 16). -/
def eachPart {α : Type} (fs : List (α → Field)) (a : Option α) : List Field :=
  fs.flatMap fun f => optPart (fun x => [f x]) a

/-- R184: an optional part of given fields. -/
def partIf (b : Bool) (fs : List Field) : List Field := if b then .present :: fs else [.absent]

/-- R184: a list, its count and its items. -/
def listPart {α : Type} (f : α → List Field) (l : List α) : List Field :=
  .count l.length :: l.flatMap f

/-- The fields of an answer, part after part. -/
def joinFields (parts : List (List Field)) : List Field := parts.flatten

def volumeOf (n : Nat) : Field := .volume (n : Int)

def optVolume (v : Option Nat) : List Field := optPart (fun n => [volumeOf n]) v

def stampFields (t : Stamp) : List Field := [.time t.time, .flag t.unset]

/-! ## Site link (R190, R193, R195, R196) -/

/-- R193: the pending rows that an ALARMS returns. -/
def alarmRows (s : State) : Table AlarmRow := s.alarms.take 10

def alarmFields (s : State) : List Field :=
  joinFields [listPart (fun r => [.count r.1,
    .count2 r.2.count] ++ stampFields r.2.first) (alarmRows s),
    [.flag !(s.alarms.drop 10).isEmpty]]

def linkCounterFields (s : State) : List Field :=
  let c := s.link.counters
  [.wide c.good, .wide c.checkFailures, .wide c.broken, .wide c.byteErrors, .wide c.overlaps,
    .wide c.unknownFormat, .code (linkCode s.link.online), .count s.store.site.linkTimeout]

def siteCompFields (s : State) (c : Comp) : List Field :=
  [.code (inhibitCode (s.comp c)), .volume (s.comp c).book, volumeOf (s.comp c).reservations]

def siteStatusFields (s : State) : List Field :=
  joinFields [[.code s.park.state.code, .code (linkCode s.link.online)], stampFields s.clock,
    (allHoses.map fun h => .code (s.hose h).state.code),
    [.code (s.pump .c1).code, .code (s.pump .c2).code], siteCompFields s .c1, siteCompFields s .c2,
    [.code (deliveryCode (s.store.delivery.map Delivery.state)), .code (metrologyCode s.guard),
      .count s.alarms.length, .code (activeCode (alertActive s))]]

def settingsFields (s : State) : List Field :=
  let c := s.store.site
  [.count c.linkTimeout, volumeOf c.offlineCap, .count2 c.watchInterval, volumeOf c.theftThreshold]

/-! ## Tag channels (R35) -/

/-- R35: an ID and a count, as a candidate and a challenger have them. -/
def countedIdFields (c : Option (TagId × Nat)) : List Field :=
  eachPart [fun c => .tag c.1, fun c => .count c.2] c

def candidateFields : ChannelState → List Field
  | .acquiring id n => countedIdFields (some (id, n))
  | .off | .searching | .confirmed _ _ => countedIdFields none

def confirmedFields : ChannelState → List Field
  | .confirmed id chal => [.present, .tag id] ++ countedIdFields chal
  | .off | .searching | .acquiring _ _ => .absent :: countedIdFields none

def channelFields (h : Hose) (s : State) : List Field :=
  let c := s.channel h
  joinFields [[.count (hoseNumber h), .code c.state.code, .code (secondIf c.inverted), .count c.run],
    candidateFields c.state, confirmedFields c.state,
    [.wide c.valids, .wide c.checkBads, .wide c.badStarts, .wide c.switches]]

/-! ## Registry and accounts (R49, R51, R55) -/

def optTag (t : Option TagId) : List Field := optPart (fun id => [.tag id]) t

/-- R49: the tags, the max fills and the shift allowances, each present with its field. -/
def optionalMachineFields (f : MachineFields) : List Field :=
  joinFields [optTag f.tags.diesel, optTag f.tags.fluid, optVolume f.maxFill.diesel,
    optVolume f.maxFill.fluid, optVolume f.allowance.diesel, optVolume f.allowance.fluid]

/-- R49: the pending contents, every writable field in the order of section 3.1. -/
def writableFields (f : MachineFields) : List Field :=
  joinFields [[.code (entryCode (some f.suspended)), .text f.fleet], optTag f.tags.diesel,
    optTag f.tags.fluid, [.count f.account], optVolume f.maxFill.diesel, optVolume f.maxFill.fluid,
    optVolume f.allowance.diesel, optVolume f.allowance.fluid, [.flag f.offline]]

def lastFillFields (l : LastFill) : List Field :=
  [.long l.seq, .time l.time, .code (productCode l.product), volumeOf l.net]

/-- R49, R55: the used and reserved fields of both products. -/
def usedFields (u : Option (PerProduct Nat × PerProduct Nat)) : List Field :=
  eachPart [fun u => volumeOf u.1.diesel, fun u => volumeOf u.1.fluid, fun u => volumeOf u.2.diesel,
    fun u => volumeOf u.2.fluid] u

def pendingFields (u : Option Update) : List Field :=
  joinFields [[.flag u.isSome], optPart (fun u => [.code (updateCode u)]) u,
    optPart writableFields (u.bind Update.contents)]

/-- R49: the optional fields, all absent for an EMPTY entry. -/
def optionalPart : Option MachineEntry → List Field
  | some m => optionalMachineFields m.fields
  | none => List.replicate 6 .absent

/-- R49: the full answer of MACHINE READ. -/
def machineReadFields (k : Nat) (s : State) : List Field :=
  let m := s.machine k
  joinFields [[.count2 k, .code (entryCode (m.map fun m => m.fields.suspended))],
    eachPart [fun m => .text m.fields.fleet, fun m => .count m.fields.account,
      fun m => .flag m.fields.offline] m,
    optionalPart m, usedFields (m.map fun m => (m.used, m.reserved)),
    optPart lastFillFields (m.bind MachineEntry.lastFill),
    listPart (fun h => [.count (hoseNumber h)]) (holders s k), pendingFields (pendingUpdate s k)]

/-- R51: the indices at or above a start. -/
def listedFrom (k : Nat) (s : State) : List Nat :=
  (s.store.machines.map Prod.fst).filter fun j => decide (k ≤ j)

def machineListFields (k : Nat) (s : State) : List Field :=
  let l := listedFrom k s
  joinFields [listPart (fun j => [.count2 j]) (l.take 32),
    [.flag !(l.drop 32).isEmpty, .count s.store.queue.length]]

/-- R55: the fields of a non-EMPTY account, each with its presence group, absent for an EMPTY one. -/
def accountFields (a : Option Account) : List Field :=
  joinFields [eachPart [fun a => .text a.fields.code, fun a => .wide a.fields.rate.diesel,
      fun a => .wide a.fields.rate.fluid] a,
    optVolume (a.bind fun a => a.fields.budget.diesel),
    optVolume (a.bind fun a => a.fields.budget.fluid),
    usedFields (a.map fun a => (a.used, a.reserved)), eachPart [fun a => .money a.charged] a]

/-- R55: the full answer of ACCOUNT READ. -/
def accountReadFields (k : Nat) (s : State) : List Field :=
  [.count k, .code (entryCode ((s.account k).map fun a => a.fields.suspended))] ++
    accountFields (s.account k)

/-! ## Hoses (R65, R97, R100) -/

/-- A hose's number and state. -/
def hoseStateFields (h : Hose) (s : State) : List Field :=
  [.count (hoseNumber h), .code (s.hose h).state.code]

def reasonPart : HoseState → List Field
  | .refused r => [.present, .code r.code]
  | .idle | .identifying | .awaiting _ _ | .blocked | .flowing | .paused | .draining | .finished =>
    [.absent]

/-- R65: L and R of a hose that has reached FLOWING. -/
def grantedPart : HoseState → Option Transaction → List Field
  | .flowing, some tx => [.present, volumeOf tx.limit, .present, volumeOf tx.reservation]
  | _, _ => [.absent, .absent]

/-- R65, R68: the outcome of a grant. -/
def grantFields (h : Hose) (s : State) : List Field :=
  joinFields [hoseStateFields h s, grantedPart (s.hose h).state (s.tx h), reasonPart (s.hose h).state]

/-- R97: the transaction that HOSE STATUS shows, in FLOWING, PAUSED and DRAINING. -/
def shownTx (h : Hose) (s : State) : Option Transaction :=
  match (s.hose h).state with
  | .flowing | .paused | .draining => s.tx h
  | .idle | .identifying | .awaiting _ _ | .refused _ | .blocked | .finished => none

/-- R97: the stage shown, CLOSED outside FLOWING. -/
def stageShown (hc : HoseCtl) : Nat :=
  match hc.state with
  | .flowing => hc.stage.code
  | .idle | .identifying | .awaiting _ _ | .refused _ | .blocked | .paused | .draining | .finished =>
    closedStageCode

def fleetOf (s : State) (k : Nat) : Text := ((s.machine k).map fun m => m.fields.fleet).getD []

def completionFields (n : Completion) : List Field :=
  [.long n.seq, .code n.cause.code, volumeOf n.net, .money n.charge]

def hoseStatusFields (h : Hose) (s : State) : List Field :=
  let hc := s.hose h
  let tx := shownTx h s
  joinFields [hoseStateFields h s, reasonPart hc.state,
    eachPart [fun k => .count2 k, fun k => .text (fleetOf s k)] (holding s h),
    eachPart [fun t => .flag t.manual, fun t => .flag t.offline, fun t => volumeOf t.volume.grossMl,
      fun t => volumeOf t.volume.netMl, fun t => volumeOf t.limit,
      fun _ => .code (stageShown hc)] tx,
    eachPart [fun c => .code c.code]
      (if hc.state = .draining then tx.bind Transaction.cause else none),
    eachPart [fun t => .count2 t.pauses] tx, [.flag (s.inputs.lifted.get h)],
    partIf hc.nearEnd [], optPart completionFields hc.completion]

/-- R100: the settings of the table, then the enabled setting, which is sent as a flag, set when the hose
is enabled (assumption 42). -/
def hoseSettingsFields (c : HoseConfig) : List Field :=
  [.count2 c.identifyTime, .count2 c.approvalTime, .code (secondIf (!c.approval)),
    .count2 c.holdPeriod,
    volumeOf c.minimumGrant, volumeOf c.overrunAllowance, volumeOf c.startVolume,
    volumeOf c.taperVolume, .count c.noFlowTime, .count c.resumeGrace, .flag c.enabled]

/-! ## Pumps and inhibits (R106, R113) -/

def pumpConfigFields (p : PumpConfig) : List Field := [.count p.maxRun, .count2 p.restTime]

def runTimePart : Pump → List Field
  | .running t => [.present, .count2 t]
  | .off | .resting _ => [.absent]

def restTimePart : Pump → List Field
  | .resting t => [.present, .count2 t]
  | .off | .running _ => [.absent]

def inhibitFields (r : InhibitRecord) : List Field :=
  joinFields [[.code r.cause.code, .count r.cause.subject], stampFields r.time]

def equipmentFields (s : State) : List Field :=
  joinFields [[.code (activeCode s.inputs.emergency), .code (s.pump .c1).code,
    .code (s.pump .c2).code],
    runTimePart (s.pump .c1), runTimePart (s.pump .c2), restTimePart (s.pump .c1),
    restTimePart (s.pump .c2), pumpConfigFields s.store.pumpConfigs.c1,
    pumpConfigFields s.store.pumpConfigs.c2,
    [.code (inhibitCode (s.comp .c1)), .code (inhibitCode (s.comp .c2))],
    optPart inhibitFields (s.comp .c1).inhibit, optPart inhibitFields (s.comp .c2).inhibit,
    [.wide (s.meter .m1).strays, .wide (s.meter .m2).strays, .wide (s.meter .m3).strays,
      .wide (s.meter .m4).strays]]

/-! ## Compartments (R119, R120, R130, R132) -/

def levelPart (l : Option Nat) : List Field := optPart (fun n => [.wide n]) l

def stockFields (c : Comp) (s : State) : List Field :=
  let k := s.comp c
  joinFields [[.volume k.book, .volume k.opening, .volume k.delivered, .volume k.dispensed,
    .volume k.adjustments, volumeOf k.reservations, .volume (available k), volumeOf k.reserveLevel,
      volumeOf k.lowStock, .flag (s.unit c).armed, .code (inhibitCode k)],
    levelPart (s.unit c).level]

def tankFields (k : Compartment) : List Field :=
  [volumeOf k.capacity, volumeOf k.reserveLevel, volumeOf k.lowStock, .wide k.cutoff, .count k.window]

/-- R120: the full answer of STRAPPING READ. -/
def strappingFields (l : List Point) : List Field :=
  listPart (fun p => [.wide p.level, volumeOf p.volume]) l

def requesterList (l : List Requester) : List Field := listPart (fun k => [.code k.code]) l

/-- R130: the samples taken and the window, in SAMPLING. -/
def sampleCountPart : Run → List Field
  | .sampling _ w n _ => [.present, .count n, .present, .count w]
  | .idle | .pending _ => [.absent, .absent]

def gaugeValueFields (v : GaugeValues) : List Field :=
  joinFields [stampFields v.time,
    [.wide v.level, .signed v.temp, volumeOf v.gross, .volume v.net, .volume v.variance,
      .flag v.above]]

def gaugeReadFields (c : Comp) (s : State) : List Field :=
  let u := s.unit c
  let g := (s.comp c).gauging
  joinFields [[.count (compNumber c), .code u.run.code],
    partIf (decide (u.run ≠ .idle)) (requesterList u.run.requesters), sampleCountPart u.run,
    [.flag (atRest c s)], levelPart u.level, [.code (secondIf (!g.ok)), .flag g.stale],
    optPart gaugeValueFields g.values]

/-! ## Deliveries (R145) -/

/-- R145: PENDING, OK or FAILED. -/
def preGaugeCode (d : Delivery) : Nat :=
  match d.state with
  | .preGauge => 0
  | .receiving | .draining | .postGauge => if d.preGauge.isSome then 1 else 2

/-- The delivery's meter counts. -/
def Delivery.counting (d : Delivery) : Bool := decide (d.state = .receiving ∨ d.state = .draining)

/-- R184: the inlet selector is a named set, C1 and C2 (assumption 15). -/
def selectorCode : Comp → Nat
  | .c1 => 0
  | .c2 => 1

/-- R145: the answer of DELIVERY STATUS. -/
def deliveryFields (s : State) : List Field :=
  let d := s.store.delivery
  let gauging := d.filter fun d => decide (d.state = .preGauge ∨ d.state = .postGauge)
  let counting := d.filter Delivery.counting
  let post := d.filter fun d => decide (d.state = .postGauge)
  let stopped := d.filter fun d => decide (d.state = .draining ∨ d.state = .postGauge)
  let begun := d.filter fun d => decide (d.state ≠ .preGauge)
  joinFields [[.code (deliveryCode (d.map Delivery.state)), .code (selectorCode s.store.selector),
    .code (openCode s.inlet.valveOpen), .code (activeCode s.inputs.overfill.c1),
      .code (activeCode s.inputs.overfill.c2)],
    eachPart [fun d => .count (compNumber d.comp), fun d => .text d.docket] d,
    eachPart [fun i => .volume i] (d.bind Delivery.declared),
    eachPart [fun d => .code (s.unit d.comp).run.code] gauging,
    eachPart [fun d => .code (preGaugeCode d)] d,
    eachPart [fun g => .volume g.net, fun g => .wide g.level] (d.bind Delivery.preGauge),
    eachPart [fun d => volumeOf d.volume.grossMl, fun d => volumeOf d.volume.netMl] counting,
    eachPart [fun f => volumeOf f.1, fun f => volumeOf f.2] (post.bind Delivery.final),
    eachPart [fun d => .wide d.volume.vcf.toNat, fun d => .signed d.volume.vcfTemp] counting,
    eachPart [fun c => .code c.code] (stopped.bind Delivery.cause),
    eachPart [fun d => .flag d.drainCut, fun d => .flag d.levelFault,
      fun d => .flag d.volume.clamped, fun d => .flag d.volume.uncompensated] begun,
    [.wide (s.meter .m4).strays]]

/-! ## The log (R154, R157, R163) and its records (section 9.2) -/

/-- Section 9.2's parts of a FILL record, in its order. R93 lists the parts of the record with TEMP_CLAMPED
before UNCOMPENSATED; the order on the line is section 9.2's (assumption 44). -/
def fillRecordFields (r : FillRecord) : List Field :=
  joinFields [[.count (hoseNumber r.hose), .code (productCode r.product), .count2 r.machine,
    .text r.fleet],
    optTag r.tag,
    [.count r.account, .text r.accountCode, .wide r.rate, .time r.start, .time r.finish,
      .flag r.unset, volumeOf r.gross, volumeOf r.net, .wide r.vcf.toNat, .signed r.vcfTemp,
      volumeOf r.limit, .money r.charge, .code r.cause.code, .count2 r.pauses, .flag r.offline,
      .flag r.manual, .flag r.uncompensated, .flag r.clamped, .flag r.drainCut]]

def gaugePart (g : Option (Int × Nat)) : List Field :=
  optPart (fun g : Int × Nat => [.volume g.1, .wide g.2]) g

def optSignedVolume (v : Option Int) : List Field := optPart (fun i => [.volume i]) v

def deliveryRecordFields (r : DeliveryRecord) : List Field :=
  joinFields [[.count (compNumber r.comp), .text r.docket], optSignedVolume r.declared,
    [.time r.start, .time r.finish, .flag r.unset, volumeOf r.gross, volumeOf r.net,
      .signed r.temp, .wide r.vcf.toNat],
    gaugePart r.preGauge, gaugePart r.postGauge, optSignedVolume r.variance,
    optSignedVolume r.docketVariance,
    [.code r.cause.code, .flag r.clamped, .flag r.uncompensated, .flag r.drainCut,
      .flag r.levelFault, .flag r.above]]

def adjustRecordFields (r : AdjustRecord) : List Field :=
  joinFields [[.count (compNumber r.comp), .code (secondIf (!r.gauged)), .count r.reason],
    stampFields r.time, [.volume r.before, .volume r.after],
    optPart (fun t => [.time t]) r.gaugingTime]

def shiftFigureFields (f : ShiftFigures) : List Field :=
  [.volume f.opening, .volume f.delivered, .volume f.dispensed, .volume f.adjustments,
    .volume f.closing, .wide f.fills]

def shiftGaugePart (g : Option ShiftGauge) : List Field :=
  optPart (fun g : ShiftGauge => [.volume g.net, .time g.time, .flag g.stale]) g

/-- Section 9.2's parts of a SHIFT record, in its order: both times, then both unset flags (R162 lists each
time with its flag), the figures of C1 and then of C2, then the last gauging of C1 and of C2
(assumption 44). -/
def shiftRecordFields (r : ShiftRecord) : List Field :=
  joinFields [[.time r.opened.time, .time r.closed.time, .flag r.opened.unset, .flag r.closed.unset],
    shiftFigureFields r.figures.c1, shiftFigureFields r.figures.c2, shiftGaugePart r.gauges.c1,
    shiftGaugePart r.gauges.c2]

def bodyFields : RecordBody → List Field
  | .fill r => fillRecordFields r
  | .delivery r => deliveryRecordFields r
  | .adjust r => adjustRecordFields r
  | .shift r => shiftRecordFields r

/-- R154: the record with its upload state UNSENT (0) or SENT (1). -/
def recordFields (r : Record) : List Field :=
  joinFields [[.code r.body.code, .code (secondIf r.sent), .long r.seq, .long r.shift],
    bodyFields r.body]

/-- R154: the full answer of LOG READ: the record handed over, or EMPTY, and the UNSENT count left. -/
def logReadFields (r : Option Record) (left : Nat) : List Field :=
  joinFields [optPart recordFields r, [.count2 left]]

def logStatusFields (s : State) : List Field :=
  let l := s.store.log
  joinFields [[.count2 l.records.length, .count2 (unsent l).length, .count2 l.commitments,
      .count2 (freeSlots l)],
    eachPart [fun r => .long r.seq] l.records.head?,
    eachPart [fun r => .long r.seq] l.records.getLast?,
    eachPart [fun r => .long r.seq] (unsent l).head?,
    [.long l.nextSeq, .flag s.logWatch.armed]]

def shiftTotalFields (k : Nat) (a : Account) (s : State) : List Field :=
  joinFields [[.long s.store.shift.number], stampFields s.store.shift.opened,
    [.count k, volumeOf a.used.diesel, volumeOf a.used.fluid, .money a.charged,
      .wide s.store.shift.fills.c1, .wide s.store.shift.fills.c2]]

/-! ## Calibration (R171, R172) -/

def calValueFields : CalValue → List Field
  | .bands l => listPart (fun b => [.count2 b.lower, .wide b.factor]) l
  | .alpha n => [.count2 n]
  | .offset i => [.signed i]

/-- R164: the stored value of an item. -/
def itemValue (set : CalSet) : CalItem → CalValue
  | .meter m => .bands (set.bands.get m)
  | .alpha c => .alpha (set.alpha.get c)
  | .offset p => .offset (set.offset.get p)

def windowTimePart : Timer → List Field
  | .running n => [.present, .count n]
  | .stopped => [.absent]

/-- R172: the answer of CAL READ. The seal switch is CLOSED (0) or OPEN (1), as section 10.2 first lists it
(assumption 15). -/
def calReadFields (item : CalItem) (s : State) : List Field :=
  joinFields [[.code item.code], calValueFields (itemValue s.store.cal.set item),
    [.long s.store.cal.check.toNat, .code (metrologyCode s.guard),
      .code (secondIf s.inputs.sealOpen), .code (openCode s.guard.windowOpen)],
    windowTimePart s.guard.window, [.wide s.store.cal.audits]]

def auditFields (e : AuditEntry) (s : State) : List Field :=
  joinFields [[.wide s.store.cal.audits,
    .long ((s.store.cal.trail.head?.map AuditEntry.number).getD 0), .long e.number],
    stampFields e.time, [.code e.item.code], calValueFields e.old, calValueFields e.new]

/-! ## Parking (R183) -/

def baselineFields (b : Baseline) : List Field :=
  joinFields [[.volume b.net, .wide b.level], stampFields b.time]

def parkCompFields (c : Comp) (p : Park) : List Field :=
  joinFields [[.flag (p.watched.get c), .flag (p.awaited.get c)],
    optPart baselineFields (p.baselines.get c)]

def parkFields (s : State) : List Field :=
  joinFields [[.code s.park.state.code], parkCompFields .c1 s.park, parkCompFields .c2 s.park,
    optPart (fun o : ParkOutcome => [.code o.code]) s.park.outcome,
    [.count2 s.store.site.watchInterval, volumeOf s.store.site.theftThreshold]]

end Sys2Proof.Machine
end

