-- ==== Sys2Proof/Machine/StartUp.lean ====
section
/-! DEFINITION. Start-up (R101, R146, R151 and each chapter's start-up values), after power-on and after
RESTART, and the loss of power. -/

namespace Sys2Proof.Machine

/-- The volatile state at the beginning of start-up, over the store, the clock and the input levels:
alarms cleared (R192), watches armed (R117, R150), every block at its start-up value. -/
def volatileStart (clock : Stamp) (s : State) : State :=
  { store := s.store, clock := clock, channels := .all .started, hoses := .all (.atRest .idle),
    meters := .all .started, sources := .all .started, pumps := .all .off, units := .all .started,
    inlet := .started, logWatch := .started, guard := .started, park := .started, link := .started,
    alarms := [], inputs := s.inputs, power := .on, handed := [], draws := s.draws,
    pending := s.pending, line := s.line }

/-- R151: the commitments that the stored contexts hold. -/
def contextCount (st : Store) : Nat :=
  (if st.txs.h1.isSome then 1 else 0) + (if st.txs.h2.isSome then 1 else 0) +
    (if st.txs.h3.isSome then 1 else 0) + (if st.delivery.isSome then 1 else 0)

/-- R151: the commitment count is recomputed from the stored contexts. -/
def recountCommitments (s : State) : State :=
  s.setLog { s.store.log with commitments := contextCount s.store }

/-- R101: a stored interrupted transaction is closed with stop cause POWER_LOSS, without a notice. -/
def closeInterrupted (h : Hose) (s : State) : State :=
  match s.tx h with
  | some tx => (chargeFill h { tx with cause := some .powerLoss } s).putTx h none
  | none => s

/-- R146: a stored delivery is brought to an end according to the state it was in. After a power-on the clock is
unset, so the clock-unset flag of its record is set, in POST_GAUGE too (assumption 47). -/
def endInterrupted (s : State) : State :=
  match s.store.delivery with
  | none => s
  | some d =>
    match d.state with
    | .preGauge => cancelDelivery s
    | .receiving | .draining =>
      let d := { d with cause := some .powerLoss }
      recordDelivery (finishDelivery d s) none (creditDelivery d s)
    | .postGauge => recordDelivery { d with unset := d.unset || s.now.unset } none s

/-- R101: the state a hose takes from its enabled setting and its nozzle switch. -/
def startedState (enabled lifted : Bool) : HoseState :=
  if enabled then (if lifted then .refused .rehang else .idle) else .blocked

/-- R101: the hoses take their states. -/
def startHose (h : Hose) (s : State) : State :=
  s.putHose h (.atRest (startedState (s.config h).enabled (s.inputs.lifted.get h)))

/-- R108, R139, R165: an input that is active (or OPEN) once start-up is complete is handled as becoming
so, which raises its alarm. -/
def raiseIf (active : Bool) (a : Alarm) (s : State) : State := if active then raiseAlarm a s else s

def takeInputs (s : State) : State :=
  raiseIf s.inputs.sealOpen .sealOpen
    (raiseIf s.inputs.overfill.c2 (.overfill .c2)
      (raiseIf s.inputs.overfill.c1 (.overfill .c1)
        (raiseIf s.inputs.emergency .emergency s)))

/-- R101, R151: the closes of interrupted operations: the transactions of H1, H2 and H3, then the
delivery. -/
def closeOperations (s : State) : State :=
  endInterrupted (closeInterrupted .h3 (closeInterrupted .h2 (closeInterrupted .h1 s)))

/-- Start-up with the site clock at a given stamp: the closes of interrupted operations, the near-full
watch (R150), the deferred update queue (R46), the hoses' states (R101), STALE (R127), the integrity
check (R173), the low-stock watch (R117) and the input levels. -/
def startUpAt (clock : Stamp) (s : State) : State :=
  let s := watchLog (closeOperations (recountCommitments (volatileStart clock s)))
  let s := applyQueue s
  let s := startHose .h3 (startHose .h2 (startHose .h1 s))
  let s := setStale .c2 (setStale .c1 s)
  let s := integrityCheck s
  let s := watchStock .c2 (watchStock .c1 s)
  takeInputs s

/-- R158: after power-on the clock is 0 and unset. -/
def powerOn (s : State) : State := startUpAt { time := 0, unset := true } s

/-- R158, R197: after RESTART the clock keeps its value and its flag. -/
def restartUp (s : State) : State := startUpAt s.clock s

/-- R19: a loss of power loses all volatile state and leaves the store. The input levels are the
bowser's own and stand. -/
def losePower (s : State) : State :=
  { volatileStart { time := 0, unset := true } s with power := .off, guard := { Guard.started with check := .stopped } }

end Sys2Proof.Machine
end

