-- ==== Sys2Proof/Machine/Operands.lean ====
section
/-! DEFINITION. The operands of the host requests, read from a telegram's body field by field (R184,
R187 step 5): a reader answers its value with the bytes that remain, and nothing where the body ends
too early or a presence group is neither 0 nor 1. Values outside their stated range parse; their
owner's RANGE check refuses them. -/

namespace Sys2Proof.Machine

/-- A reader of fields. -/
abbrev Reader (α : Type) := List Septet → Option (α × List Septet)

/-- R184: `k` seven-bit groups, most significant first, joined to `acc`. -/
def readGroups : Nat → Nat → Reader Nat
  | 0, acc, bs => some (acc, bs)
  | k + 1, acc, b :: bs => readGroups k (acc * 128 + b.toNat) bs
  | _ + 1, _, [] => none

def readCount : Reader Nat := readGroups 1 0
def readCount2 : Reader Nat := readGroups 2 0
def readWide : Reader Nat := readGroups 3 0
def readLong : Reader Nat := readGroups 5 0
def readTime : Reader Nat := readGroups 5 0
def readTag : Reader Nat := readGroups 6 0

/-- R184: two's complement over `bits` bits. -/
def twosComplement (bits n : Nat) : Int :=
  if n < 2 ^ (bits - 1) then (n : Int) else (n : Int) - 2 ^ bits

/-- R184: a signed value, two's complement over 21 bits. -/
def readSigned : Reader Int := fun bs => (readGroups 3 0 bs).map fun r => (twosComplement 21 r.1, r.2)

/-- R184: a volume, two's complement over 35 bits. -/
def readVolume : Reader Int := fun bs => (readGroups 5 0 bs).map fun r => (twosComplement 35 r.1, r.2)

/-- R184: a text, a length group and that many characters. -/
def readText : Reader Text := fun bs =>
  match bs with
  | [] => none
  | n :: rest =>
    if n.toNat ≤ rest.length then some (rest.take n.toNat, rest.drop n.toNat) else none

/-- R184, R187: an optional part, a presence group of 0 or 1 and the part when it is 1. -/
def readOptional {α : Type} (r : Reader α) : Reader (Option α) := fun bs =>
  match bs with
  | [] => none
  | p :: rest =>
    if p.toNat = 0 then some (none, rest)
    else if p.toNat = 1 then (r rest).map fun x => (some x.1, x.2)
    else none

/-- `n` items, one after the other. -/
def readItems {α : Type} (r : Reader α) : Nat → Reader (List α)
  | 0, bs => some ([], bs)
  | n + 1, bs => do
    let (a, bs) ← r bs
    let (rest, bs) ← readItems r n bs
    some (a :: rest, bs)

/-- R184: a list, a count and that many items. -/
def readList {α : Type} (r : Reader α) : Reader (List α) := fun bs => do
  let (n, bs) ← readCount bs
  readItems r n bs

/-- R187: the body ends with its fields; bytes that remain are a FORMAT failure. -/
def atEnd {α : Type} (a : α) (bs : List Septet) : Option α := if bs.isEmpty then some a else none

/-- A request without operands. -/
def parseNone (body : List Septet) : Option Unit := atEnd () body

/-- A request with one one-group count: a hose, compartment, pump, channel or account number, or an
item selector. -/
def parseCount (body : List Septet) : Option Nat := do
  let (n, bs) ← readCount body
  atEnd n bs

/-- A request with one two-group count: an entry index. -/
def parseCount2 (body : List Septet) : Option Nat := do
  let (n, bs) ← readCount2 body
  atEnd n bs

/-- A request with one five-group number: a sequence number, an audit number or a time. -/
def parseLong (body : List Septet) : Option Nat := do
  let (n, bs) ← readLong body
  atEnd n bs

/-- R50: a tag ID; its top two bits are left to the owner's RANGE check (R187). -/
def parseTag (body : List Septet) : Option Nat := do
  let (n, bs) ← readTag body
  atEnd n bs

/-- R189: the part number that a request with a long answer may carry after its operands. -/
def readPart (bs : List Septet) : Option (Option Nat) :=
  match bs with
  | [] => some none
  | _ => do
    let (n, bs) ← readCount bs
    atEnd (some n) bs

/-- The operands of MACHINE READ: an index and an optional part number. -/
def parseMachineRead (body : List Septet) : Option (Nat × Option Nat) := do
  let (k, bs) ← readCount2 body
  let part ← readPart bs
  some (k, part)

/-- The operands of STRAPPING READ: a compartment number and an optional part number. -/
def parseStrappingRead (body : List Septet) : Option (Nat × Option Nat) := do
  let (k, bs) ← readCount body
  let part ← readPart bs
  some (k, part)

/-- The operands of MACHINE WRITE as they stand in the body (R47, section 3.1). -/
structure MachineOperands where
  index : Nat
  state : Nat
  fleet : Text
  diesel : Option Nat
  fluid : Option Nat
  account : Nat
  maxDiesel : Option Int
  maxFluid : Option Int
  allowDiesel : Option Int
  allowFluid : Option Int
  offline : Nat
deriving DecidableEq, Repr

def parseMachineWrite (body : List Septet) : Option MachineOperands := do
  let (index, bs) ← readCount2 body
  let (state, bs) ← readCount bs
  let (fleet, bs) ← readText bs
  let (diesel, bs) ← readOptional readTag bs
  let (fluid, bs) ← readOptional readTag bs
  let (account, bs) ← readCount bs
  let (maxDiesel, bs) ← readOptional readVolume bs
  let (maxFluid, bs) ← readOptional readVolume bs
  let (allowDiesel, bs) ← readOptional readVolume bs
  let (allowFluid, bs) ← readOptional readVolume bs
  let (offline, bs) ← readCount bs
  atEnd { index, state, fleet, diesel, fluid, account, maxDiesel, maxFluid, allowDiesel, allowFluid,
          offline } bs

/-- The operands of ACCOUNT WRITE (R53, section 3.5). -/
structure AccountOperands where
  index : Nat
  state : Nat
  code : Text
  rateDiesel : Nat
  rateFluid : Nat
  budgetDiesel : Option Int
  budgetFluid : Option Int
deriving DecidableEq, Repr

def parseAccountWrite (body : List Septet) : Option AccountOperands := do
  let (index, bs) ← readCount body
  let (state, bs) ← readCount bs
  let (code, bs) ← readText bs
  let (rateDiesel, bs) ← readWide bs
  let (rateFluid, bs) ← readWide bs
  let (budgetDiesel, bs) ← readOptional readVolume bs
  let (budgetFluid, bs) ← readOptional readVolume bs
  atEnd { index, state, code, rateDiesel, rateFluid, budgetDiesel, budgetFluid } bs

/-- The operands of SETTINGS WRITE (R196). -/
structure SiteOperands where
  linkTimeout : Nat
  offlineCap : Int
  watchInterval : Nat
  theftThreshold : Int
deriving DecidableEq, Repr

def parseSettingsWrite (body : List Septet) : Option SiteOperands := do
  let (linkTimeout, bs) ← readCount body
  let (offlineCap, bs) ← readVolume bs
  let (watchInterval, bs) ← readCount2 bs
  let (theftThreshold, bs) ← readVolume bs
  atEnd { linkTimeout, offlineCap, watchInterval, theftThreshold } bs

/-- The operands of APPROVE: a hose number and an optional preset (R65). -/
def parseApprove (body : List Septet) : Option (Nat × Option Int) := do
  let (h, bs) ← readCount body
  let (preset, bs) ← readOptional readVolume bs
  atEnd (h, preset) bs

/-- The operands of AUTHORISE: a hose number, an entry index and an optional preset (R68). -/
def parseAuthorise (body : List Septet) : Option (Nat × Nat × Option Int) := do
  let (h, bs) ← readCount body
  let (k, bs) ← readCount2 bs
  let (preset, bs) ← readOptional readVolume bs
  atEnd (h, k, preset) bs

/-- The operands of HOSE SETTINGS WRITE (R100), in the order of its table. -/
structure HoseOperands where
  hose : Nat
  identifyTime : Nat
  approvalTime : Nat
  approval : Nat
  holdPeriod : Nat
  minimumGrant : Int
  overrunAllowance : Int
  startVolume : Int
  taperVolume : Int
  noFlowTime : Nat
  resumeGrace : Nat
deriving DecidableEq, Repr

def parseHoseSettings (body : List Septet) : Option HoseOperands := do
  let (hose, bs) ← readCount body
  let (identifyTime, bs) ← readCount2 bs
  let (approvalTime, bs) ← readCount2 bs
  let (approval, bs) ← readCount bs
  let (holdPeriod, bs) ← readCount2 bs
  let (minimumGrant, bs) ← readVolume bs
  let (overrunAllowance, bs) ← readVolume bs
  let (startVolume, bs) ← readVolume bs
  let (taperVolume, bs) ← readVolume bs
  let (noFlowTime, bs) ← readCount bs
  let (resumeGrace, bs) ← readCount bs
  atEnd { hose, identifyTime, approvalTime, approval, holdPeriod, minimumGrant, overrunAllowance,
          startVolume, taperVolume, noFlowTime, resumeGrace } bs

/-- The operands of PUMP SETTINGS WRITE: pump number, max run, rest time (R106). -/
def parsePumpSettings (body : List Septet) : Option (Nat × Nat × Nat) := do
  let (p, bs) ← readCount body
  let (maxRun, bs) ← readCount bs
  let (rest, bs) ← readCount2 bs
  atEnd (p, maxRun, rest) bs

/-- The operands of TANK SETUP WRITE (R119). -/
structure TankOperands where
  comp : Nat
  capacity : Int
  reserveLevel : Int
  lowStock : Int
  cutoff : Nat
  window : Nat
deriving DecidableEq, Repr

def parseTankSetup (body : List Septet) : Option TankOperands := do
  let (comp, bs) ← readCount body
  let (capacity, bs) ← readVolume bs
  let (reserveLevel, bs) ← readVolume bs
  let (lowStock, bs) ← readVolume bs
  let (cutoff, bs) ← readWide bs
  let (window, bs) ← readCount bs
  atEnd { comp, capacity, reserveLevel, lowStock, cutoff, window } bs

/-- A point of a strapping table as it stands in the body. -/
def readPoint : Reader (Nat × Int) := fun bs => do
  let (level, bs) ← readWide bs
  let (volume, bs) ← readVolume bs
  some ((level, volume), bs)

/-- The operands of STRAPPING WRITE: a compartment number and a list of points (R120). -/
def parseStrapping (body : List Septet) : Option (Nat × List (Nat × Int)) := do
  let (c, bs) ← readCount body
  let (points, bs) ← readList readPoint bs
  atEnd (c, points) bs

/-- The operands of BOOK ADJUST: compartment number, form (0 GAUGED, 1 VALUE), a value for the VALUE
form, and a reason code (R131). -/
structure AdjustOperands where
  comp : Nat
  form : Nat
  value : Option Int
  reason : Nat
deriving DecidableEq, Repr

def parseBookAdjust (body : List Septet) : Option AdjustOperands := do
  let (comp, bs) ← readCount body
  let (form, bs) ← readCount bs
  let (value, bs) ← readOptional readVolume bs
  let (reason, bs) ← readCount bs
  atEnd { comp, form, value, reason } bs

/-- The operands of DELIVERY OPEN: compartment number, docket reference, optional declared net (R134). -/
def parseDeliveryOpen (body : List Septet) : Option (Nat × Text × Option Int) := do
  let (c, bs) ← readCount body
  let (docket, bs) ← readText bs
  let (declared, bs) ← readOptional readVolume bs
  atEnd (c, docket, declared) bs

/-- The operand of LOG READ: an optional part number (R154, R189). -/
def parseLogRead (body : List Septet) : Option (Option Nat) := readPart body

/-- R164: the item that a selector names: METER 1 to 4, ALPHA 1 to 2, OFFSET 1 to 3, numbered from 0
(R184, assumption 15). -/
def itemOf : Nat → Option CalItem
  | 0 => some (.meter .m1)
  | 1 => some (.meter .m2)
  | 2 => some (.meter .m3)
  | 3 => some (.meter .m4)
  | 4 => some (.alpha .c1)
  | 5 => some (.alpha .c2)
  | 6 => some (.offset .p1)
  | 7 => some (.offset .p2)
  | 8 => some (.offset .p3)
  | _ => none

def readBand : Reader Band := fun bs => do
  let (lower, bs) ← readCount2 bs
  let (factor, bs) ← readWide bs
  some ({ lower, factor }, bs)

/-- The value of a calibration item as it stands in the body (R168): a band list, a coefficient or an
offset, by the item. -/
def parseCalValue (item : CalItem) (bs : List Septet) : Option CalValue :=
  match item with
  | .meter _ => do
    let (l, bs) ← readList readBand bs
    atEnd (.bands l) bs
  | .alpha _ => do
    let (n, bs) ← readCount2 bs
    atEnd (.alpha n) bs
  | .offset _ => do
    let (i, bs) ← readSigned bs
    atEnd (.offset i) bs

/-- The operands of CAL WRITE (R168): the item with its value, or nothing where the selector names no
item; its value cannot then be read, and the owner refuses the selector (assumption 21). -/
def parseCalWrite (body : List Septet) : Option (Option (CalItem × CalValue)) := do
  let (sel, bs) ← readCount body
  match itemOf sel with
  | none => some none
  | some item => (parseCalValue item bs).map fun v => some (item, v)

end Sys2Proof.Machine
end

