-- ==== Sys2Proof/Machine/Wire.lean ====
section
/-! DEFINITION. The line (R184 to R186): how fields and replies are laid out as bytes, how frames are
assembled from bytes and tested, and the row of the command table that a completed frame is. -/

namespace Sys2Proof.Machine

/-! ## Fields and telegrams -/

/-- R184: the low `7 * k` bits of `n` as `k` seven-bit groups, most significant first. -/
def groups : Nat → Nat → List Septet
  | 0, _ => []
  | k + 1, n => BitVec.ofNat 7 (n / 128 ^ k) :: groups k n

/-- R184: a signed number as `k` groups, two's complement over `7 * k` bits. -/
def signedGroups (k : Nat) (i : Int) : List Septet := groups k (i % 128 ^ k).toNat

/-- R184: the bytes of a field. -/
def Field.bytes : Field → List Septet
  | .count n => groups 1 n
  | .count2 n => groups 2 n
  | .wide n => groups 3 n
  | .long n => groups 5 n
  | .signed i => signedGroups 3 i
  | .volume i => signedGroups 5 i
  | .money n => groups 5 n
  | .time n => groups 5 n
  | .tag id => groups 6 id.toNat
  | .text t => BitVec.ofNat 7 t.length :: t
  | .code n => groups 1 n
  | .flag b => groups 1 (if b then 1 else 0)
  | .present => groups 1 1
  | .absent => groups 1 0
  | .raw bs => bs

def fieldBytes (fs : List Field) : List Septet := fs.flatMap Field.bytes

/-- R188: the number of a refusal code. -/
def refusalNumber : RefusalCode → Nat
  | .check => 1
  | .unknown => 2
  | .format => 3
  | .range => 4
  | .state => 5
  | .busy => 6
  | .notFound => 7
  | .duplicate => 8
  | .full => 9
  | .locked => 10
  | .logFull => 11
  | .waking => 12

/-- R184: the value of C for a sum S of lead, length and body bytes. -/
def checkValueOf (sum : Nat) : Nat := (16384 - sum % 16384) % 16384

def byteSum (bs : List Septet) : Nat := (bs.map BitVec.toNat).sum

/-- R184: the bytes of a telegram of a class, with its sequence tag and body. -/
def telegramOf (cls : Nat) (tag : SeqTag) (body : List Septet) : List LineByte :=
  let lead := 128 + cls * 16 + tag.toNat
  let c := checkValueOf (lead + body.length + byteSum body)
  BitVec.ofNat 8 lead :: BitVec.ofNat 8 body.length :: (body.map fun b => BitVec.ofNat 8 b.toNat) ++
    [BitVec.ofNat 8 (c / 128), BitVec.ofNat 8 (c % 128)]

/-- R188: the telegram of a reply, class 1 for an answer and class 2 for a refusal. -/
def Reply.telegram : Reply → List LineByte
  | .answer tag code fields => telegramOf 1 tag (code :: fieldBytes fields)
  | .refusal tag r echo => telegramOf 2 tag [BitVec.ofNat 7 (refusalNumber r), echo]

/-! ## Long answers (R189) -/

/-- R189: a fragment is at most 95 bytes. -/
def fragmentSize : Nat := 95

/-- R189: the number of parts of a full answer. -/
def partCount (full : List Septet) : Nat := max 1 ((full.length + 94) / 95)

/-- R189: part `part` of a full answer: the part number, the number of parts, the content check and
the fragment; a part number beyond the number of parts is refused with RANGE. -/
def answerPart (full : List Septet) (part : Nat) : Except RefusalCode (List Field) :=
  if part = 0 ∨ partCount full < part then .error .range
  else .ok [.count part, .count (partCount full), .count2 (byteSum full % 16384),
    .raw ((full.drop (fragmentSize * (part - 1))).take fragmentSize)]

/-! ## Receiving (R185, R186) -/

/-- A completed frame: its lead, body bytes and check bytes. -/
structure Frame where
  lead : LineByte
  body : List Septet
  high : Septet
  low : Septet
deriving DecidableEq, Repr

/-- What a received byte brings about at the receiver. -/
inductive LineEvent where
  | none
  | broken (kind : BrokenFrame)
  | frame (f : Frame)
deriving DecidableEq, Repr

/-- R185: the assembly after a byte with bit 7 clear. -/
def assembleLow (a : Assembly) (b : Septet) : Assembly × LineEvent :=
  match a with
  | .hunt => (.hunt, .none)
  | .length lead =>
    if b.toNat = 0 ∨ 100 < b.toNat then (.hunt, .broken .badLength) else (.body lead b.toNat [], .none)
  | .body lead len got =>
    if (got ++ [b]).length = len then (.checkHigh lead (got ++ [b]), .none)
    else (.body lead len (got ++ [b]), .none)
  | .checkHigh lead got => (.checkLow lead got b, .none)
  | .checkLow lead got high => (.hunt, .frame ⟨lead, got, high, b⟩)

/-- R185: the assembly after a byte. A byte with bit 7 set begins a new frame in any state, and
discards a partial one. -/
def assemble (a : Assembly) (b : LineByte) : Assembly × LineEvent :=
  if 128 ≤ b.toNat then
    (.length b, if a = .hunt then .none else .broken (.newLead b))
  else assembleLow a (BitVec.ofNat 7 b.toNat)

/-- R186 test 2: the check of a completed frame holds. -/
def Frame.checks (f : Frame) : Bool :=
  decide ((f.lead.toNat + f.body.length + byteSum f.body + 128 * f.high.toNat + f.low.toNat) % 16384 = 0)

/-- R184: the class in a lead, bits 6 to 4. -/
def Frame.cls (f : Frame) : Nat := f.lead.toNat / 16 % 8

/-- R184: the sequence tag in a lead, bits 3 to 0. -/
def Frame.tag (f : Frame) : SeqTag := BitVec.ofNat 4 f.lead.toNat

/-- R184: the request of a message code. A STRAPPING WRITE frame whose last-part flag is clear is the
row STRAPPING WRITE PART (R189). -/
def requestRow (code : Septet) (tag : SeqTag) (body : List Septet) : Instr :=
  match code.toNat with
  | 1 => .siteStatus tag body
  | 2 => .alarms tag body
  | 3 => .linkCounters tag body
  | 4 => .settingsRead tag body
  | 5 => .settingsWrite tag body
  | 6 => .restart tag body
  | 8 => .tagChannelRead tag body
  | 16 => .machineRead tag body
  | 17 => .machineWrite tag body
  | 18 => .machineDelete tag body
  | 19 => .machineFind tag body
  | 20 => .machineList tag body
  | 24 => .accountRead tag body
  | 25 => .accountWrite tag body
  | 26 => .accountDelete tag body
  | 32 => .approve tag body
  | 33 => .decline tag body
  | 34 => .authorise tag body
  | 40 => .hoseStatus tag body
  | 41 => .stop tag body
  | 42 => .hoseEnable tag body
  | 43 => .hoseDisable tag body
  | 44 => .hoseSettingsRead tag body
  | 45 => .hoseSettingsWrite tag body
  | 48 => .equipmentStatus tag body
  | 49 => .pumpSettingsRead tag body
  | 50 => .pumpSettingsWrite tag body
  | 51 => .inhibitClear tag body
  | 56 => .stockStatus tag body
  | 57 => .tankSetupRead tag body
  | 58 => .tankSetupWrite tag body
  | 59 => .strappingRead tag body
  | 60 =>
    match body with
    | part :: flag :: fragment =>
      if flag.toNat = 0 then .strappingWritePart tag part fragment else .strappingWrite tag body
    | _ => .strappingWrite tag body
  | 61 => .gauge tag body
  | 62 => .gaugeRead tag body
  | 63 => .bookAdjust tag body
  | 72 => .deliveryStatus tag body
  | 73 => .deliveryOpen tag body
  | 74 => .deliveryClose tag body
  | 80 => .logStatus tag body
  | 81 => .logRead tag body
  | 82 => .logConfirm tag body
  | 83 => .logRewind tag body
  | 88 => .clockSet tag body
  | 89 => .shiftClose tag body
  | 90 => .shiftTotals tag body
  | 96 => .calRead tag body
  | 97 => .calOpen tag body
  | 98 => .calWrite tag body
  | 99 => .calClose tag body
  | 100 => .auditRead tag body
  | 104 => .parkStatus tag body
  | 105 => .park tag body
  | _ => .unknown tag code

/-- R184, R189: the request that a command is: its message code, its sequence tag and its body after the
message code. A part of a STRAPPING WRITE that is not the last carries its number and a clear flag. -/
def requestForm : Instr → Option (Septet × SeqTag × List Septet)
  | .siteStatus tag body => some (1, tag, body)
  | .alarms tag body => some (2, tag, body)
  | .linkCounters tag body => some (3, tag, body)
  | .settingsRead tag body => some (4, tag, body)
  | .settingsWrite tag body => some (5, tag, body)
  | .restart tag body => some (6, tag, body)
  | .tagChannelRead tag body => some (8, tag, body)
  | .machineRead tag body => some (16, tag, body)
  | .machineWrite tag body => some (17, tag, body)
  | .machineDelete tag body => some (18, tag, body)
  | .machineFind tag body => some (19, tag, body)
  | .machineList tag body => some (20, tag, body)
  | .accountRead tag body => some (24, tag, body)
  | .accountWrite tag body => some (25, tag, body)
  | .accountDelete tag body => some (26, tag, body)
  | .approve tag body => some (32, tag, body)
  | .decline tag body => some (33, tag, body)
  | .authorise tag body => some (34, tag, body)
  | .hoseStatus tag body => some (40, tag, body)
  | .stop tag body => some (41, tag, body)
  | .hoseEnable tag body => some (42, tag, body)
  | .hoseDisable tag body => some (43, tag, body)
  | .hoseSettingsRead tag body => some (44, tag, body)
  | .hoseSettingsWrite tag body => some (45, tag, body)
  | .equipmentStatus tag body => some (48, tag, body)
  | .pumpSettingsRead tag body => some (49, tag, body)
  | .pumpSettingsWrite tag body => some (50, tag, body)
  | .inhibitClear tag body => some (51, tag, body)
  | .stockStatus tag body => some (56, tag, body)
  | .tankSetupRead tag body => some (57, tag, body)
  | .tankSetupWrite tag body => some (58, tag, body)
  | .strappingRead tag body => some (59, tag, body)
  | .strappingWrite tag body => some (60, tag, body)
  | .strappingWritePart tag part fragment => some (60, tag, part :: 0 :: fragment)
  | .gauge tag body => some (61, tag, body)
  | .gaugeRead tag body => some (62, tag, body)
  | .bookAdjust tag body => some (63, tag, body)
  | .deliveryStatus tag body => some (72, tag, body)
  | .deliveryOpen tag body => some (73, tag, body)
  | .deliveryClose tag body => some (74, tag, body)
  | .logStatus tag body => some (80, tag, body)
  | .logRead tag body => some (81, tag, body)
  | .logConfirm tag body => some (82, tag, body)
  | .logRewind tag body => some (83, tag, body)
  | .clockSet tag body => some (88, tag, body)
  | .shiftClose tag body => some (89, tag, body)
  | .shiftTotals tag body => some (90, tag, body)
  | .calRead tag body => some (96, tag, body)
  | .calOpen tag body => some (97, tag, body)
  | .calWrite tag body => some (98, tag, body)
  | .calClose tag body => some (99, tag, body)
  | .auditRead tag body => some (100, tag, body)
  | .parkStatus tag body => some (104, tag, body)
  | .park tag body => some (105, tag, body)
  | .unknown _ _ | .check _ _ | .overlap | .brokenFrame _ | .byteError | .waking _ _
  | .nozzleLift _ | .nozzleHang _ | .meterPulse _ | .tempReading _ _ | .tempFaultIndication _
  | .levelReading _ _ | .levelFaultIndication _ | .valid _ _ | .inverted _ _ | .checkBad _
  | .badStart _ | .confirmed _ _ | .lost _ | .changed _ _ | .emergencyStopActive
  | .emergencyStopInactive | .overfillSwitchActive _ | .overfillSwitchInactive _
  | .sealSwitchOpen | .sealSwitchClosed | .storeDisturbance _ | .startUp | .intervalEnd _
  | .sourceHoldTimerExpiry _ | .channelHoldTimerExpiry _ | .identifyTimerExpiry _
  | .approvalTimerExpiry _ | .noFlowTimerExpiry _ | .resumeGraceTimerExpiry _
  | .hoseDrainQuietExpiry _ | .hoseDrainCapExpiry _ | .deliveryDrainQuietExpiry
  | .deliveryDrainCapExpiry | .maxRunReached _ | .restTimerExpiry _ | .windowTimerExpiry
  | .checkTimerExpiry | .watchdogExpiry _ | .watchTimerExpiry | .confirmTimerExpiry
  | .siteClockTick | .preGaugeResult _ _ | .postGaugeResult _ _ | .parkBaselineResult _ _
  | .parkWatchResult _ _ | .answerSent | .lossOfPower => none

/-- R186, R187: the row of the command table that a completed frame is, by the tests in their order:
overlap while the part is sending, check failure, wrong class, and otherwise the request, which a
PARKED part takes as WAKING. -/
def frameRow (s : State) (f : Frame) : Instr :=
  let code := f.body.headD 0
  if s.link.sending.isSome then .overlap
  else if f.checks = false then .check f.tag code
  else if f.cls ≠ 0 then .brokenFrame .wrongClass
  else if s.park.state = .parked then .waking f.tag code
  else requestRow code f.tag f.body.tail

/-- R185 to R187: the command that a received byte brings, if it brings one, with the assembly after
it. -/
def byteCommand (s : State) (a : Assembly) (b : LineByte) : Assembly × Option Instr :=
  match assemble a b with
  | (a', .none) => (a', none)
  | (a', .broken kind) => (a', some (.brokenFrame kind))
  | (a', .frame f) => (a', some (frameRow s f))

/-- The command that a run of bytes brings last. -/
def bytesCommand (s : State) (bs : List LineByte) : Assembly × Option Instr :=
  bs.foldl (fun r b => match byteCommand s r.1 b with
    | (a, some i) => (a, some i)
    | (a, none) => (a, r.2)) (.hunt, none)

end Sys2Proof.Machine
end

