-- ==== Sys2Proof/Machine/Link.lean ====
section
/-! DEFINITION. The site link's handling of a frame (R186 to R191): the counters, the watchdog, the
refusals, waking, parsing a request and handing it to its owner, and the parts of a long request. -/

namespace Sys2Proof.Machine

/-! ## Counters, replies and the watchdog -/

/-- Change the link counters. -/
def countLink (f : LinkCounters → LinkCounters) (s : State) : State :=
  s.setLink { s.link with counters := f s.link.counters }

/-- R187 step 1, R190. -/
def LinkCounters.addGood (c : LinkCounters) : LinkCounters :=
  { c with good := bump Config.counterMax c.good }

/-- R186 test 2, R190. -/
def LinkCounters.addCheck (c : LinkCounters) : LinkCounters :=
  { c with checkFailures := bump Config.counterMax c.checkFailures }

/-- R185, R186 test 3, R190. -/
def LinkCounters.addBroken (c : LinkCounters) : LinkCounters :=
  { c with broken := bump Config.counterMax c.broken }

/-- R185, R190. -/
def LinkCounters.addByteError (c : LinkCounters) : LinkCounters :=
  { c with byteErrors := bump Config.counterMax c.byteErrors }

/-- R186 test 1, R190. -/
def LinkCounters.addOverlap (c : LinkCounters) : LinkCounters :=
  { c with overlaps := bump Config.counterMax c.overlaps }

/-- R187 steps 4 and 5, R190. -/
def LinkCounters.addUnknownFormat (c : LinkCounters) : LinkCounters :=
  { c with unknownFormat := bump Config.counterMax c.unknownFormat }

/-- R185: the receiver's assembly state. -/
def setAssembly (a : Assembly) (s : State) : State := s.setLink { s.link with assembly := a }

/-- R189: the long request assembly. -/
def setLongRequest (l : Option LongRequest) (s : State) : State :=
  s.setLink { s.link with longRequest := l }

/-- R187, R188: the part begins to send a reply. -/
def send (r : Reply) (s : State) : State := s.setLink { s.link with sending := some r }

/-- R188: a refusal without a counter of its own. -/
def refuse (tag : SeqTag) (r : RefusalCode) (echo : Septet) (s : State) : State :=
  send (.refusal tag r echo) s

/-- R187 steps 4 and 5: a refusal with UNKNOWN or FORMAT. -/
def refuseCounted (tag : SeqTag) (r : RefusalCode) (echo : Septet) (s : State) : State :=
  refuse tag r echo (countLink .addUnknownFormat s)

/-- R191: the watchdog restarted with the link timeout, or STOPPED where the setting is OFF. -/
def restartedWatchdog (timeout : Nat) : Watchdog := if timeout = 0 then .stopped else .running timeout

/-- R187 step 3, R191: the link becomes ONLINE and the watchdog restarts. -/
def hear (s : State) : State :=
  s.setLink { s.link with online := true, watchdog := restartedWatchdog s.store.site.linkTimeout }

/-- R181: the park state becomes WAKING and the confirm timer starts. -/
def beginWaking (s : State) : State :=
  s.setPark { s.park with state := .waking, confirm := .running Config.confirmTime }

/-! ## Frames -/

/-- R186 test 1: a frame completed while the part sends is discarded and counted. -/
def overlapFrame (s : State) : State := countLink .addOverlap (setAssembly .hunt s)

/-- R187 step 1: a valid frame is counted; its last byte has left the assembly in HUNT. -/
def goodFrame (s : State) : State := countLink .addGood (setAssembly .hunt s)

/-- R186, R187: a completed frame that checks and is a request, of message code `code`. While the part
sends it is an overlap; a PARKED part refuses it with WAKING; otherwise it reaches `handle`, with the
link ONLINE and the watchdog restarted. -/
def takeFrame (tag : SeqTag) (code : Septet) (handle : State → State) (s : State) : State :=
  match s.power with
  | .off => s
  | .restarting => overlapFrame s
  | .on =>
    if s.link.sending.isSome then overlapFrame s
    else match s.park.state with
      | .parked => refuse tag .waking code (beginWaking (goodFrame s))
      | .waking => handle (hear (wake .frame (goodFrame s)))
      | .active | .parking => handle (hear (goodFrame s))

/-! ## Requests -/

/-- What the owner of a request gives: a refusal, or the state after its effects and the fields of its
answer (R187 step 6, R188). -/
abbrev Owned := Except RefusalCode (State × List Field)

/-- R187 steps 5 and 6, R188: parse the body and hand the operands to the owner. A refused request
leaves the state. -/
def handleRequest {α : Type} (tag : SeqTag) (code : Septet) (parse : List Septet → Option α)
    (body : List Septet) (owner : α → State → Owned) (s : State) : State :=
  match parse body with
  | none => refuseCounted tag .format code s
  | some a =>
    match owner a s with
    | .error r => refuse tag r code s
    | .ok (s', fields) => send (.answer tag code fields) s'

/-- R186 to R188: a request of message code `code`. -/
def takeRequest {α : Type} (tag : SeqTag) (code : Nat) (parse : List Septet → Option α)
    (body : List Septet) (owner : α → State → Owned) (s : State) : State :=
  takeFrame tag (BitVec.ofNat 7 code) (handleRequest tag (BitVec.ofNat 7 code) parse body owner) s

/-! ## Long requests (R189) -/

/-- R189: join a part to the long request assembly: a part 1 starts a new one, and a later part is
added when it has the code and the number that the assembly expects. -/
def joinPart (code part : Septet) (fragment : List Septet) (l : Option LongRequest) :
    Option LongRequest :=
  if part.toNat = 1 then some { code := code, next := 2, got := fragment }
  else match l with
    | none => none
    | some l =>
      if l.code = code ∧ l.next = part.toNat ∧ part.toNat ≤ 4 then
        some { code := code, next := l.next + 1, got := l.got ++ fragment }
      else none

/-- R189: a part out of order is refused with FORMAT, counted, and discards the assembly. -/
def refusePart (tag : SeqTag) (code : Septet) (s : State) : State :=
  refuseCounted tag .format code (setLongRequest none s)

/-- R189: a part that is not the last is added and answered with its number. -/
def handlePart (tag : SeqTag) (code part : Septet) (fragment : List Septet) (s : State) : State :=
  match joinPart code part fragment s.link.longRequest with
  | none => refusePart tag code s
  | some l => send (.answer tag code [.count part.toNat]) (setLongRequest (some l) s)

/-- R187 step 5, R189: the body of a long request's last part. Without a part number and a flag it does
not parse; a flag above 1 is out of range (assumption 19); a clear flag is a part that is not the last. -/
def handleLast {α : Type} (tag : SeqTag) (code : Septet) (parse : List Septet → Option α)
    (body : List Septet) (owner : α → State → Owned) (s : State) : State :=
  match body with
  | part :: flag :: fragment =>
    if 1 < flag.toNat then refuse tag .range code s
    else if flag.toNat = 0 then handlePart tag code part fragment s
    else match joinPart code part fragment s.link.longRequest with
      | none => refusePart tag code s
      | some l => handleRequest tag code parse l.got owner (setLongRequest none s)
  | [_] | [] => refuseCounted tag .format code s

end Sys2Proof.Machine
end

