-- ==== Sys2Proof/Machine/LinkCommands.lean ====
section
/-! DEFINITION. The site link's own requests: SITE STATUS, ALARMS, LINK COUNTERS, SETTINGS READ,
SETTINGS WRITE and RESTART (R190, R193, R195 to R197). -/

namespace Sys2Proof.Machine

/-- R195. -/
def ownSiteStatus (_ : Unit) (s : State) : Owned := .ok (s, siteStatusFields s)

/-- R193: the rows returned are cleared. -/
def ownAlarms (_ : Unit) (s : State) : Owned := .ok (s.setAlarms (s.alarms.drop 10), alarmFields s)

/-- R190: the answer is formed, and the counters are set to 0. -/
def ownLinkCounters (_ : Unit) (s : State) : Owned :=
  .ok (countLink (fun _ => .zero) s, linkCounterFields s)

/-- R196. -/
def ownSettingsRead (_ : Unit) (s : State) : Owned := .ok (s, settingsFields s)

/-- A signed operand lies in a range. -/
def within (low high i : Int) : Bool := decide (low ≤ i ∧ i ≤ high)

/-- R196 check 1. -/
def SiteOperands.inRange (o : SiteOperands) : Bool :=
  decide (o.linkTimeout ∈ [0, 5, 15, 30, 60]) && within 10000 1000000 o.offlineCap &&
    within 10 240 o.watchInterval && within 5000 500000 o.theftThreshold

/-- R196: a link timeout of OFF stops the watchdog within the write. -/
def stopIfOff (timeout : Nat) (s : State) : State :=
  if timeout = 0 then s.setLink { s.link with watchdog := .stopped } else s

/-- R196. -/
def ownSettingsWrite (o : SiteOperands) (s : State) : Owned :=
  if o.inRange then
    .ok (stopIfOff o.linkTimeout (s.setSite
      { linkTimeout := o.linkTimeout, offlineCap := o.offlineCap.toNat,
        watchInterval := o.watchInterval, theftThreshold := o.theftThreshold.toNat }), [])
  else .error .range

/-- A hose in IDLE, REFUSED or BLOCKED (R98, R100, R134, R197). -/
def HoseState.resting : HoseState → Bool
  | .idle | .refused _ | .blocked => true
  | .identifying | .awaiting _ _ | .flowing | .paused | .draining | .finished => false

/-- R197 check 1. -/
def restartAllowed (s : State) : Bool :=
  allHoses.all (fun h => (s.hose h).state.resting) && s.store.delivery.isNone

/-- R197: a request that passes is answered with the clock; start-up follows the answer's last byte. -/
def ownRestart (_ : Unit) (s : State) : Owned :=
  if restartAllowed s then .ok (s.setPower .restarting, stampFields s.clock) else .error .state

/-- SITE STATUS (R195). -/
def execSiteStatus (tag : SeqTag) (body : List Septet) (s : State) : Host.Outcome State Fault Refusal :=
  .next (takeRequest tag 1 parseNone body ownSiteStatus s)

/-- ALARMS (R193). -/
def execAlarms (tag : SeqTag) (body : List Septet) (s : State) : Host.Outcome State Fault Refusal :=
  .next (takeRequest tag 2 parseNone body ownAlarms s)

/-- LINK COUNTERS (R190). -/
def execLinkCounters (tag : SeqTag) (body : List Septet) (s : State) :
    Host.Outcome State Fault Refusal :=
  .next (takeRequest tag 3 parseNone body ownLinkCounters s)

/-- SETTINGS READ (R196). -/
def execSettingsRead (tag : SeqTag) (body : List Septet) (s : State) :
    Host.Outcome State Fault Refusal :=
  .next (takeRequest tag 4 parseNone body ownSettingsRead s)

/-- SETTINGS WRITE (R196). -/
def execSettingsWrite (tag : SeqTag) (body : List Septet) (s : State) :
    Host.Outcome State Fault Refusal :=
  .next (takeRequest tag 5 parseSettingsWrite body ownSettingsWrite s)

/-- RESTART (R197). -/
def execRestart (tag : SeqTag) (body : List Septet) (s : State) : Host.Outcome State Fault Refusal :=
  .next (takeRequest tag 6 parseNone body ownRestart s)

end Sys2Proof.Machine
end

