-- ==== Sys2Proof/Machine/RegistryCommands.lean ====
section
/-! DEFINITION. The requests of the machine registry and the accounts (R47 to R51, R53 to R55). -/

namespace Sys2Proof.Machine

/-! ## Operands in range -/

/-- R38: a text of `low` to `high` printable characters. -/
def textWithin (low high : Nat) (t : Text) : Bool :=
  decide (low ≤ t.length ∧ t.length ≤ high) && t.all fun c => decide (32 ≤ c.toNat ∧ c.toNat ≤ 126)

/-- An optional volume is absent or in range. -/
def optWithin (low high : Int) (v : Option Int) : Bool :=
  match v with
  | none => true
  | some i => within low high i

/-- R187: the top two bits of a tag ID are 0. -/
def tagWithin (t : Option Nat) : Bool :=
  match t with
  | none => true
  | some n => decide (n < 2 ^ 40)

/-- R47 check 1, with the operands that R187 leaves to the owner's RANGE check. -/
def MachineOperands.inRange (o : MachineOperands) : Bool :=
  decide (o.index ≤ 511) && decide (o.state = 1 ∨ o.state = 2) && textWithin 1 10 o.fleet &&
    tagWithin o.diesel && tagWithin o.fluid && decide (o.account ≤ 63) &&
    optWithin 1000 2000000 o.maxDiesel && optWithin 1000 2000000 o.maxFluid &&
    optWithin 0 10000000 o.allowDiesel && optWithin 0 10000000 o.allowFluid && decide (o.offline ≤ 1)

/-- The writable fields that a MACHINE WRITE carries. -/
def MachineOperands.fields (o : MachineOperands) : MachineFields :=
  { suspended := decide (o.state = 2)
    fleet := o.fleet
    tags := ⟨o.diesel.map (BitVec.ofNat 40), o.fluid.map (BitVec.ofNat 40)⟩
    account := o.account
    maxFill := ⟨o.maxDiesel.map Int.toNat, o.maxFluid.map Int.toNat⟩
    allowance := ⟨o.allowDiesel.map Int.toNat, o.allowFluid.map Int.toNat⟩
    offline := decide (o.offline = 1) }

/-- R47 check 2: both tags are present and equal. -/
def sameTags (f : MachineFields) : Bool := f.tags.diesel.isSome && decide (f.tags.diesel = f.tags.fluid)

/-- R39, R47 check 4: a tag of the write is a tag of another entry. -/
def duplicateTag (s : State) (k : Nat) (f : MachineFields) : Bool :=
  (f.tags.diesel.map (tagTaken s k)).getD false || (f.tags.fluid.map (tagTaken s k)).getD false

/-- R53 check 1. -/
def AccountOperands.inRange (o : AccountOperands) : Bool :=
  decide (o.index ≤ 63) && decide (o.state = 1 ∨ o.state = 2) && textWithin 1 12 o.code &&
    decide (o.rateDiesel ≤ 99999) && decide (o.rateFluid ≤ 99999) &&
    optWithin 0 1000000000 o.budgetDiesel && optWithin 0 1000000000 o.budgetFluid

/-- The writable fields that an ACCOUNT WRITE carries. -/
def AccountOperands.fields (o : AccountOperands) : AccountFields :=
  { suspended := decide (o.state = 2)
    code := o.code
    rate := ⟨o.rateDiesel, o.rateFluid⟩
    budget := ⟨o.budgetDiesel.map Int.toNat, o.budgetFluid.map Int.toNat⟩ }

/-! ## Owners -/

/-- R49. -/
def ownMachineRead (o : Nat × Option Nat) (s : State) : Owned :=
  if 511 < o.1 then .error .range
  else (answerPart (fieldBytes (machineReadFields o.1 s)) (o.2.getD 1)).map fun fs => (s, fs)

/-- R47. -/
def ownMachineWrite (o : MachineOperands) (s : State) : Owned :=
  if !o.inRange then .error .range
  else if sameTags o.fields then .error .range
  else if (s.account o.account).isNone then .error .notFound
  else if duplicateTag s o.index o.fields then .error .duplicate
  else if queueBusy s o.index then .error .busy
  else .ok (writeOrQueue { entry := o.index, contents := some o.fields } s,
    [.count2 o.index, .code (appliedCode (held s o.index))])

/-- R48. -/
def ownMachineDelete (k : Nat) (s : State) : Owned :=
  if 511 < k then .error .range
  else if (s.machine k).isNone then .error .notFound
  else if queueBusy s k then .error .busy
  else .ok (writeOrQueue { entry := k, contents := none } s, [.code (appliedCode (held s k))])

/-- R50: the answer carries CURRENT 0 or PENDING 1. -/
def foundFields (pending : Bool) (r : Nat × Product) : List Field :=
  [.count2 r.1, .code (productCode r.2), .code (secondIf pending)]

/-- R50. -/
def ownMachineFind (n : Nat) (s : State) : Owned :=
  if 2 ^ 40 ≤ n then .error .range
  else match findTag s.store.machines (BitVec.ofNat 40 n) with
    | some r => .ok (s, foundFields false r)
    | none =>
      match findPendingTag s.store.queue (BitVec.ofNat 40 n) with
      | some r => .ok (s, foundFields true r)
      | none => .error .notFound

/-- R51. -/
def ownMachineList (k : Nat) (s : State) : Owned :=
  if 511 < k then .error .range else .ok (s, machineListFields k s)

/-- R55. -/
def ownAccountRead (k : Nat) (s : State) : Owned :=
  if 63 < k then .error .range else .ok (s, accountReadFields k s)

/-- R53: an account after a write. -/
def writtenAccount (f : AccountFields) : Option Account → Account
  | some a => { a with fields := f }
  | none => { fields := f, used := .all 0, reserved := .all 0, charged := 0 }

/-- R53. -/
def ownAccountWrite (o : AccountOperands) (s : State) : Owned :=
  if !o.inRange then .error .range
  else .ok (s.setAccounts (tablePut s.store.accounts o.index (writtenAccount o.fields (s.account o.index))),
    [.count o.index, .code (appliedCode false)])

/-- R54. -/
def ownAccountDelete (k : Nat) (s : State) : Owned :=
  if 63 < k then .error .range
  else match s.account k with
    | none => .error .notFound
    | some a =>
      if accountNamed s k then .error .state
      else if a.reserved.diesel ≠ 0 ∨ a.reserved.fluid ≠ 0 then .error .state
      else .ok (s.setAccounts (tableErase s.store.accounts k), [.code (appliedCode false)])

/-! ## Commands -/

/-- MACHINE READ (R49). -/
def execMachineRead (tag : SeqTag) (body : List Septet) (s : State) :
    Host.Outcome State Fault Refusal :=
  .next (takeRequest tag 16 parseMachineRead body ownMachineRead s)

/-- MACHINE WRITE (R47). -/
def execMachineWrite (tag : SeqTag) (body : List Septet) (s : State) :
    Host.Outcome State Fault Refusal :=
  .next (takeRequest tag 17 parseMachineWrite body ownMachineWrite s)

/-- MACHINE DELETE (R48). -/
def execMachineDelete (tag : SeqTag) (body : List Septet) (s : State) :
    Host.Outcome State Fault Refusal :=
  .next (takeRequest tag 18 parseCount2 body ownMachineDelete s)

/-- MACHINE FIND (R50). -/
def execMachineFind (tag : SeqTag) (body : List Septet) (s : State) :
    Host.Outcome State Fault Refusal :=
  .next (takeRequest tag 19 parseTag body ownMachineFind s)

/-- MACHINE LIST (R51). -/
def execMachineList (tag : SeqTag) (body : List Septet) (s : State) :
    Host.Outcome State Fault Refusal :=
  .next (takeRequest tag 20 parseCount2 body ownMachineList s)

/-- ACCOUNT READ (R55). -/
def execAccountRead (tag : SeqTag) (body : List Septet) (s : State) :
    Host.Outcome State Fault Refusal :=
  .next (takeRequest tag 24 parseCount body ownAccountRead s)

/-- ACCOUNT WRITE (R53). -/
def execAccountWrite (tag : SeqTag) (body : List Septet) (s : State) :
    Host.Outcome State Fault Refusal :=
  .next (takeRequest tag 25 parseAccountWrite body ownAccountWrite s)

/-- ACCOUNT DELETE (R54). -/
def execAccountDelete (tag : SeqTag) (body : List Septet) (s : State) :
    Host.Outcome State Fault Refusal :=
  .next (takeRequest tag 26 parseCount body ownAccountDelete s)

end Sys2Proof.Machine
end

