-- ==== Sys2Proof/Machine/HoseCommands.lean ====
section
/-! DEFINITION. The requests of the tag channels, of identification and of hose operation (R35, R65, R66, R68, R87, R97 to R100)
with the registry lookup that they share with the tag reports (R61 to R63). -/

namespace Sys2Proof.Machine

/-! ## The lookup (R61 to R63) -/

/-- R61 tests 3 to 5, R68 tests 2 to 4: the reason an identified entry is refused with. -/
def entryRefusal (h : Hose) (k : Nat) (m : MachineEntry) (s : State) : Option Reason :=
  if m.fields.suspended then some .machineSuspended
  else if (accountOf s m.fields.account).fields.suspended then some .accountSuspended
  else if heldByOther s h k then some .alreadyFilling
  else none

/-- R64: entry into AWAITING. -/
def enterAwaiting (h : Hose) (k : Nat) (id : TagId) (s : State) : State :=
  s.putHose h { s.hose h with
    state := .awaiting k id
    identify := .stopped
    approval := .running (s.config h).approvalTime }

/-- R63: an identified hose goes on by the link state and the approval setting. -/
def identified (h : Hose) (k : Nat) (id : TagId) (m : MachineEntry) (s : State) : State :=
  if s.link.online then
    if (s.config h).approval then enterAwaiting h k id s
    else grant { hose := h, machine := k, tag := some id, preset := none, offline := false } s
  else if m.fields.offline then
    grant { hose := h, machine := k, tag := some id, preset := none, offline := true } s
  else refuseHose h .noLink s

/-- R61: the tests of the entry that carries the tag for product `p`. -/
def testEntry (h : Hose) (k : Nat) (p : Product) (id : TagId) (m : MachineEntry) (s : State) : State :=
  if p ≠ productOf h then refuseHose h .wrongProduct s
  else match entryRefusal h k m s with
    | some r => refuseHose h r s
    | none => identified h k id m s

/-- R61: the registry lookup of a confirmed tag. -/
def lookup (h : Hose) (id : TagId) (s : State) : State :=
  match findTag s.store.machines id with
  | none => refuseHose h .unknownTag s
  | some (k, p) =>
    match s.machine k with
    | none => refuseHose h .unknownTag s
    | some m => testEntry h k p id m s

/-! ## Owners -/

/-- R35. -/
def ownTagChannelRead (n : Nat) (s : State) : Owned :=
  match hoseOfNumber n with
  | none => .error .range
  | some h => .ok (s, channelFields h s)

/-- R65 check 1, R68 check 1: a preset is absent or 1 to 2,000,000 mL. -/
def presetWithin (preset : Option Int) : Bool := optWithin 1 2000000 preset

/-- R65. -/
def ownApprove (o : Nat × Option Int) (s : State) : Owned :=
  match hoseOfNumber o.1 with
  | none => .error .range
  | some h =>
    if !presetWithin o.2 then .error .range
    else match (s.hose h).state with
      | .awaiting k id =>
        let s := grant { hose := h, machine := k, tag := some id, preset := o.2, offline := false } s
        .ok (s, grantFields h s)
      | .idle | .identifying | .refused _ | .blocked | .flowing | .paused | .draining | .finished =>
        .error .state

/-- R66. -/
def ownDecline (n : Nat) (s : State) : Owned :=
  match hoseOfNumber n with
  | none => .error .range
  | some h =>
    if (s.hose h).state.isAwaiting then .ok (refuseHose h .declined s, [.count (hoseNumber h)])
    else .error .state

/-- R68 test 1: the entry has a tag for the product the hose does not dispense and none for its own. -/
def otherProductOnly (h : Hose) (m : MachineEntry) : Bool :=
  match productOf h with
  | .diesel => m.fields.tags.fluid.isSome && m.fields.tags.diesel.isNone
  | .fluid => m.fields.tags.diesel.isSome && m.fields.tags.fluid.isNone

/-- R68: a directed authorisation that passes its checks. -/
def authorise (h : Hose) (k : Nat) (preset : Option Int) (m : MachineEntry) (s : State) : State :=
  if otherProductOnly h m then refuseHose h .wrongProduct s
  else match entryRefusal h k m s with
    | some r => refuseHose h r s
    | none => grant { hose := h, machine := k, tag := none, preset := preset, offline := false } s

/-- R68. -/
def ownAuthorise (o : Nat × Nat × Option Int) (s : State) : Owned :=
  match hoseOfNumber o.1 with
  | none => .error .range
  | some h =>
    if 511 < o.2.1 ∨ !presetWithin o.2.2 then .error .range
    else if (s.hose h).state ≠ .identifying then .error .state
    else if !s.link.online then .error .state
    else match s.machine o.2.1 with
      | none => .error .notFound
      | some m =>
        let s := authorise h o.2.1 o.2.2 m s
        .ok (s, grantFields h s)

/-- R97: the two notices are cleared as the answer is formed. -/
def HoseCtl.clearNotices (hc : HoseCtl) : HoseCtl := { hc with nearEnd := false, completion := none }

/-- R97. -/
def ownHoseStatus (n : Nat) (s : State) : Owned :=
  match hoseOfNumber n with
  | none => .error .range
  | some h => .ok (s.putHose h (s.hose h).clearNotices, hoseStatusFields h s)

/-- R87: what STOP does to a hose in a state in which it is taken. -/
def stopHose (h : Hose) (s : State) : State :=
  match (s.hose h).state with
  | .identifying | .awaiting _ _ => refuseHose h .declined s
  | .flowing | .paused => stopFill h .hostStop s
  | .draining | .idle | .refused _ | .blocked | .finished => s

/-- R87 check 2: the hose is IDLE, REFUSED, FINISHED or BLOCKED. -/
def HoseState.stoppable : HoseState → Bool
  | .identifying | .awaiting _ _ | .flowing | .paused | .draining => true
  | .idle | .refused _ | .blocked | .finished => false

/-- R87. -/
def ownStop (n : Nat) (s : State) : Owned :=
  match hoseOfNumber n with
  | none => .error .range
  | some h =>
    if !(s.hose h).state.stoppable then .error .state
    else
      let s := stopHose h s
      .ok (s, hoseStateFields h s)

/-- R98, R99: the stored enabled setting. -/
def setEnabled (h : Hose) (b : Bool) (s : State) : State :=
  s.putConfig h { s.config h with enabled := b }

/-- R99: a BLOCKED hose returns to service by its nozzle switch. -/
def unblock (h : Hose) (s : State) : State :=
  if (s.hose h).state = .blocked then moveHose h (startedState true (s.inputs.lifted.get h)) s else s

/-- R99. -/
def ownHoseEnable (n : Nat) (s : State) : Owned :=
  match hoseOfNumber n with
  | none => .error .range
  | some h =>
    let s := unblock h (setEnabled h true s)
    .ok (s, hoseStateFields h s)

/-- R98. -/
def ownHoseDisable (n : Nat) (s : State) : Owned :=
  match hoseOfNumber n with
  | none => .error .range
  | some h =>
    if !(s.hose h).state.resting then .error .busy
    else
      let s := channelOff h (moveHose h .blocked (setEnabled h false s))
      .ok (s, hoseStateFields h s)

/-- R100. -/
def ownHoseSettingsRead (n : Nat) (s : State) : Owned :=
  match hoseOfNumber n with
  | none => .error .range
  | some h => .ok (s, hoseSettingsFields (s.config h))

/-- A count lies in a range. -/
def countWithin (low high n : Nat) : Bool := decide (low ≤ n ∧ n ≤ high)

/-- R100 check 1, the settings. -/
def HoseOperands.inRange (o : HoseOperands) : Bool :=
  countWithin 30 300 o.identifyTime && countWithin 10 300 o.approvalTime && countWithin 0 1 o.approval &&
    countWithin 300 2000 o.holdPeriod && within 200 5000 o.minimumGrant &&
    within 0 2000 o.overrunAllowance && within 0 2000 o.startVolume && within 0 5000 o.taperVolume &&
    countWithin 10 120 o.noFlowTime && countWithin 0 30 o.resumeGrace

/-- R100: the settings that a HOSE SETTINGS WRITE carries; approval is ON 0 or OFF 1. -/
def HoseOperands.settings (o : HoseOperands) (enabled : Bool) : HoseConfig :=
  { identifyTime := o.identifyTime
    approvalTime := o.approvalTime
    approval := decide (o.approval = 0)
    holdPeriod := o.holdPeriod
    minimumGrant := o.minimumGrant.toNat
    overrunAllowance := o.overrunAllowance.toNat
    startVolume := o.startVolume.toNat
    taperVolume := o.taperVolume.toNat
    noFlowTime := o.noFlowTime
    resumeGrace := o.resumeGrace
    enabled := enabled }

/-- R100. -/
def ownHoseSettingsWrite (o : HoseOperands) (s : State) : Owned :=
  match hoseOfNumber o.hose with
  | none => .error .range
  | some h =>
    if !o.inRange then .error .range
    else if !(s.hose h).state.resting then .error .busy
    else .ok (s.putConfig h (o.settings (s.config h).enabled), [.count (hoseNumber h)])

/-! ## Commands -/

/-- TAG CHANNEL READ (R35). -/
def execTagChannelRead (tag : SeqTag) (body : List Septet) (s : State) :
    Host.Outcome State Fault Refusal :=
  .next (takeRequest tag 8 parseCount body ownTagChannelRead s)

/-- APPROVE (R65). -/
def execApprove (tag : SeqTag) (body : List Septet) (s : State) : Host.Outcome State Fault Refusal :=
  .next (takeRequest tag 32 parseApprove body ownApprove s)

/-- DECLINE (R66). -/
def execDecline (tag : SeqTag) (body : List Septet) (s : State) : Host.Outcome State Fault Refusal :=
  .next (takeRequest tag 33 parseCount body ownDecline s)

/-- AUTHORISE (R68). -/
def execAuthorise (tag : SeqTag) (body : List Septet) (s : State) : Host.Outcome State Fault Refusal :=
  .next (takeRequest tag 34 parseAuthorise body ownAuthorise s)

/-- HOSE STATUS (R97). -/
def execHoseStatus (tag : SeqTag) (body : List Septet) (s : State) : Host.Outcome State Fault Refusal :=
  .next (takeRequest tag 40 parseCount body ownHoseStatus s)

/-- STOP (R87). -/
def execStop (tag : SeqTag) (body : List Septet) (s : State) : Host.Outcome State Fault Refusal :=
  .next (takeRequest tag 41 parseCount body ownStop s)

/-- HOSE ENABLE (R99). -/
def execHoseEnable (tag : SeqTag) (body : List Septet) (s : State) : Host.Outcome State Fault Refusal :=
  .next (takeRequest tag 42 parseCount body ownHoseEnable s)

/-- HOSE DISABLE (R98). -/
def execHoseDisable (tag : SeqTag) (body : List Septet) (s : State) : Host.Outcome State Fault Refusal :=
  .next (takeRequest tag 43 parseCount body ownHoseDisable s)

/-- HOSE SETTINGS READ (R100). -/
def execHoseSettingsRead (tag : SeqTag) (body : List Septet) (s : State) :
    Host.Outcome State Fault Refusal :=
  .next (takeRequest tag 44 parseCount body ownHoseSettingsRead s)

/-- HOSE SETTINGS WRITE (R100). -/
def execHoseSettingsWrite (tag : SeqTag) (body : List Septet) (s : State) :
    Host.Outcome State Fault Refusal :=
  .next (takeRequest tag 45 parseHoseSettings body ownHoseSettingsWrite s)

end Sys2Proof.Machine
end

