-- ==== Sys2Proof/Machine/EquipmentCommands.lean ====
section
/-! DEFINITION. The requests of the pumps and the compartment inhibit (R106, R112, R113). -/

namespace Sys2Proof.Machine

/-- R113. -/
def ownEquipmentStatus (_ : Unit) (s : State) : Owned := .ok (s, equipmentFields s)

/-- R106. -/
def ownPumpSettingsRead (n : Nat) (s : State) : Owned :=
  match compOfNumber n with
  | none => .error .range
  | some c => .ok (s, pumpConfigFields (s.store.pumpConfigs.get c))

/-- R106: the operands are pump number, max run and rest time. -/
def ownPumpSettingsWrite (o : Nat × Nat × Nat) (s : State) : Owned :=
  match compOfNumber o.1 with
  | none => .error .range
  | some c =>
    if !(countWithin 5 60 o.2.1 && countWithin 30 600 o.2.2) then .error .range
    else if s.pump c ≠ .off then .error .busy
    else .ok (s.setPumpConfigs (s.store.pumpConfigs.set c { maxRun := o.2.1, restTime := o.2.2 }),
      [.count (compNumber c)])

/-- R112 check 3: the hose is in IDENTIFYING, AWAITING, FLOWING, PAUSED or DRAINING. -/
def hoseEngaged (s : State) (h : Hose) : Bool := (s.hose h).state.stoppable

/-- R112: the compartment returns to NORMAL, and pump demand is evaluated. -/
def clearInhibit (c : Comp) (s : State) : State :=
  evalPump c (s.putComp c { s.comp c with inhibit := none })

/-- R112. -/
def ownInhibitClear (n : Nat) (s : State) : Owned :=
  match compOfNumber n with
  | none => .error .range
  | some c =>
    if (s.comp c).inhibit.isNone then .error .state
    else if (hosesOf c).any (hoseEngaged s) then .error .busy
    else .ok (clearInhibit c s, [.count (compNumber c)])

/-- EQUIPMENT STATUS (R113). -/
def execEquipmentStatus (tag : SeqTag) (body : List Septet) (s : State) :
    Host.Outcome State Fault Refusal :=
  .next (takeRequest tag 48 parseNone body ownEquipmentStatus s)

/-- PUMP SETTINGS READ (R106). -/
def execPumpSettingsRead (tag : SeqTag) (body : List Septet) (s : State) :
    Host.Outcome State Fault Refusal :=
  .next (takeRequest tag 49 parseCount body ownPumpSettingsRead s)

/-- PUMP SETTINGS WRITE (R106). -/
def execPumpSettingsWrite (tag : SeqTag) (body : List Septet) (s : State) :
    Host.Outcome State Fault Refusal :=
  .next (takeRequest tag 50 parsePumpSettings body ownPumpSettingsWrite s)

/-- INHIBIT CLEAR (R112). -/
def execInhibitClear (tag : SeqTag) (body : List Septet) (s : State) :
    Host.Outcome State Fault Refusal :=
  .next (takeRequest tag 51 parseCount body ownInhibitClear s)

end Sys2Proof.Machine
end

