-- ==== Sys2Proof/Machine/StockCommands.lean ====
section
/-! DEFINITION. The requests of the compartments (R119, R120, R123, R130 to R132), with the parts of a
long STRAPPING WRITE (R189). -/

namespace Sys2Proof.Machine

/-! ## Checks -/

/-- Section 7.1: the range of a compartment's capacity, in mL. -/
def capacityWithin (c : Comp) (i : Int) : Bool :=
  match c with
  | .c1 => within 1000000 30000000 i
  | .c2 => within 100000 3000000 i

/-- R119 check 1, for a compartment. -/
def TankOperands.inRange (c : Comp) (o : TankOperands) : Bool :=
  capacityWithin c o.capacity && within 0 o.capacity o.reserveLevel && within 0 o.capacity o.lowStock &&
    countWithin 0 40000 o.cutoff && countWithin 5 60 o.window

/-- The volume of a table's last point. -/
def topVolume (l : List Point) : Nat := (l.getLast?.map Point.volume).getD 0

/-- A hose is in AWAITING, FLOWING, PAUSED or DRAINING (R42). -/
def HoseState.isHolding : HoseState → Bool
  | .awaiting _ _ | .flowing | .paused | .draining => true
  | .idle | .identifying | .refused _ | .blocked | .finished => false

/-- A delivery into the compartment is open. -/
def deliveryInto (c : Comp) (s : State) : Bool := decide (s.store.delivery.map Delivery.comp = some c)

/-- R119 check 3. -/
def compBusy (c : Comp) (s : State) : Bool :=
  (hosesOf c).any (fun h => (s.hose h).state.isHolding) || deliveryInto c s

/-- R120 check 1: the points are in range for a capacity. -/
def pointsInRange (capacity : Nat) (l : List (Nat × Int)) : Bool :=
  decide (2 ≤ l.length ∧ l.length ≤ 32) && l.all fun p =>
    decide (p.1 ≤ 40000) && within 0 (capacity : Int) p.2

/-- R120 check 2: levels and volumes strictly ascend from point to point. -/
def pointsAscend : List (Nat × Int) → Bool
  | p :: q :: rest => decide (p.1 < q.1 ∧ p.2 < q.2) && pointsAscend (q :: rest)
  | [_] | [] => true

def pointOf (p : Nat × Int) : Point := { level := p.1, volume := p.2.toNat }

/-! ## Owners -/

/-- R132. -/
def ownStockStatus (n : Nat) (s : State) : Owned :=
  match compOfNumber n with
  | none => .error .range
  | some c => .ok (s, stockFields c s)

/-- R119. -/
def ownTankSetupRead (n : Nat) (s : State) : Owned :=
  match compOfNumber n with
  | none => .error .range
  | some c => .ok (s, tankFields (s.comp c))

/-- R119: the compartment with its five values replaced. -/
def setTank (c : Comp) (o : TankOperands) (s : State) : State :=
  s.putComp c { s.comp c with
    capacity := o.capacity.toNat
    reserveLevel := o.reserveLevel.toNat
    lowStock := o.lowStock.toNat
    cutoff := o.cutoff
    window := o.window }

/-- R119. -/
def ownTankSetupWrite (o : TankOperands) (s : State) : Owned :=
  match compOfNumber o.comp with
  | none => .error .range
  | some c =>
    if !o.inRange c then .error .range
    else if o.capacity < (topVolume (s.comp c).strapping : Int) then .error .range
    else if compBusy c s then .error .busy
    else .ok (watchStock c (setTank c o s), [.count (compNumber c)])

/-- R120: a long answer. -/
def ownStrappingRead (o : Nat × Option Nat) (s : State) : Owned :=
  match compOfNumber o.1 with
  | none => .error .range
  | some c =>
    (answerPart (fieldBytes (strappingFields (s.comp c).strapping)) (o.2.getD 1)).map fun fs => (s, fs)

/-- R120: the operands are the compartment number and the points. -/
def ownStrappingWrite (o : Nat × List (Nat × Int)) (s : State) : Owned :=
  match compOfNumber o.1 with
  | none => .error .range
  | some c =>
    if !pointsInRange (s.comp c).capacity o.2 then .error .range
    else if !pointsAscend o.2 then .error .range
    else if compBusy c s then .error .busy
    else .ok (setStale c (s.putComp c { s.comp c with strapping := o.2.map pointOf }),
      [.count (compNumber c), .count o.2.length])

/-- R123: the host's request for a gauging run. -/
def ownGauge (n : Nat) (s : State) : Owned :=
  match compOfNumber n with
  | none => .error .range
  | some c =>
    let s := requestRun c .host s
    .ok (s, [.count (compNumber c), .code (s.unit c).run.code] ++ requesterList (s.unit c).run.requesters)

/-- R130. -/
def ownGaugeRead (n : Nat) (s : State) : Owned :=
  match compOfNumber n with
  | none => .error .range
  | some c => .ok (s, gaugeReadFields c s)

/-- R131: the new book of an adjustment: the gauging's net for GAUGED, the value given for VALUE. -/
def adjustedBook (o : AdjustOperands) (k : Compartment) : Option Int :=
  if o.form = 0 then k.gauging.values.map GaugeValues.net else o.value

/-- R131 check 1, for a compartment: form 0 is GAUGED and form 1 is VALUE. -/
def AdjustOperands.inRange (k : Compartment) (o : AdjustOperands) : Bool :=
  decide (o.form ≤ 1) && countWithin 0 99 o.reason &&
    (decide (o.form = 0) || (o.value.map (within 0 (k.capacity : Int))).getD false)

/-- R152: the ADJUST record. -/
def adjustRecord (c : Comp) (o : AdjustOperands) (after : Int) (s : State) : AdjustRecord :=
  { comp := c
    gauged := decide (o.form = 0)
    reason := o.reason
    time := s.now
    before := (s.comp c).book
    after := after
    gaugingTime := if o.form = 0 then (s.comp c).gauging.values.map fun v => v.time.time else none }

/-- R115: the compartment after its book is set. -/
def Compartment.adjust (after : Int) (k : Compartment) : Compartment :=
  { k with book := after, adjustments := k.adjustments + (after - k.book) }

/-- R131: the effects of an accepted adjustment. R128 and R131 have "the book change" set STALE, and R131 says of
an adjustment that leaves the book unchanged only that it is recorded; that such an adjustment sets STALE too is
the model's choice (assumption 48). -/
def adjustBook (c : Comp) (o : AdjustOperands) (after : Int) (s : State) : State :=
  let record := adjustRecord c o after s
  let s := takeCommitment s
  let s := s.putComp c ((s.comp c).adjust after)
  afterBookChange c (writeRecord (.adjust record) s)

/-- R131. A current gauging holds its values, so the new book is there. -/
def ownBookAdjust (o : AdjustOperands) (s : State) : Owned :=
  match compOfNumber o.comp with
  | none => .error .range
  | some c =>
    if !o.inRange (s.comp c) then .error .range
    else if (s.comp c).reservations ≠ 0 ∨ deliveryInto c s then .error .busy
    else if o.form = 0 ∧ !(s.comp c).gauging.current then .error .state
    else if !canCommit s then .error .logFull
    else match adjustedBook o (s.comp c) with
      | none => .error .state
      | some after =>
        .ok (adjustBook c o after s, [.count (compNumber c), .volume (s.comp c).book, .volume after,
          .long s.store.log.nextSeq])

/-! ## Commands -/

/-- STOCK STATUS (R132). -/
def execStockStatus (tag : SeqTag) (body : List Septet) (s : State) :
    Host.Outcome State Fault Refusal :=
  .next (takeRequest tag 56 parseCount body ownStockStatus s)

/-- TANK SETUP READ (R119). -/
def execTankSetupRead (tag : SeqTag) (body : List Septet) (s : State) :
    Host.Outcome State Fault Refusal :=
  .next (takeRequest tag 57 parseCount body ownTankSetupRead s)

/-- TANK SETUP WRITE (R119). -/
def execTankSetupWrite (tag : SeqTag) (body : List Septet) (s : State) :
    Host.Outcome State Fault Refusal :=
  .next (takeRequest tag 58 parseTankSetup body ownTankSetupWrite s)

/-- STRAPPING READ (R120). -/
def execStrappingRead (tag : SeqTag) (body : List Septet) (s : State) :
    Host.Outcome State Fault Refusal :=
  .next (takeRequest tag 59 parseStrappingRead body ownStrappingRead s)

/-- STRAPPING WRITE, the last part (R120, R189). -/
def execStrappingWrite (tag : SeqTag) (body : List Septet) (s : State) :
    Host.Outcome State Fault Refusal :=
  .next (takeFrame tag 60 (handleLast tag 60 parseStrapping body ownStrappingWrite) s)

/-- A part of a STRAPPING WRITE that is not the last (R189). -/
def execStrappingWritePart (tag : SeqTag) (part : Septet) (fragment : List Septet) (s : State) :
    Host.Outcome State Fault Refusal :=
  .next (takeFrame tag 60 (handlePart tag 60 part fragment) s)

/-- GAUGE (R123). -/
def execGauge (tag : SeqTag) (body : List Septet) (s : State) : Host.Outcome State Fault Refusal :=
  .next (takeRequest tag 61 parseCount body ownGauge s)

/-- GAUGE READ (R130). -/
def execGaugeRead (tag : SeqTag) (body : List Septet) (s : State) : Host.Outcome State Fault Refusal :=
  .next (takeRequest tag 62 parseCount body ownGaugeRead s)

/-- BOOK ADJUST (R131). -/
def execBookAdjust (tag : SeqTag) (body : List Septet) (s : State) : Host.Outcome State Fault Refusal :=
  .next (takeRequest tag 63 parseBookAdjust body ownBookAdjust s)

end Sys2Proof.Machine
end

