-- ==== Sys2Proof/Machine/DeliveryCommands.lean ====
section
/-! DEFINITION. The requests of the delivery controller (R134, R141, R145). -/

namespace Sys2Proof.Machine

/-- R145. -/
def ownDeliveryStatus (_ : Unit) (s : State) : Owned := .ok (s, deliveryFields s)

/-- R134 step 2: a delivery that opens. -/
def newDelivery (c : Comp) (docket : Text) (declared : Option Int) : Delivery :=
  { state := .preGauge, comp := c, docket := docket, declared := declared, preGauge := none,
    start := none, finish := none, unset := false, volume := .zero, final := none, cause := none,
    drainCut := false, levelFault := false }

/-- R134: the effects of an accepted DELIVERY OPEN. -/
def openDelivery (c : Comp) (docket : Text) (declared : Option Int) (s : State) : State :=
  let s := (takeCommitment s).setDelivery (some (newDelivery c docket declared))
  requestRun c .preDelivery (s.setSelector c)

/-- R134 check 1, for a compartment. -/
def docketWithin (k : Compartment) (docket : Text) (declared : Option Int) : Bool :=
  textWithin 0 12 docket && optWithin 0 (k.capacity : Int) declared

/-- R134: the operands are compartment number, docket reference and declared net. -/
def ownDeliveryOpen (o : Nat × Text × Option Int) (s : State) : Owned :=
  match compOfNumber o.1 with
  | none => .error .range
  | some c =>
    if !docketWithin (s.comp c) o.2.1 o.2.2 then .error .range
    else if s.store.delivery.isSome ∨ s.inputs.emergency then .error .state
    else if !((hosesOf c).all fun h => (s.hose h).state.resting) then .error .busy
    else if !canCommit s then .error .logFull
    else
      let s := openDelivery c o.2.1 o.2.2 s
      .ok (s, [.count (compNumber c), .code (deliveryCode (s.store.delivery.map Delivery.state))])

/-- R141: what DELIVERY CLOSE does to an open delivery. -/
def closeDelivery (d : Delivery) (s : State) : State :=
  match d.state with
  | .preGauge => cancelDelivery (cancelRequest d.comp .preDelivery s)
  | .receiving => closeInlet .closed s
  | .draining | .postGauge => s

/-- R141. -/
def ownDeliveryClose (_ : Unit) (s : State) : Owned :=
  match s.store.delivery with
  | none => .error .state
  | some d =>
    let s := closeDelivery d s
    .ok (s, [.code (deliveryCode (s.store.delivery.map Delivery.state))])

/-- DELIVERY STATUS (R145). -/
def execDeliveryStatus (tag : SeqTag) (body : List Septet) (s : State) :
    Host.Outcome State Fault Refusal :=
  .next (takeRequest tag 72 parseNone body ownDeliveryStatus s)

/-- DELIVERY OPEN (R134). -/
def execDeliveryOpen (tag : SeqTag) (body : List Septet) (s : State) :
    Host.Outcome State Fault Refusal :=
  .next (takeRequest tag 73 parseDeliveryOpen body ownDeliveryOpen s)

/-- DELIVERY CLOSE (R141). -/
def execDeliveryClose (tag : SeqTag) (body : List Septet) (s : State) :
    Host.Outcome State Fault Refusal :=
  .next (takeRequest tag 74 parseNone body ownDeliveryClose s)

end Sys2Proof.Machine
end

