-- ==== Sys2Proof/Machine/LogCommands.lean ====
section
/-! DEFINITION. The requests of the transaction log, the site clock and the shifts (R154 to R157, R159,
R161, R163). -/

namespace Sys2Proof.Machine

/-- R157. -/
def ownLogStatus (_ : Unit) (s : State) : Owned := .ok (s, logStatusFields s)

/-- R154: the log keeps the full answer, and its part 1 is the answer. -/
def keepAndAnswer (full : List Septet) (s : State) : Owned :=
  (answerPart full 1).map fun fs => (s.setLogWatch { s.logWatch with kept := some full }, fs)

/-- R154: a request for part 1 hands over the oldest UNSENT record, or answers EMPTY. -/
def handOverRecord (s : State) : Owned :=
  match (unsent s.store.log).head? with
  | some r =>
    keepAndAnswer (fieldBytes (logReadFields (some r) ((unsent s.store.log).length - 1)))
      (s.setLog (markSent r.seq s.store.log))
  | none => keepAndAnswer (fieldBytes (logReadFields none 0)) s

/-- R154: a request for a later part is cut from the kept answer. -/
def laterPart (part : Nat) (s : State) : Owned :=
  match s.logWatch.kept with
  | none => .error .state
  | some full => (answerPart full part).map fun fs => (s, fs)

/-- R154. A part number of 0 names no part (assumption 20). -/
def ownLogRead (part : Option Nat) (s : State) : Owned :=
  match part.getD 1 with
  | 0 => .error .range
  | 1 => handOverRecord s
  | n + 2 => laterPart (n + 2) s

/-- R155: the effects of an accepted LOG CONFIRM. -/
def removeSent (n : Nat) (s : State) : State :=
  watchLog (s.setLog { s.store.log with
    records := s.store.log.records.filter fun r => !confirmable n r })

/-- R155. -/
def ownLogConfirm (n : Nat) (s : State) : Owned :=
  if n = 0 ∨ Config.seqMax < n then .error .range
  else if !s.store.log.records.any (confirmable n) then .error .notFound
  else
    let removed := (s.store.log.records.filter (confirmable n)).length
    let s := removeSent n s
    .ok (s, [.count2 removed, .count2 s.store.log.records.length, .count2 (unsent s.store.log).length])

/-- R156: every record UNSENT. -/
def rewind (l : Log) : Log := { l with records := l.records.map fun r => { r with sent := false } }

/-- R156. -/
def ownLogRewind (_ : Unit) (s : State) : Owned :=
  .ok (s.setLog (rewind s.store.log), [.count2 (s.store.log.records.filter Record.sent).length])

/-- R159. -/
def ownClockSet (n : Nat) (s : State) : Owned :=
  if Config.clockMax < n then .error .range
  else .ok (s.setClock { time := n, unset := false }, stampFields s.clock ++ [.time n])

/-- R162: the figures of a compartment at the close. -/
def shiftFigures (k : Compartment) (fills : Nat) : ShiftFigures :=
  { opening := k.opening, delivered := k.delivered, dispensed := k.dispensed,
    adjustments := k.adjustments, closing := k.book, fills := fills }

/-- R162: the last gauged net of a compartment, with its time and STALE flag. -/
def shiftGauge (g : LastGauging) : Option ShiftGauge :=
  g.values.map fun v => { net := v.net, time := v.time.time, stale := g.stale }

/-- R162: the SHIFT record. -/
def shiftRecord (s : State) : ShiftRecord :=
  { opened := s.store.shift.opened
    closed := s.now
    figures := ⟨shiftFigures (s.comp .c1) s.store.shift.fills.c1,
      shiftFigures (s.comp .c2) s.store.shift.fills.c2⟩
    gauges := ⟨shiftGauge (s.comp .c1).gauging, shiftGauge (s.comp .c2).gauging⟩ }

/-- R161 step 3: a compartment in the new shift. -/
def Compartment.newShift (k : Compartment) : Compartment :=
  { k with opening := k.book, delivered := 0, dispensed := 0, adjustments := 0 }

/-- R161 step 2: a machine entry in the new shift. -/
def MachineEntry.newShift (m : MachineEntry) : MachineEntry := { m with used := .all 0 }

/-- R161 step 2: an account in the new shift. -/
def Account.newShift (a : Account) : Account := { a with used := .all 0, charged := 0 }

/-- R161: the effects of an accepted SHIFT CLOSE. -/
def closeShift (s : State) : State :=
  let s := writeRecord (.shift (shiftRecord s)) (takeCommitment s)
  let s := s.setMachines (tableMap MachineEntry.newShift s.store.machines)
  let s := s.setAccounts (tableMap Account.newShift s.store.accounts)
  let s := s.setComps ⟨(s.comp .c1).newShift, (s.comp .c2).newShift⟩
  s.setShift
    { number := bump Config.seqMax s.store.shift.number, opened := s.now, fills := .all 0 }

/-- R161. -/
def ownShiftClose (_ : Unit) (s : State) : Owned :=
  if allHoses.any (fun h => (s.hose h).state.isHolding) ∨ s.store.delivery.isSome then .error .busy
  else if !canCommit s then .error .logFull
  else .ok (closeShift s, [.long s.store.shift.number,
    .long (bump Config.seqMax s.store.shift.number), .long s.store.log.nextSeq])

/-- R163. -/
def ownShiftTotals (k : Nat) (s : State) : Owned :=
  if 63 < k then .error .range
  else match s.account k with
    | none => .error .notFound
    | some a => .ok (s, shiftTotalFields k a s)

/-- LOG STATUS (R157). -/
def execLogStatus (tag : SeqTag) (body : List Septet) (s : State) : Host.Outcome State Fault Refusal :=
  .next (takeRequest tag 80 parseNone body ownLogStatus s)

/-- LOG READ (R154). -/
def execLogRead (tag : SeqTag) (body : List Septet) (s : State) : Host.Outcome State Fault Refusal :=
  .next (takeRequest tag 81 parseLogRead body ownLogRead s)

/-- LOG CONFIRM (R155). -/
def execLogConfirm (tag : SeqTag) (body : List Septet) (s : State) : Host.Outcome State Fault Refusal :=
  .next (takeRequest tag 82 parseLong body ownLogConfirm s)

/-- LOG REWIND (R156). -/
def execLogRewind (tag : SeqTag) (body : List Septet) (s : State) : Host.Outcome State Fault Refusal :=
  .next (takeRequest tag 83 parseNone body ownLogRewind s)

/-- CLOCK SET (R159). -/
def execClockSet (tag : SeqTag) (body : List Septet) (s : State) : Host.Outcome State Fault Refusal :=
  .next (takeRequest tag 88 parseLong body ownClockSet s)

/-- SHIFT CLOSE (R161). -/
def execShiftClose (tag : SeqTag) (body : List Septet) (s : State) : Host.Outcome State Fault Refusal :=
  .next (takeRequest tag 89 parseNone body ownShiftClose s)

/-- SHIFT TOTALS (R163). -/
def execShiftTotals (tag : SeqTag) (body : List Septet) (s : State) :
    Host.Outcome State Fault Refusal :=
  .next (takeRequest tag 90 parseCount body ownShiftTotals s)

end Sys2Proof.Machine
end

