-- ==== Sys2Proof/Machine/GuardCommands.lean ====
section
/-! DEFINITION. The requests of the metrology guard (R166 to R172). -/

namespace Sys2Proof.Machine

/-- R172. -/
def ownCalRead (n : Nat) (s : State) : Owned :=
  match itemOf n with
  | none => .error .range
  | some item => .ok (s, calReadFields item s)

/-- R166, R169: the window is OPEN with 120 s to run. -/
def openWindow (s : State) : State := s.setGuard { s.guard with window := .running Config.windowTime }

/-- R167: the window closes. -/
def closeWindow (s : State) : State := s.setGuard { s.guard with window := .stopped }

/-- R166. -/
def ownCalOpen (_ : Unit) (s : State) : Owned :=
  if !s.inputs.sealOpen then .error .locked
  else .ok (openWindow s, [.code (openCode true), .wide s.store.cal.audits, .code (metrologyCode s.guard)])

/-- R167. -/
def ownCalClose (_ : Unit) (s : State) : Owned :=
  if !s.guard.windowOpen then .error .state
  else .ok (closeWindow s, [.wide s.store.cal.audits])

/-- R164: a value is valid for an item. -/
def valueValid : CalItem → CalValue → Bool
  | .meter _, .bands l => bandsValid l
  | .alpha _, .alpha n => alphaValid n
  | .offset _, .offset i => offsetValid i
  | .meter _, .alpha _ | .meter _, .offset _ | .alpha _, .bands _ | .alpha _, .offset _
  | .offset _, .bands _ | .offset _, .alpha _ => false

/-- A hose is in FLOWING, PAUSED or DRAINING. -/
def HoseState.isFilling : HoseState → Bool
  | .flowing | .paused | .draining => true
  | .idle | .identifying | .awaiting _ _ | .refused _ | .blocked | .finished => false

def compFilling (c : Comp) (s : State) : Bool := (hosesOf c).any fun h => (s.hose h).state.isFilling

/-- R168: an item is in use. -/
def itemInUse (s : State) : CalItem → Bool
  | .meter .m1 => (s.hose .h1).state.isFilling
  | .meter .m2 => (s.hose .h2).state.isFilling
  | .meter .m3 => (s.hose .h3).state.isFilling
  | .meter .m4 => s.store.delivery.isSome
  | .alpha c => compFilling c s || deliveryInto c s
  | .offset .p1 => compFilling .c1 s
  | .offset .p2 => compFilling .c2 s
  | .offset .p3 => s.store.delivery.isSome

/-- R169 step 1: the set with an item replaced. -/
def setItem (set : CalSet) : CalItem → CalValue → CalSet
  | .meter m, .bands l => { set with bands := set.bands.set m l }
  | .alpha c, .alpha n => { set with alpha := set.alpha.set c n }
  | .offset p, .offset i => { set with offset := set.offset.set p i }
  | .meter _, .alpha _ | .meter _, .offset _ | .alpha _, .bands _ | .alpha _, .offset _
  | .offset _, .bands _ | .offset _, .alpha _ => set

/-- R170: the trail after an entry is added at its newest end. -/
def addToTrail (e : AuditEntry) (l : List AuditEntry) : List AuditEntry :=
  (l ++ [e]).drop (l.length + 1 - Config.trailEntries)

/-- R169 steps 1 to 4. -/
def Calibration.write (item : CalItem) (v : CalValue) (now : Stamp) (cal : Calibration) : Calibration :=
  let set := setItem cal.set item v
  { set := set
    check := Config.checkFunction set
    audits := cal.audits + 1
    trail := addToTrail { number := cal.audits + 1, time := now, item := item,
                          old := itemValue cal.set item, new := v } cal.trail }

/-- R128, R169: a write of a coefficient sets STALE. -/
def staleFor (item : CalItem) (s : State) : State :=
  match item with
  | .alpha c => setStale c s
  | .meter _ | .offset _ => s

/-- R169: the effects of an accepted CAL WRITE. -/
def writeItem (item : CalItem) (v : CalValue) (s : State) : State :=
  let s := s.setCal (s.store.cal.write item v s.now)
  staleFor item (s.setGuard { s.guard with fault := false, window := .running Config.windowTime })

/-- R168 checks 1 and 2: LOCKED, then FULL. -/
def calWriteBar (s : State) : Option RefusalCode :=
  if !s.guard.windowOpen then some .locked
  else if Config.counterMax ≤ s.store.cal.audits then some .full
  else none

/-- R168, R169: the checks in the order of R168's list, as 00_scope.md has of every such list ("Checked order"):
LOCKED, FULL, RANGE of the selector and of the value, BUSY. R187 has the owner refuse a selector outside its set at
its first check, read as its first RANGE check (assumption 21). -/
def ownCalWrite (o : Option (CalItem × CalValue)) (s : State) : Owned :=
  match calWriteBar s with
  | some r => .error r
  | none =>
    match o with
    | none => .error .range
    | some (item, v) =>
      if !valueValid item v then .error .range
      else if itemInUse s item then .error .busy
      else
        let s := writeItem item v s
        .ok (s, [.code item.code, .wide s.store.cal.audits, .code (metrologyCode s.guard)])

/-- R171. -/
def ownAuditRead (n : Nat) (s : State) : Owned :=
  if n = 0 ∨ Config.counterMax < n then .error .range
  else match s.store.cal.trail.find? fun e => decide (e.number = n) with
    | none => .error .notFound
    | some e => .ok (s, auditFields e s)

/-- CAL READ (R172). -/
def execCalRead (tag : SeqTag) (body : List Septet) (s : State) : Host.Outcome State Fault Refusal :=
  .next (takeRequest tag 96 parseCount body ownCalRead s)

/-- CAL OPEN (R166). -/
def execCalOpen (tag : SeqTag) (body : List Septet) (s : State) : Host.Outcome State Fault Refusal :=
  .next (takeRequest tag 97 parseNone body ownCalOpen s)

/-- CAL WRITE (R168, R169). -/
def execCalWrite (tag : SeqTag) (body : List Septet) (s : State) : Host.Outcome State Fault Refusal :=
  .next (takeRequest tag 98 parseCalWrite body ownCalWrite s)

/-- CAL CLOSE (R167). -/
def execCalClose (tag : SeqTag) (body : List Septet) (s : State) : Host.Outcome State Fault Refusal :=
  .next (takeRequest tag 99 parseNone body ownCalClose s)

/-- AUDIT READ (R171). -/
def execAuditRead (tag : SeqTag) (body : List Septet) (s : State) : Host.Outcome State Fault Refusal :=
  .next (takeRequest tag 100 parseLong body ownAuditRead s)

end Sys2Proof.Machine
end

