-- ==== Sys2Proof/Machine/ParkCommands.lean ====
section
/-! DEFINITION. The requests of the park controller (R176, R183). -/

namespace Sys2Proof.Machine

/-- R183. -/
def ownParkStatus (_ : Unit) (s : State) : Owned := .ok (s, parkFields s)

/-- R176. -/
def ownPark (_ : Unit) (s : State) : Owned :=
  if s.park.state = .parking then .error .state
  else if !parkAllowed s then .error .state
  else
    let s := beginPark s
    .ok (s, [.code s.park.state.code, .code (s.unit .c1).run.code, .code (s.unit .c2).run.code])

/-- PARK STATUS (R183). -/
def execParkStatus (tag : SeqTag) (body : List Septet) (s : State) : Host.Outcome State Fault Refusal :=
  .next (takeRequest tag 104 parseNone body ownParkStatus s)

/-- PARK (R176). -/
def execPark (tag : SeqTag) (body : List Septet) (s : State) : Host.Outcome State Fault Refusal :=
  .next (takeRequest tag 105 parseNone body ownPark s)

end Sys2Proof.Machine
end

