-- ==== Sys2Proof/Machine/LineEvents.lean ====
section
/-! DEFINITION. What the line brings besides requests: frames that are not acted on, broken frames,
byte errors, the frame that wakes a PARKED part, and the end of a reply (R181, R185 to R187, R197). -/

namespace Sys2Proof.Machine

/-- The receiver takes bytes: the part is powered (R185, R197). -/
def State.powered (s : State) : Bool := decide (s.power ≠ .off)

/-- R186 test 2: a frame whose check fails is counted and answered with CHECK; it does not change the
link state, the watchdog or the park state. -/
def takeBadCheck (tag : SeqTag) (code : Septet) (s : State) : State :=
  if s.link.sending.isSome then overlapFrame s
  else refuse tag .check code (countLink .addCheck (setAssembly .hunt s))

/-- R185, R186 test 3: the assembly that a broken frame leaves; a new lead is kept as the lead of the
next frame. -/
def brokenAssembly : BrokenFrame → Assembly
  | .newLead lead => .length lead
  | .badLength | .wrongClass => .hunt

/-- R185, R186: a broken frame is counted and not answered. A completed frame of a wrong class is an
overlap while the part sends (R186 test 1). -/
def takeBroken (kind : BrokenFrame) (s : State) : State :=
  if kind = .wrongClass ∧ s.link.sending.isSome then overlapFrame s
  else countLink .addBroken (setAssembly (brokenAssembly kind) s)

/-- A frame with an unknown message code (R187 step 4). -/
def execUnknown (tag : SeqTag) (code : Septet) (s : State) : Host.Outcome State Fault Refusal :=
  .next (takeFrame tag code (refuseCounted tag .unknown code) s)

/-- A frame whose check fails (R186 test 2). -/
def execCheck (tag : SeqTag) (code : Septet) (s : State) : Host.Outcome State Fault Refusal :=
  .next (if s.powered then takeBadCheck tag code s else s)

/-- A frame completed while the part sends (R186 test 1). -/
def execOverlap (s : State) : Host.Outcome State Fault Refusal :=
  .next (if s.powered then overlapFrame s else s)

/-- A broken frame (R185, R186 test 3). -/
def execBrokenFrame (kind : BrokenFrame) (s : State) : Host.Outcome State Fault Refusal :=
  .next (if s.powered then takeBroken kind s else s)

/-- A byte error (R185). -/
def execByteError (s : State) : Host.Outcome State Fault Refusal :=
  .next (if s.powered then countLink .addByteError (setAssembly .hunt s) else s)

/-- A valid frame taken while the part is PARKED (R181); in another park state it is not this command
(assumption 35). -/
def execWaking (tag : SeqTag) (code : Septet) (s : State) : Host.Outcome State Fault Refusal :=
  .next (if s.park.state = .parked then takeFrame tag code id s else s)

/-- R187, R197: the last byte of the reply has gone out; after an accepted RESTART start-up follows. -/
def endReply (s : State) : State :=
  if s.power = .restarting then restartUp s else s.setLink { s.link with sending := none }

/-- The end of a reply (R187, R197). -/
def execAnswerSent (s : State) : Host.Outcome State Fault Refusal :=
  .next (if s.powered && s.link.sending.isSome then endReply s else s)

end Sys2Proof.Machine
end

