-- ==== Sys2Proof/Machine/BowserEvents.lean ====
section
/-! DEFINITION. The bowser's inputs: nozzle switches (R58, R85), meters (R1), probes (R10, R11, R118),
the emergency stop (R107, R108), the overfill switches (R139), the seal switch (R165, R167), and a
disturbance of the calibration store (R173). A discrete input that is already at the level presents no
event (assumption 32); an input taken while the part does not run sets its level alone (R197). -/

namespace Sys2Proof.Machine

/-! ## Nozzles -/

/-- R58: a lift on a hose in IDLE. -/
def liftHose (h : Hose) (s : State) : State :=
  match (s.hose h).state with
  | .idle =>
    match siteCondition h s with
    | some r => moveHose h (.refused r) s
    | none =>
      channelOn h (s.putHose h { s.hose h with
        state := .identifying
        identify := .running (s.config h).identifyTime })
  | .identifying | .awaiting _ _ | .refused _ | .blocked | .flowing | .paused | .draining | .finished => s

/-- R60, R64, R70, R85, R86, R94: a hang, by the hose's state. -/
def hangHose (h : Hose) (s : State) : State :=
  match (s.hose h).state with
  | .identifying | .awaiting _ _ => channelOff h (idleHose h s)
  | .flowing | .paused => channelOff h (stopFill h .hungUp s)
  | .draining => channelOff h s
  | .refused _ | .finished => channelOff h (moveHose h .idle s)
  | .idle | .blocked => s

/-- The level of a nozzle switch as taken. -/
def setLifted (h : Hose) (b : Bool) (s : State) : State :=
  s.setInputs { s.inputs with lifted := s.inputs.lifted.set h b }

/-- A nozzle lift (R58, R178, R182). -/
def execNozzleLift (h : Hose) (s : State) : Host.Outcome State Fault Refusal :=
  .next (if s.inputs.lifted.get h then s
    else if s.live then liftHose h (disturbPark .cancelled .lift (setLifted h true s))
    else setLifted h true s)

/-- A nozzle hang (R85). -/
def execNozzleHang (h : Hose) (s : State) : Host.Outcome State Fault Refusal :=
  .next (if !s.inputs.lifted.get h then s
    else if s.live then hangHose h (setLifted h false s)
    else setLifted h false s)

/-! ## Meters and probes -/

/-- A meter pulse (R1). -/
def execMeterPulse (m : Meter) (s : State) : Host.Outcome State Fault Refusal :=
  .next (if s.live then
      match m with
      | .m1 => hosePulse .h1 s
      | .m2 => hosePulse .h2 s
      | .m3 => hosePulse .h3 s
      | .m4 => inletPulse s
    else s)

/-- A temperature reading (R9, R10). -/
def execTempReading (p : Probe) (reading : Int) (s : State) : Host.Outcome State Fault Refusal :=
  .next (if s.live then takeReading p reading s else s)

/-- A fault indication of a temperature probe (R11, R13). -/
def execTempFaultIndication (p : Probe) (s : State) : Host.Outcome State Fault Refusal :=
  .next (if s.live then takeFault p s else s)

/-- A level reading (R118, R124, R138). -/
def execLevelReading (c : Comp) (level : Nat) (s : State) : Host.Outcome State Fault Refusal :=
  .next (if s.live then sampleRun c level (offerLevel c (setLevel c (some level) s)) else s)

/-- A fault indication of a level probe (R118, R125, R138). -/
def execLevelFaultIndication (c : Comp) (s : State) : Host.Outcome State Fault Refusal :=
  .next (if s.live then faultRun c (offerLevel c (setLevel c none s)) else s)

/-! ## The emergency stop -/

/-- The level of the emergency-stop input as taken. -/
def setEmergency (b : Bool) (s : State) : State := s.setInputs { s.inputs with emergency := b }

/-- R107: the input becoming active reaches the park, the pumps, the hoses, the delivery and the alarm
table. -/
def emergencyStop (s : State) : State :=
  let s := disturbPark .emergency .emergency s
  let s := evalPump .c2 (evalPump .c1 s)
  let s := strikeAll .emergency .emergency allHoses s
  let s := raiseAlarm .emergency (closeInlet .emergency s)
  evalRest .c2 (evalRest .c1 s)

/-- The emergency stop becomes active (R107). -/
def execEmergencyStopActive (s : State) : Host.Outcome State Fault Refusal :=
  .next (if s.inputs.emergency then s
    else if s.live then emergencyStop (setEmergency true s)
    else setEmergency true s)

/-- The emergency stop becomes inactive (R103, R108). -/
def execEmergencyStopInactive (s : State) : Host.Outcome State Fault Refusal :=
  .next (if !s.inputs.emergency then s
    else if s.live then evalPump .c2 (evalPump .c1 (setEmergency false s))
    else setEmergency false s)

/-! ## Overfill and seal switches -/

/-- The level of an overfill switch as taken. -/
def setOverfill (c : Comp) (b : Bool) (s : State) : State :=
  s.setInputs { s.inputs with overfill := s.inputs.overfill.set c b }

/-- R139: a delivery into the compartment has its valve closed. -/
def overfillDelivery (c : Comp) (s : State) : State :=
  if deliveryInto c s then closeInlet .overfill s else s

/-- An overfill switch becomes active (R139). -/
def execOverfillSwitchActive (c : Comp) (s : State) : Host.Outcome State Fault Refusal :=
  .next (if s.inputs.overfill.get c then s
    else if s.live then overfillDelivery c (raiseAlarm (.overfill c) (setOverfill c true s))
    else setOverfill c true s)

/-- An overfill switch becomes inactive (R139). -/
def execOverfillSwitchInactive (c : Comp) (s : State) : Host.Outcome State Fault Refusal :=
  .next (setOverfill c false s)

/-- The level of the seal switch as taken. -/
def setSeal (b : Bool) (s : State) : State := s.setInputs { s.inputs with sealOpen := b }

/-- The seal switch becomes OPEN (R165). -/
def execSealSwitchOpen (s : State) : Host.Outcome State Fault Refusal :=
  .next (if s.inputs.sealOpen then s
    else if s.live then raiseAlarm .sealOpen (setSeal true s)
    else setSeal true s)

/-- The seal switch becomes CLOSED (R165, R167). -/
def execSealSwitchClosed (s : State) : Host.Outcome State Fault Refusal :=
  .next (if !s.inputs.sealOpen then s
    else if s.live then closeWindow (setSeal false s)
    else setSeal false s)

/-- A store disturbance (R173): the stored set is altered, and the stored check value stays. -/
def execStoreDisturbance (set : CalSet) (s : State) : Host.Outcome State Fault Refusal :=
  .next (s.setCal { s.store.cal with set := set })

end Sys2Proof.Machine
end

