-- ==== Sys2Proof/Machine/TagEvents.lean ====
section
/-! DEFINITION. The classes of tag frames at the channels (R26 to R32) and the reports of the channels at
the hoses (R34, R61, R83, R84). -/

namespace Sys2Proof.Machine

/-! ## Channels -/

/-- R26 to R28: an enabled channel takes a class. -/
def onChannel (ch : Hose) (f : Channel → Channel) (s : State) : State :=
  if (s.channel ch).enabled then s.putChannel ch (f (s.channel ch)) else s

/-- R26, R29 to R32, R34: an enabled channel takes a VALID frame and hands its report on. -/
def takeValid (ch : Hose) (id : TagId) (s : State) : State :=
  let c := s.channel ch
  if c.enabled then
    report ch (afterValid c.state id).2.1 (s.putChannel ch (c.onValid (s.config ch).holdPeriod id))
  else s

/-- R27: an enabled channel takes an INVERTED frame; the change of polarity raises TAG_POLARITY. -/
def takeInverted (ch : Hose) (s : State) : State :=
  let c := s.channel ch
  if c.enabled then
    let s := s.putChannel ch c.onInverted
    if c.run + 1 = 3 then raiseAlarm (.tagPolarity ch) s else s
  else s

/-- A VALID frame (R26, R30 to R32). -/
def execValid (ch : Hose) (id : TagId) (s : State) : Host.Outcome State Fault Refusal :=
  .next (if s.live then takeValid ch id s else s)

/-- An INVERTED frame (R27); its ID takes no part. -/
def execInverted (ch : Hose) (_id : TagId) (s : State) : Host.Outcome State Fault Refusal :=
  .next (if s.live then takeInverted ch s else s)

/-- A CHECK_BAD frame (R28). -/
def execCheckBad (ch : Hose) (s : State) : Host.Outcome State Fault Refusal :=
  .next (if s.live then onChannel ch Channel.onCheckBad s else s)

/-- A BAD_START frame (R28). -/
def execBadStart (ch : Hose) (s : State) : Host.Outcome State Fault Refusal :=
  .next (if s.live then onChannel ch Channel.onBadStart s else s)

/-! ## Pause and resume (R82 to R84) -/

/-- R82: the no-flow timer is frozen with its remaining time. -/
def NoFlowTimer.freeze : NoFlowTimer → NoFlowTimer
  | .running n => .frozen n
  | .stopped => .stopped
  | .frozen n => .frozen n

/-- R82: the no-flow timer runs on from its remaining time. -/
def NoFlowTimer.thaw : NoFlowTimer → NoFlowTimer
  | .frozen n => .running n
  | .stopped => .stopped
  | .running n => .running n

/-- R83: the fill pauses with a resume grace above 0. -/
def pauseFill (h : Hose) (s : State) : State :=
  let s := s.putHose h { s.hose h with
    state := .paused
    valve := .closed
    noFlow := (s.hose h).noFlow.freeze
    grace := .running (s.config h).resumeGrace }
  settle (compOf h) (stopInterval (meterOf h) s)

/-- R84: the fill of a PAUSED hose resumes. -/
def resumeFill (h : Hose) (tx : Transaction) (s : State) : State :=
  let s := s.putTx h (some { tx with pauses := bump 255 tx.pauses })
  let s := s.putHose h { s.hose h with
    state := .flowing
    lowUntil := tx.volume.netMl + (s.config h).startVolume
    noFlow := (s.hose h).noFlow.thaw
    grace := .stopped }
  settle (compOf h) (evalStage h (startInterval (meterOf h) s))

/-- R84: confirmed(id) at a PAUSED hose. -/
def confirmPaused (h : Hose) (id : TagId) (s : State) : State :=
  match s.tx h with
  | none => s
  | some tx =>
    if tx.manual then s
    else if tx.tag = some id then resumeFill h tx s
    else stopFill h .tagChanged s

/-- R34: confirmed(id) by the hose's state. -/
def takeConfirmed (h : Hose) (id : TagId) (s : State) : State :=
  match (s.hose h).state with
  | .identifying => lookup h id s
  | .paused => confirmPaused h id s
  | .idle | .awaiting _ _ | .refused _ | .blocked | .flowing | .draining | .finished => s

/-- R69: the hose is FLOWING on a transaction without the MANUAL flag. -/
def flowingOnTag (h : Hose) (s : State) : Bool :=
  flowing s h && ((s.tx h).map fun tx => !tx.manual).getD false

/-- R83: lost by the hose's state. -/
def takeLost (h : Hose) (s : State) : State :=
  if flowingOnTag h s then
    if (s.config h).resumeGrace = 0 then stopFill h .tagLost s else pauseFill h s
  else s

/-- R83: changed by the hose's state. -/
def takeChanged (h : Hose) (s : State) : State :=
  if flowingOnTag h s then stopFill h .tagChanged s else s

/-- The report confirmed(id) (R61, R84). -/
def execConfirmed (h : Hose) (id : TagId) (s : State) : Host.Outcome State Fault Refusal :=
  .next (if s.live then takeConfirmed h id (takeHanded (.report h (.confirmed id)) s) else s)

/-- The report lost (R83). -/
def execLost (h : Hose) (s : State) : Host.Outcome State Fault Refusal :=
  .next (if s.live then takeLost h (takeHanded (.report h .lost) s) else s)

/-- The report changed(id) (R83). -/
def execChanged (h : Hose) (id : TagId) (s : State) : Host.Outcome State Fault Refusal :=
  .next (if s.live then takeChanged h (takeHanded (.report h (.changed id)) s) else s)

end Sys2Proof.Machine
end

