-- ==== Sys2Proof/Machine/ResultEvents.lean ====
section
/-! DEFINITION. The results of gauging runs at their requesters (R125): the delivery controller (R135,
R144) and the park controller (R177, R180). -/

namespace Sys2Proof.Machine

/-- R135, R136: the delivery takes its pre-gauge and enters RECEIVING. -/
def takePreGauge (c : Comp) (r : GaugeResult) (s : State) : State :=
  match s.store.delivery with
  | none => s
  | some d =>
    if d.state = .preGauge ∧ d.comp = c then
      enterReceiving { d with preGauge := deliveryGauge r } s
    else s

/-- R144: the delivery takes its post-gauge and is recorded. -/
def takePostGauge (c : Comp) (r : GaugeResult) (s : State) : State :=
  match s.store.delivery with
  | none => s
  | some d =>
    if d.state = .postGauge ∧ d.comp = c then recordDelivery d (deliveryGauge r) s else s

/-- R177: a baseline result in PARKING for an awaited baseline; another has no use. -/
def takeAwaited (c : Comp) (r : GaugeResult) (s : State) : State :=
  if s.park.state = .parking ∧ s.park.awaited.get c then takeBaseline c r s else s

/-- The result of the pre-delivery run (R135). -/
def execPreGaugeResult (c : Comp) (r : GaugeResult) (s : State) : Host.Outcome State Fault Refusal :=
  .next (if s.live then takePreGauge c r (takeHanded (.result .preDelivery c r) s) else s)

/-- The result of the post-delivery run (R144). -/
def execPostGaugeResult (c : Comp) (r : GaugeResult) (s : State) : Host.Outcome State Fault Refusal :=
  .next (if s.live then takePostGauge c r (takeHanded (.result .postDelivery c r) s) else s)

/-- The result of a baseline run (R177). -/
def execParkBaselineResult (c : Comp) (r : GaugeResult) (s : State) :
    Host.Outcome State Fault Refusal :=
  .next (if s.live then takeAwaited c r (takeHanded (.result .parkBaseline c r) s) else s)

/-- The result of a watch run (R180). -/
def execParkWatchResult (c : Comp) (r : GaugeResult) (s : State) : Host.Outcome State Fault Refusal :=
  .next (if s.live then takeWatch c r (takeHanded (.result .parkWatch c r) s) else s)

end Sys2Proof.Machine
end

