-- ==== Sys2Proof/Machine/TimerEvents.lean ====
section
/-! DEFINITION. The timer expiries and the tick of the site clock. An expiry acts when its timer runs; a
timer that is stopped does not expire (assumption 4). The timers run down at the tick (assumption 3). -/

namespace Sys2Proof.Machine

/-- The timer runs. -/
def Timer.isRunning : Timer → Bool
  | .running _ => true
  | .stopped => false

/-- The no-flow timer runs. -/
def NoFlowTimer.isRunning : NoFlowTimer → Bool
  | .running _ => true
  | .stopped | .frozen _ => false

/-- The end of a meter's rate interval (R7). -/
def execIntervalEnd (m : Meter) (s : State) : Host.Outcome State Fault Refusal :=
  .next (if s.live && (s.meter m).interval.isRunning then recomputeVcf m (endInterval m s) else s)

/-- The expiry of a temperature source's hold (R11). -/
def execSourceHoldTimerExpiry (p : Probe) (s : State) : Host.Outcome State Fault Refusal :=
  .next (if s.live && (s.source p).hold.isRunning then enterDefault p s else s)

/-- R33: the report of a hold timer that expires. -/
def holdReport : ChannelState → Option TagReport
  | .confirmed _ _ => some .lost
  | .off | .searching | .acquiring _ _ => none

/-- The expiry of a channel's hold timer (R30, R33). -/
def execChannelHoldTimerExpiry (ch : Hose) (s : State) : Host.Outcome State Fault Refusal :=
  .next (if s.live && (s.channel ch).hold.isRunning then
      report ch (holdReport (s.channel ch).state) (s.putChannel ch (s.channel ch).onHoldExpiry)
    else s)

/-- A hose is in IDENTIFYING. -/
def identifying (s : State) (h : Hose) : Bool := decide ((s.hose h).state = .identifying)

/-- The expiry of a hose's identify timer (R60). -/
def execIdentifyTimerExpiry (h : Hose) (s : State) : Host.Outcome State Fault Refusal :=
  .next (if s.live && identifying s h && (s.hose h).identify.isRunning then
      refuseHose h .identifyTimeout s
    else s)

/-- The expiry of a hose's approval timer (R67). -/
def execApprovalTimerExpiry (h : Hose) (s : State) : Host.Outcome State Fault Refusal :=
  .next (if s.live && (s.hose h).state.isAwaiting && (s.hose h).approval.isRunning then
      refuseHose h .approvalTimeout s
    else s)

/-- The expiry of a hose's no-flow timer (R82). -/
def execNoFlowTimerExpiry (h : Hose) (s : State) : Host.Outcome State Fault Refusal :=
  .next (if s.live && (s.hose h).noFlow.isRunning then stopFill h .noFlow s else s)

/-- The expiry of a hose's resume grace timer (R84). -/
def execResumeGraceTimerExpiry (h : Hose) (s : State) : Host.Outcome State Fault Refusal :=
  .next (if s.live && (s.hose h).grace.isRunning then stopFill h .tagLost s else s)

/-- The expiry of a hose's drain quiet timer (R90, R92). -/
def execHoseDrainQuietExpiry (h : Hose) (s : State) : Host.Outcome State Fault Refusal :=
  .next (if s.live && draining s h && (s.hose h).quiet.isRunning then closeFill h s else s)

/-- R90: the effects of a drain cap before the close. -/
def cutDrain (h : Hose) (s : State) : State :=
  let s := s.putTx h ((s.tx h).map fun tx => { tx with drainCut := true })
  inhibit (compOf h) (.drainCut (meterOf h)) (raiseAlarm (.leak h) s)

/-- The expiry of a hose's drain cap timer (R90, R92). -/
def execHoseDrainCapExpiry (h : Hose) (s : State) : Host.Outcome State Fault Refusal :=
  .next (if s.live && draining s h && (s.hose h).cap.isRunning then closeFill h (cutDrain h s) else s)

/-- R142: the delivery's drain ends, with its flags as given. -/
def endDrain (cut : Bool) (s : State) : State :=
  match s.store.delivery with
  | none => s
  | some d =>
    match d.state with
    | .draining => endDeliveryDrain { d with drainCut := d.drainCut || cut } s
    | .preGauge | .receiving | .postGauge => s

/-- The expiry of the delivery's drain quiet timer (R142, R143). -/
def execDeliveryDrainQuietExpiry (s : State) : Host.Outcome State Fault Refusal :=
  .next (if s.live && s.inlet.quiet.isRunning then endDrain false s else s)

/-- The expiry of the delivery's drain cap timer (R142, R143). -/
def execDeliveryDrainCapExpiry (s : State) : Host.Outcome State Fault Refusal :=
  .next (if s.live && s.inlet.cap.isRunning then endDrain true s else s)

/-- R104: the pump rests, the compartment's hoses are stopped or refused, and the alarm is raised. -/
def guardPump (c : Comp) (s : State) : State :=
  let s := s.putPump c (.resting (s.store.pumpConfigs.get c).restTime)
  evalRest c (raiseAlarm (.pumpGuard c) (strikeAll .pumpGuard .pumpResting (hosesOf c) s))

/-- A pump's continuous-run timer reaches the max run (R104). -/
def execMaxRunReached (c : Comp) (s : State) : Host.Outcome State Fault Refusal :=
  .next (if s.live && (s.pump c).isRunning then guardPump c s else s)

/-- A pump's rest timer runs. -/
def Pump.isResting : Pump → Bool
  | .resting _ => true
  | .off | .running _ => false

/-- The expiry of a pump's rest timer (R105). -/
def execRestTimerExpiry (c : Comp) (s : State) : Host.Outcome State Fault Refusal :=
  .next (if s.live && (s.pump c).isResting then s.putPump c .off else s)

/-- The expiry of the calibration window's timer (R167). -/
def execWindowTimerExpiry (s : State) : Host.Outcome State Fault Refusal :=
  .next (if s.live && s.guard.window.isRunning then closeWindow s else s)

/-- The expiry of the check timer (R173). -/
def execCheckTimerExpiry (s : State) : Host.Outcome State Fault Refusal :=
  .next (if s.live && s.guard.check.isRunning then
      integrityCheck (s.setGuard { s.guard with check := .running Config.checkTime })
    else s)

/-- R191: the hoses in an order. -/
def hosesInOrder : HoseOrder → List Hose
  | .o123 => [.h1, .h2, .h3]
  | .o132 => [.h1, .h3, .h2]
  | .o213 => [.h2, .h1, .h3]
  | .o231 => [.h2, .h3, .h1]
  | .o312 => [.h3, .h1, .h2]
  | .o321 => [.h3, .h2, .h1]

/-- R67: the drop of the link reaches a hose. -/
def dropLink (h : Hose) (s : State) : State :=
  match (s.hose h).state with
  | .awaiting k id =>
    if ((s.machine k).map fun m => m.fields.offline).getD false then
      grant { hose := h, machine := k, tag := some id, preset := none, offline := true } s
    else refuseHose h .noLink s
  | .idle | .identifying | .refused _ | .blocked | .flowing | .paused | .draining | .finished => s

/-- The watchdog runs. -/
def Watchdog.isRunning : Watchdog → Bool
  | .running _ => true
  | .stopped | .suspended => false

/-- The expiry of the link watchdog (R191). -/
def execWatchdogExpiry (order : HoseOrder) (s : State) : Host.Outcome State Fault Refusal :=
  .next (if s.live && s.link.watchdog.isRunning then
      (hosesInOrder order).foldl (fun s h => dropLink h s)
        (s.setLink { s.link with online := false, watchdog := .stopped })
    else s)

/-- The expiry of the watch timer (R179). -/
def execWatchTimerExpiry (s : State) : Host.Outcome State Fault Refusal :=
  .next (if s.live && s.park.watch.isRunning then
      requestWatch .c2 (requestWatch .c1 (s.setPark { s.park with watch := watchTimer s }))
    else s)

/-- The expiry of the confirm timer (R181). -/
def execConfirmTimerExpiry (s : State) : Host.Outcome State Fault Refusal :=
  .next (if s.live && s.park.confirm.isRunning then
      s.setPark { s.park with state := .parked, confirm := .stopped }
    else s)

/-! ## The tick (R158, assumption 3) -/

/-- A timer after some time has passed. -/
def Timer.elapse (k : Nat) : Timer → Timer
  | .running n => .running (n - k)
  | .stopped => .stopped

/-- R82: the no-flow timer runs down only while it runs. -/
def NoFlowTimer.elapse (k : Nat) : NoFlowTimer → NoFlowTimer
  | .running n => .running (n - k)
  | .stopped => .stopped
  | .frozen n => .frozen n

def HoseCtl.elapse (hc : HoseCtl) : HoseCtl :=
  { hc with
    identify := hc.identify.elapse 1
    approval := hc.approval.elapse 1
    noFlow := hc.noFlow.elapse 1
    grace := hc.grace.elapse 1
    quiet := hc.quiet.elapse 1
    cap := hc.cap.elapse 1 }

/-- The hold timers of the channels are in milliseconds. -/
def Channel.elapse (c : Channel) : Channel := { c with hold := c.hold.elapse 1000 }

def MeterCtl.elapse (m : MeterCtl) : MeterCtl := { m with interval := m.interval.elapse 1 }

def Source.elapse (p : Source) : Source := { p with hold := p.hold.elapse 1 }

/-- R102: the continuous-run timer counts up, the rest timer runs down. Section 6.1 gives the continuous-run
timer a range up to the max run, where MAX RUN REACHED ends it; that it counts on past the max run until that
expiry is presented is the model's choice (assumption 46). -/
def Pump.elapse : Pump → Pump
  | .off => .off
  | .running t => .running (t + 1)
  | .resting n => .resting (n - 1)

def Inlet.elapse (i : Inlet) : Inlet :=
  { i with quiet := i.quiet.elapse 1, cap := i.cap.elapse 1 }

def Guard.elapse (g : Guard) : Guard :=
  { g with window := g.window.elapse 1, check := g.check.elapse 1 }

def Park.elapse (p : Park) : Park :=
  { p with watch := p.watch.elapse 1, confirm := p.confirm.elapse 1 }

def Watchdog.elapse : Watchdog → Watchdog
  | .running n => .running (n - 1)
  | .stopped => .stopped
  | .suspended => .suspended

/-- One second passes at every timer. -/
def elapseTimers (s : State) : State :=
  let s := s.setHoses ⟨s.hoses.h1.elapse, s.hoses.h2.elapse, s.hoses.h3.elapse⟩
  let s := s.setChannels ⟨s.channels.h1.elapse, s.channels.h2.elapse, s.channels.h3.elapse⟩
  let s := s.setMeters ⟨s.meters.m1.elapse, s.meters.m2.elapse, s.meters.m3.elapse, s.meters.m4.elapse⟩
  let s := s.setSources ⟨s.sources.p1.elapse, s.sources.p2.elapse, s.sources.p3.elapse⟩
  let s := s.setPumps ⟨s.pumps.c1.elapse, s.pumps.c2.elapse⟩
  let s := s.setInlet s.inlet.elapse
  let s := s.setGuard s.guard.elapse
  let s := s.setPark s.park.elapse
  s.setLink { s.link with watchdog := s.link.watchdog.elapse }

/-- R158: the clock advances by 1 and stays at its largest value. -/
def advanceClock (s : State) : State :=
  s.setClock { s.clock with time := bump Config.clockMax s.clock.time }

/-- A tick of the site clock (R158): the clock advances while the part is powered. -/
def execSiteClockTick (s : State) : Host.Outcome State Fault Refusal :=
  .next (if s.live then elapseTimers (advanceClock s)
    else if s.powered then advanceClock s
    else s)

end Sys2Proof.Machine
end

