-- ==== Sys2Proof/Machine/PowerEvents.lean ====
section
/-! DEFINITION. The start-up after power-on (R101 and each chapter's start-up) and the loss of power
(R19). -/

namespace Sys2Proof.Machine

/-- Start-up after power-on (R101, R146, R151, R158). -/
def execStartUp (s : State) : Host.Outcome State Fault Refusal := .next (powerOn s)

/-- The loss of power (R19). -/
def execLossOfPower (s : State) : Host.Outcome State Fault Refusal := .next (losePower s)

end Sys2Proof.Machine
end

