-- ==== Sys2Proof/Machine/Dispatch.lean ====
section
/-! DEFINITION. The dispatch: one arm for each command, each a direct call of its meaning. -/

namespace Sys2Proof.Machine

/-- The effect of a command on everything but the queue. -/
def exec (i : Instr) (s : State) : Host.Outcome State Fault Refusal :=
  match i with
  | .siteStatus tag body => Sys2Proof.Machine.execSiteStatus tag body s
  | .alarms tag body => Sys2Proof.Machine.execAlarms tag body s
  | .linkCounters tag body => Sys2Proof.Machine.execLinkCounters tag body s
  | .settingsRead tag body => Sys2Proof.Machine.execSettingsRead tag body s
  | .settingsWrite tag body => Sys2Proof.Machine.execSettingsWrite tag body s
  | .restart tag body => Sys2Proof.Machine.execRestart tag body s
  | .tagChannelRead tag body => Sys2Proof.Machine.execTagChannelRead tag body s
  | .machineRead tag body => Sys2Proof.Machine.execMachineRead tag body s
  | .machineWrite tag body => Sys2Proof.Machine.execMachineWrite tag body s
  | .machineDelete tag body => Sys2Proof.Machine.execMachineDelete tag body s
  | .machineFind tag body => Sys2Proof.Machine.execMachineFind tag body s
  | .machineList tag body => Sys2Proof.Machine.execMachineList tag body s
  | .accountRead tag body => Sys2Proof.Machine.execAccountRead tag body s
  | .accountWrite tag body => Sys2Proof.Machine.execAccountWrite tag body s
  | .accountDelete tag body => Sys2Proof.Machine.execAccountDelete tag body s
  | .approve tag body => Sys2Proof.Machine.execApprove tag body s
  | .decline tag body => Sys2Proof.Machine.execDecline tag body s
  | .authorise tag body => Sys2Proof.Machine.execAuthorise tag body s
  | .hoseStatus tag body => Sys2Proof.Machine.execHoseStatus tag body s
  | .stop tag body => Sys2Proof.Machine.execStop tag body s
  | .hoseEnable tag body => Sys2Proof.Machine.execHoseEnable tag body s
  | .hoseDisable tag body => Sys2Proof.Machine.execHoseDisable tag body s
  | .hoseSettingsRead tag body => Sys2Proof.Machine.execHoseSettingsRead tag body s
  | .hoseSettingsWrite tag body => Sys2Proof.Machine.execHoseSettingsWrite tag body s
  | .equipmentStatus tag body => Sys2Proof.Machine.execEquipmentStatus tag body s
  | .pumpSettingsRead tag body => Sys2Proof.Machine.execPumpSettingsRead tag body s
  | .pumpSettingsWrite tag body => Sys2Proof.Machine.execPumpSettingsWrite tag body s
  | .inhibitClear tag body => Sys2Proof.Machine.execInhibitClear tag body s
  | .stockStatus tag body => Sys2Proof.Machine.execStockStatus tag body s
  | .tankSetupRead tag body => Sys2Proof.Machine.execTankSetupRead tag body s
  | .tankSetupWrite tag body => Sys2Proof.Machine.execTankSetupWrite tag body s
  | .strappingRead tag body => Sys2Proof.Machine.execStrappingRead tag body s
  | .strappingWrite tag body => Sys2Proof.Machine.execStrappingWrite tag body s
  | .strappingWritePart tag part fragment => Sys2Proof.Machine.execStrappingWritePart tag part fragment s
  | .gauge tag body => Sys2Proof.Machine.execGauge tag body s
  | .gaugeRead tag body => Sys2Proof.Machine.execGaugeRead tag body s
  | .bookAdjust tag body => Sys2Proof.Machine.execBookAdjust tag body s
  | .deliveryStatus tag body => Sys2Proof.Machine.execDeliveryStatus tag body s
  | .deliveryOpen tag body => Sys2Proof.Machine.execDeliveryOpen tag body s
  | .deliveryClose tag body => Sys2Proof.Machine.execDeliveryClose tag body s
  | .logStatus tag body => Sys2Proof.Machine.execLogStatus tag body s
  | .logRead tag body => Sys2Proof.Machine.execLogRead tag body s
  | .logConfirm tag body => Sys2Proof.Machine.execLogConfirm tag body s
  | .logRewind tag body => Sys2Proof.Machine.execLogRewind tag body s
  | .clockSet tag body => Sys2Proof.Machine.execClockSet tag body s
  | .shiftClose tag body => Sys2Proof.Machine.execShiftClose tag body s
  | .shiftTotals tag body => Sys2Proof.Machine.execShiftTotals tag body s
  | .calRead tag body => Sys2Proof.Machine.execCalRead tag body s
  | .calOpen tag body => Sys2Proof.Machine.execCalOpen tag body s
  | .calWrite tag body => Sys2Proof.Machine.execCalWrite tag body s
  | .calClose tag body => Sys2Proof.Machine.execCalClose tag body s
  | .auditRead tag body => Sys2Proof.Machine.execAuditRead tag body s
  | .parkStatus tag body => Sys2Proof.Machine.execParkStatus tag body s
  | .park tag body => Sys2Proof.Machine.execPark tag body s
  | .unknown tag code => Sys2Proof.Machine.execUnknown tag code s
  | .check tag code => Sys2Proof.Machine.execCheck tag code s
  | .overlap => Sys2Proof.Machine.execOverlap s
  | .brokenFrame kind => Sys2Proof.Machine.execBrokenFrame kind s
  | .byteError => Sys2Proof.Machine.execByteError s
  | .waking tag code => Sys2Proof.Machine.execWaking tag code s
  | .nozzleLift h => Sys2Proof.Machine.execNozzleLift h s
  | .nozzleHang h => Sys2Proof.Machine.execNozzleHang h s
  | .meterPulse m => Sys2Proof.Machine.execMeterPulse m s
  | .tempReading p reading => Sys2Proof.Machine.execTempReading p reading s
  | .tempFaultIndication p => Sys2Proof.Machine.execTempFaultIndication p s
  | .levelReading c level => Sys2Proof.Machine.execLevelReading c level s
  | .levelFaultIndication c => Sys2Proof.Machine.execLevelFaultIndication c s
  | .valid ch id => Sys2Proof.Machine.execValid ch id s
  | .inverted ch id => Sys2Proof.Machine.execInverted ch id s
  | .checkBad ch => Sys2Proof.Machine.execCheckBad ch s
  | .badStart ch => Sys2Proof.Machine.execBadStart ch s
  | .confirmed h id => Sys2Proof.Machine.execConfirmed h id s
  | .lost h => Sys2Proof.Machine.execLost h s
  | .changed h id => Sys2Proof.Machine.execChanged h id s
  | .emergencyStopActive => Sys2Proof.Machine.execEmergencyStopActive s
  | .emergencyStopInactive => Sys2Proof.Machine.execEmergencyStopInactive s
  | .overfillSwitchActive c => Sys2Proof.Machine.execOverfillSwitchActive c s
  | .overfillSwitchInactive c => Sys2Proof.Machine.execOverfillSwitchInactive c s
  | .sealSwitchOpen => Sys2Proof.Machine.execSealSwitchOpen s
  | .sealSwitchClosed => Sys2Proof.Machine.execSealSwitchClosed s
  | .storeDisturbance set => Sys2Proof.Machine.execStoreDisturbance set s
  | .startUp => Sys2Proof.Machine.execStartUp s
  | .intervalEnd m => Sys2Proof.Machine.execIntervalEnd m s
  | .sourceHoldTimerExpiry p => Sys2Proof.Machine.execSourceHoldTimerExpiry p s
  | .channelHoldTimerExpiry ch => Sys2Proof.Machine.execChannelHoldTimerExpiry ch s
  | .identifyTimerExpiry h => Sys2Proof.Machine.execIdentifyTimerExpiry h s
  | .approvalTimerExpiry h => Sys2Proof.Machine.execApprovalTimerExpiry h s
  | .noFlowTimerExpiry h => Sys2Proof.Machine.execNoFlowTimerExpiry h s
  | .resumeGraceTimerExpiry h => Sys2Proof.Machine.execResumeGraceTimerExpiry h s
  | .hoseDrainQuietExpiry h => Sys2Proof.Machine.execHoseDrainQuietExpiry h s
  | .hoseDrainCapExpiry h => Sys2Proof.Machine.execHoseDrainCapExpiry h s
  | .deliveryDrainQuietExpiry => Sys2Proof.Machine.execDeliveryDrainQuietExpiry s
  | .deliveryDrainCapExpiry => Sys2Proof.Machine.execDeliveryDrainCapExpiry s
  | .maxRunReached c => Sys2Proof.Machine.execMaxRunReached c s
  | .restTimerExpiry c => Sys2Proof.Machine.execRestTimerExpiry c s
  | .windowTimerExpiry => Sys2Proof.Machine.execWindowTimerExpiry s
  | .checkTimerExpiry => Sys2Proof.Machine.execCheckTimerExpiry s
  | .watchdogExpiry order => Sys2Proof.Machine.execWatchdogExpiry order s
  | .watchTimerExpiry => Sys2Proof.Machine.execWatchTimerExpiry s
  | .confirmTimerExpiry => Sys2Proof.Machine.execConfirmTimerExpiry s
  | .siteClockTick => Sys2Proof.Machine.execSiteClockTick s
  | .preGaugeResult c r => Sys2Proof.Machine.execPreGaugeResult c r s
  | .postGaugeResult c r => Sys2Proof.Machine.execPostGaugeResult c r s
  | .parkBaselineResult c r => Sys2Proof.Machine.execParkBaselineResult c r s
  | .parkWatchResult c r => Sys2Proof.Machine.execParkWatchResult c r s
  | .answerSent => Sys2Proof.Machine.execAnswerSent s
  | .lossOfPower => Sys2Proof.Machine.execLossOfPower s

end Sys2Proof.Machine
end

