-- ==== Sys2Proof/Machine/Receiver.lean ====
section
/-! DEFINITION. The line receiver: what a byte of the line does to the part (R185 to R187). -/

namespace Sys2Proof.Machine

/-- R185, R197: a byte is one event at the site link of a powered part. A byte that ends a frame, whole or
broken, is the command that the frame is; any other byte changes the assembly alone. A part without power
takes no byte. -/
def takeByte (b : LineByte) (s : State) : Host.Outcome State Fault Refusal :=
  if s.powered then
    match byteCommand s s.link.assembly b with
    | (_, some i) => exec i s
    | (a, none) => .next (setAssembly a s)
  else .next s

end Sys2Proof.Machine
end

