-- ==== Sys2Proof/Safety.lean ====
section
/-! DEFINITION. The words in which claims are made: the parts of the state and what a command leaves
unchanged, a part that takes a request, the state after a reply, and the laws of the device that the
rules name (R39, R41, R43, R52, R62, R78, R91, R103, R115, R116, R133, R134, R147, R148, R167, R170). -/

namespace Sys2Proof.Machine

/-! ## Frames -/

/-- The parts of the state. -/
inductive Part where
  | machines | queue | accounts | hoseConfigs | txs | pumpConfigs | comps | delivery | selector
  | log | shift | cal | site | clock | channels | hoses | meters | sources | pumps | units
  | inlet | logWatch | guard | park | link | alarms | inputs | power | handed | draws | pending
  | line
deriving DecidableEq, Repr

/-- A part of the state is the same in two states. -/
def Part.same (s t : State) : Part → Prop
  | .machines => t.store.machines = s.store.machines
  | .queue => t.store.queue = s.store.queue
  | .accounts => t.store.accounts = s.store.accounts
  | .hoseConfigs => t.store.hoseConfigs = s.store.hoseConfigs
  | .txs => t.store.txs = s.store.txs
  | .pumpConfigs => t.store.pumpConfigs = s.store.pumpConfigs
  | .comps => t.store.comps = s.store.comps
  | .delivery => t.store.delivery = s.store.delivery
  | .selector => t.store.selector = s.store.selector
  | .log => t.store.log = s.store.log
  | .shift => t.store.shift = s.store.shift
  | .cal => t.store.cal = s.store.cal
  | .site => t.store.site = s.store.site
  | .clock => t.clock = s.clock
  | .channels => t.channels = s.channels
  | .hoses => t.hoses = s.hoses
  | .meters => t.meters = s.meters
  | .sources => t.sources = s.sources
  | .pumps => t.pumps = s.pumps
  | .units => t.units = s.units
  | .inlet => t.inlet = s.inlet
  | .logWatch => t.logWatch = s.logWatch
  | .guard => t.guard = s.guard
  | .park => t.park = s.park
  | .link => t.link = s.link
  | .alarms => t.alarms = s.alarms
  | .inputs => t.inputs = s.inputs
  | .power => t.power = s.power
  | .handed => t.handed = s.handed
  | .draws => t.draws = s.draws
  | .pending => t.pending = s.pending
  | .line => t.line = s.line

/-- `t` differs from `s` at most in the parts listed. -/
def OnlyIn (ps : List Part) (s t : State) : Prop := ∀ p, p ∉ ps → p.same s t

/-- Every hose but `h` is the same. -/
def OtherHoses (h : Hose) (s t : State) : Prop := ∀ g, g ≠ h → t.hose g = s.hose g

/-- The channel of every hose but `h` is the same. -/
def OtherChannels (h : Hose) (s t : State) : Prop := ∀ g, g ≠ h → t.channel g = s.channel g

/-- Every compartment but `c` is the same. -/
def OtherComp (c : Comp) (s t : State) : Prop := ∀ e, e ≠ c → t.comp e = s.comp e

/-- Every row of the alarm table but those of the alarms listed is the same. -/
def OtherAlarms (as : List Alarm) (s t : State) : Prop :=
  ∀ k, k ∉ as.map Alarm.row → tableFind t.alarms k = tableFind s.alarms k

/-! ## The two watches -/

/-- R117: the low-stock watch of a compartment has been evaluated on the book and the level of `t`. A flag that was
set in `s` is cleared, and LOW_STOCK raised, where the book is not above the level; a clear flag is set where it is;
otherwise neither changes. -/
def LowStockWatched (c : Comp) (s t : State) : Prop :=
  (t.unit c).armed = decide (((t.comp c).lowStock : Int) < (t.comp c).book) ∧
  tableFind t.alarms (Alarm.lowStock c).row =
    (if (s.unit c).armed = true ∧ (t.comp c).book ≤ ((t.comp c).lowStock : Int) then
      tableFind (raiseAlarm (.lowStock c) s).alarms (Alarm.lowStock c).row
    else tableFind s.alarms (Alarm.lowStock c).row)

/-- R117: the low-stock watch of a compartment stands as it was. -/
def LowStockKept (c : Comp) (s t : State) : Prop :=
  (t.unit c).armed = (s.unit c).armed ∧
    tableFind t.alarms (Alarm.lowStock c).row = tableFind s.alarms (Alarm.lowStock c).row

/-- R150: the near-full watch has been evaluated on the free slots of `t`. A flag that was set in `s` is cleared, and
LOG_NEAR_FULL raised, where 32 slots or fewer are free; a clear flag is set where more are; otherwise neither
changes. -/
def LogWatched (s t : State) : Prop :=
  t.logWatch.armed = decide (32 < 1024 - t.store.log.records.length - t.store.log.commitments) ∧
  tableFind t.alarms Alarm.logNearFull.row =
    (if s.logWatch.armed = true ∧ 1024 - t.store.log.records.length - t.store.log.commitments ≤ 32 then
      tableFind (raiseAlarm .logNearFull s).alarms Alarm.logNearFull.row
    else tableFind s.alarms Alarm.logNearFull.row)

/-! ## Requests and replies -/

/-- The part takes a request and hands it to its owner: it is powered, is not sending, and is ACTIVE or
PARKING (R186, R187). -/
def Ready (s : State) : Prop :=
  s.power = .on ∧ s.link.sending = none ∧ (s.park.state = .active ∨ s.park.state = .parking)

/-- R187 steps 1 and 3, R191: the state in which a ready part hands a request to its owner. -/
def heard (s : State) : State :=
  s.setLink { s.link with
    assembly := .hunt
    online := true
    watchdog := if s.store.site.linkTimeout = 0 then .stopped else .running s.store.site.linkTimeout
    counters := { s.link.counters with good := min (s.link.counters.good + 1) 65535 } }

/-- R188: the part sends a reply. -/
def replied (r : Reply) (s : State) : State := s.setLink { s.link with sending := some r }

/-- R187, R188: a ready part that answers a request and changes nothing else. -/
def answered (tag : SeqTag) (code : Septet) (fields : List Field) (s : State) : State :=
  replied (.answer tag code fields) (heard s)

/-- R187, R188: a ready part that refuses a request. -/
def refused (tag : SeqTag) (r : RefusalCode) (code : Septet) (s : State) : State :=
  replied (.refusal tag r code) (heard s)

/-- The reply that the part sends, if it sends one. -/
def replyOf (s : State) : Option Reply := s.link.sending

/-- What a row of the command table is: a host request, another row of the line, a change of a discrete input,
a row that only a running part takes (a pulse, a reading, a frame or report of a tag channel, a result of a
gauging run, an expiry of a timer), or a row of the part's surroundings (the site clock's tick, a store
disturbance, a start-up, a loss of power). -/
inductive RowKind where
  | request | line | input | running | surroundings
deriving DecidableEq, Repr

/-- What each row is. -/
def rowKind : Instr → RowKind
  | .siteStatus _ _ | .alarms _ _ | .linkCounters _ _ | .settingsRead _ _ | .settingsWrite _ _
  | .restart _ _ | .tagChannelRead _ _ | .machineRead _ _ | .machineWrite _ _
  | .machineDelete _ _ | .machineFind _ _ | .machineList _ _ | .accountRead _ _
  | .accountWrite _ _ | .accountDelete _ _ | .approve _ _ | .decline _ _ | .authorise _ _
  | .hoseStatus _ _ | .stop _ _ | .hoseEnable _ _ | .hoseDisable _ _ | .hoseSettingsRead _ _
  | .hoseSettingsWrite _ _ | .equipmentStatus _ _ | .pumpSettingsRead _ _
  | .pumpSettingsWrite _ _ | .inhibitClear _ _ | .stockStatus _ _ | .tankSetupRead _ _
  | .tankSetupWrite _ _ | .strappingRead _ _ | .strappingWrite _ _ | .gauge _ _ | .gaugeRead _ _
  | .bookAdjust _ _ | .deliveryStatus _ _ | .deliveryOpen _ _ | .deliveryClose _ _
  | .logStatus _ _ | .logRead _ _ | .logConfirm _ _ | .logRewind _ _ | .clockSet _ _
  | .shiftClose _ _ | .shiftTotals _ _ | .calRead _ _ | .calOpen _ _ | .calWrite _ _
  | .calClose _ _ | .auditRead _ _ | .parkStatus _ _ | .park _ _ | .strappingWritePart _ _ _ =>
    .request
  | .unknown _ _ | .check _ _ | .overlap | .brokenFrame _ | .byteError | .waking _ _
  | .answerSent => .line
  | .nozzleLift _ | .nozzleHang _ | .emergencyStopActive | .emergencyStopInactive
  | .overfillSwitchActive _ | .overfillSwitchInactive _ | .sealSwitchOpen | .sealSwitchClosed =>
    .input
  | .meterPulse _ | .tempReading _ _ | .tempFaultIndication _ | .levelReading _ _
  | .levelFaultIndication _ | .valid _ _ | .inverted _ _ | .checkBad _ | .badStart _
  | .confirmed _ _ | .lost _ | .changed _ _ | .intervalEnd _ | .sourceHoldTimerExpiry _
  | .channelHoldTimerExpiry _ | .identifyTimerExpiry _ | .approvalTimerExpiry _
  | .noFlowTimerExpiry _ | .resumeGraceTimerExpiry _ | .hoseDrainQuietExpiry _
  | .hoseDrainCapExpiry _ | .deliveryDrainQuietExpiry | .deliveryDrainCapExpiry
  | .maxRunReached _ | .restTimerExpiry _ | .windowTimerExpiry | .checkTimerExpiry
  | .watchdogExpiry _ | .watchTimerExpiry | .confirmTimerExpiry | .preGaugeResult _ _
  | .postGaugeResult _ _ | .parkBaselineResult _ _ | .parkWatchResult _ _ => .running
  | .storeDisturbance _ | .startUp | .siteClockTick | .lossOfPower => .surroundings

/-- The host requests, each with its body (R184). -/
def isRequest (c : Instr) : Bool := decide (rowKind c = .request)

/-- R187 step 5: the body of a request, by its message code, parses as the code's fields. A STRAPPING WRITE (60)
carries its operands in parts: a frame of it parses where it has a part number and a last-part flag (R189). -/
def bodyParses (code : Nat) (body : List Septet) : Bool :=
  match code with
  | 8 | 24 | 26 | 33 | 40 | 41 | 42 | 43 | 44 | 49 | 51 | 56 | 57 | 61 | 62 | 90 | 96 =>
    (parseCount body).isSome
  | 1 | 2 | 3 | 4 | 6 | 48 | 72 | 74 | 80 | 83 | 89 | 97 | 99 | 104 | 105 => (parseNone body).isSome
  | 82 | 88 | 100 => (parseLong body).isSome
  | 18 | 20 => (parseCount2 body).isSome
  | 5 => (parseSettingsWrite body).isSome
  | 16 => (parseMachineRead body).isSome
  | 17 => (parseMachineWrite body).isSome
  | 19 => (parseTag body).isSome
  | 25 => (parseAccountWrite body).isSome
  | 32 => (parseApprove body).isSome
  | 34 => (parseAuthorise body).isSome
  | 45 => (parseHoseSettings body).isSome
  | 50 => (parsePumpSettings body).isSome
  | 58 => (parseTankSetup body).isSome
  | 59 => (parseStrappingRead body).isSome
  | 63 => (parseBookAdjust body).isSome
  | 73 => (parseDeliveryOpen body).isSome
  | 81 => (parseLogRead body).isSome
  | 98 => (parseCalWrite body).isSome
  | 60 => decide (2 ≤ body.length)
  | _ => true

/-- R187, R188, R190: a ready part that refuses a request and counts it among the UNKNOWN and FORMAT refusals. -/
def refusedCounted (tag : SeqTag) (r : RefusalCode) (code : Septet) (s : State) : State :=
  replied (.refusal tag r code) ((heard s).setLink { (heard s).link with
    counters := { (heard s).link.counters with
      unknownFormat := min (s.link.counters.unknownFormat + 1) 65535 } })

/-- A number of steps, up to the first that does not answer with a next state. -/
def steps : Nat → State → Host.Outcome State Fault Refusal
  | 0, s => .next s
  | n + 1, s =>
    match step s with
    | .next t => steps n t
    | .fault e => .fault e
    | .refused r => .refused r

/-! ## Fills -/

/-- R59, R70: a hose before its grant enters REFUSED with a reason; no other hose changes. -/
def HoseRefused (h : Hose) (r : Reason) (s t : State) : Prop :=
  t.hose h = { s.hose h with state := .refused r, identify := .stopped, approval := .stopped } ∧
    OtherHoses h s t

/-- R123, R178: PARKING has been cancelled with a last outcome. For each compartment whose baseline was awaited the
PARK_BASELINE kind has left its run, and no result of it waits any longer to be taken (assumption 43). -/
def ParkCancelled (o : ParkOutcome) (s t : State) : Prop :=
  t.park = { s.park with state := .active, awaited := ⟨false, false⟩, outcome := some o } ∧
    (∀ c, (t.unit c).run.requesters = (if s.park.awaited.get c then
      (s.unit c).run.requesters.erase .parkBaseline else (s.unit c).run.requesters)) ∧
    t.handed = s.handed.filter (fun e =>
      !(s.park.awaited.c1 && e.isResult .c1 .parkBaseline) &&
        !(s.park.awaited.c2 && e.isResult .c2 .parkBaseline))

/-- R45: a hold of hose `h` on entry `k` has ended. Where it was the last, the update that waits for the entry
is applied and leaves the queue; while another hose holds the entry, or where no update waits, nothing
changes. -/
def HoldEnded (h : Hose) (k : Nat) (s t : State) : Prop :=
  (∀ u, (∀ g, g ≠ h → holding s g ≠ some k) → pendingUpdate s k = some u →
    t.store.queue = s.store.queue.filter (fun v => decide (v.entry ≠ k)) ∧
    (∀ j, j ≠ k → t.machine j = s.machine j) ∧
    (u.contents = none → t.machine k = none) ∧
    (∀ f m, u.contents = some f → s.machine k = some m →
      t.machine k = some { m with fields := f })) ∧
  ((∃ g, g ≠ h ∧ holding s g = some k) ∨ pendingUpdate s k = none →
    t.store.queue = s.store.queue ∧ t.store.machines = s.store.machines)

/-- R75: a reserved field after R mL are reserved for a product. -/
def addReserved (p : Product) (r : Nat) (v : PerProduct Nat) : PerProduct Nat :=
  v.set p (v.get p + r)

/-- R41, R52: a reserved field after R mL are released for a product. -/
def releaseReserved (p : Product) (r : Nat) (v : PerProduct Nat) : PerProduct Nat :=
  v.set p (v.get p - r)

/-- R41, R52: a used total after a fill of some net mL, which saturates. -/
def addUsed (p : Product) (net : Nat) (v : PerProduct Nat) : PerProduct Nat :=
  v.set p (min (v.get p + net) 2000000000)

/-- R72 to R76, R79, R82, R150: the grant of entry `m` to a hose has opened a fill. -/
def FillOpened (g : GrantRequest) (m : MachineEntry) (s t : State) : Prop :=
  ∃ tx, t.tx g.hose = some tx ∧
    (tx.machine = g.machine ∧ tx.tag = g.tag ∧ tx.account = m.fields.account ∧
      tx.rate = (accountOf s m.fields.account).fields.rate.get (productOf g.hose) ∧
      (tx.limit : Int) = limitOf g m s ∧
      tx.reservation = tx.limit + (s.config g.hose).overrunAllowance ∧ tx.start = s.clock ∧
      tx.offline = g.offline ∧ tx.manual = g.tag.isNone ∧ tx.pauses = 0 ∧ tx.cause = none ∧
      tx.drainCut = false ∧ tx.overrunNoted = false) ∧
    (tx.volume.gross = 0 ∧ tx.volume.net = 0 ∧ tx.volume.remainder = 0 ∧
      tx.volume.vcf = vcfOf (s.store.cal.set.alpha.get (compOf g.hose))
        (sourceTemp (s.source (probeOf (compOf g.hose))))) ∧
    ((t.hose g.hose).state = .flowing ∧
      (t.hose g.hose).noFlow = .running (s.config g.hose).noFlowTime ∧
      (t.hose g.hose).identify = .stopped ∧ (t.hose g.hose).approval = .stopped ∧
      (t.hose g.hose).stage =
        (if tx.limit ≤ (s.config g.hose).taperVolume then .taper
         else if 0 < (s.config g.hose).startVolume then .start else .full) ∧
      (t.hose g.hose).valve = (if (t.hose g.hose).stage = .full then .high else .low)) ∧
    (t.machine g.machine = some { m with
        reserved := addReserved (productOf g.hose) tx.reservation m.reserved } ∧
      t.account tx.account = (s.account tx.account).map (fun a => { a with
        reserved := addReserved (productOf g.hose) tx.reservation a.reserved }) ∧
      t.comp (compOf g.hose) = { s.comp (compOf g.hose) with
        reservations := (s.comp (compOf g.hose)).reservations + tx.reservation } ∧
      t.store.log = { s.store.log with commitments := s.store.log.commitments + 1 }) ∧
    ((t.meter (meterOf g.hose)).band = 1 ∧ (t.meter (meterOf g.hose)).acc = 0 ∧
      (t.meter (meterOf g.hose)).interval = .running 1 ∧
      (t.pump (compOf g.hose)).isRunning = true) ∧
    (LogWatched s t ∧ OtherAlarms [.logNearFull] s t) ∧
    OtherHoses g.hose s t ∧ OtherComp (compOf g.hose) s t ∧ (∀ h, h ≠ g.hose → t.tx h = s.tx h) ∧
    (∀ k, k ≠ g.machine → t.machine k = s.machine k) ∧
    (∀ k, k ≠ tx.account → t.account k = s.account k)

/-- R15 to R17: a volume state after a VCF computation from a coefficient and a source. -/
def Recomputed (alpha : Nat) (src : Source) (v w : Volume) : Prop :=
  w.vcf = vcfOf alpha (sourceTemp src) ∧ w.vcfTemp = sourceTemp src ∧
    (w.clamped = true ↔ v.clamped = true ∨ src.state = .clamped) ∧
    (w.uncompensated = true ↔ v.uncompensated = true ∨ src.state = .defaulted ∨
      (src.state = .valid ∧ src.held = none)) ∧
    w.gross = v.gross ∧ w.net = v.net ∧ w.remainder = v.remainder

/-- The parts that the grant of a fill can change. -/
def fillParts : List Part :=
  [.hoses, .txs, .machines, .queue, .accounts, .comps, .log, .logWatch, .alarms, .meters, .pumps,
    .units]

/-- R67: what the drop of the link does to one hose: a hose in AWAITING is refused with NO_LINK where its entry is
not permitted offline, and otherwise has its grant tested: it is refused with the reason of the grant, or its
fill is opened. -/
def LinkDropped (h : Hose) (s t : State) : Prop :=
  ((s.hose h).state.isAwaiting = false → t = s) ∧
  (∀ k id m, (s.hose h).state = .awaiting k id → s.machine k = some m →
    (m.fields.offline = false →
      HoseRefused h .noLink s t ∧ HoldEnded h k s t ∧ OnlyIn [.hoses, .machines, .queue] s t) ∧
    (m.fields.offline = true →
      (∀ r, grantRefusal ⟨h, k, some id, none, true⟩ m s = some r →
        HoseRefused h r s t ∧ HoldEnded h k s t ∧ OnlyIn [.hoses, .machines, .queue] s t) ∧
      (grantRefusal ⟨h, k, some id, none, true⟩ m s = none →
        0 < limitOf ⟨h, k, some id, none, true⟩ m s →
        FillOpened ⟨h, k, some id, none, true⟩ m s t ∧ OnlyIn fillParts s t)))

/-- R65, R70, R71: an APPROVE whose grant is refused: the hose is REFUSED with the reason, its hold on entry `k`
ends, nothing is reserved, and the answer carries the reason. -/
def RefusedApproval (h : Hose) (k : Nat) (r : Reason) (tag : SeqTag) (body : List Septet)
    (s : State) : Prop :=
  ∃ t, exec (.approve tag body) s = .next t ∧ HoseRefused h r s t ∧ HoldEnded h k s t ∧
    OnlyIn [.hoses, .machines, .queue, .link] s t ∧
    replyOf t = some (.answer tag 32
      [.count (hoseNumber h), .code 3, .absent, .absent, .present, .code r.code])

/-- R68, R70, R71: an AUTHORISE that is answered with a refused fill: the hose, which holds no entry yet, is REFUSED
with the reason, nothing is reserved, and the answer carries the reason. -/
def RefusedAuthorisation (h : Hose) (r : Reason) (tag : SeqTag) (body : List Septet) (s : State) : Prop :=
  ∃ t, exec (.authorise tag body) s = .next t ∧ HoseRefused h r s t ∧ OnlyIn [.hoses, .link] s t ∧
    replyOf t = some (.answer tag 34
      [.count (hoseNumber h), .code 3, .absent, .absent, .present, .code r.code])

/-- R34: a report that its hose gives no use for: it is taken from the list of what waits to be taken, which is the
model's own (assumption 5), and nothing else changes. -/
def NoUse (report : Instr) (s : State) : Prop := ∃ t, exec report s = .next t ∧ OnlyIn [.handed] s t

/-- The parts that a stop event can change. -/
def stopParts : List Part := [.hoses, .txs, .meters, .pumps, .units]

/-- R85, R88: a stop event has ended the flow of a fill. -/
def FillStopped (h : Hose) (cause : StopCause) (s t : State) : Prop :=
  t.hose h = { s.hose h with
    state := .draining, valve := .closed, noFlow := .stopped, grace := .stopped,
    quiet := .running 2, cap := .running 15 } ∧
    t.tx h = (s.tx h).map (fun tx => { tx with cause := some (tx.cause.getD cause) }) ∧
    t.meter (meterOf h) = (if (s.hose h).state = .paused then
      { s.meter (meterOf h) with band := 1, acc := 0, interval := .running 1 }
      else s.meter (meterOf h)) ∧
    OtherHoses h s t ∧ (∀ g, g ≠ h → t.tx g = s.tx g) ∧
    (∀ m, m ≠ meterOf h → t.meter m = s.meter m) ∧
    (∀ c, c ≠ compOf h → t.pump c = s.pump c ∧ t.unit c = s.unit c)

/-- R41: an entry that the close of a fill has charged. -/
def chargedEntry (h : Hose) (tx : Transaction) (s : State) (m : MachineEntry) : MachineEntry :=
  { m with
    used := addUsed (productOf h) (tx.volume.net / 1000) m.used
    reserved := releaseReserved (productOf h) tx.reservation m.reserved
    lastFill := some ⟨s.store.log.nextSeq, s.clock.time, productOf h, tx.volume.net / 1000⟩ }

/-- R41, R45, R92 step 8: the entry of a fill after its close. It is charged, and where no hose holds it any
longer the update that waits for it is then applied and leaves the queue. -/
def EntryCharged (h : Hose) (tx : Transaction) (s t : State) : Prop :=
  (pendingUpdate s tx.machine = none ∨ held t tx.machine = true →
    t.machine tx.machine = (s.machine tx.machine).map (chargedEntry h tx s) ∧
      pendingUpdate t tx.machine = pendingUpdate s tx.machine) ∧
  (∀ u, pendingUpdate s tx.machine = some u → held t tx.machine = false →
    pendingUpdate t tx.machine = none ∧ (u.contents = none → t.machine tx.machine = none) ∧
    (∀ f m, u.contents = some f → s.machine tx.machine = some m →
      t.machine tx.machine = some { chargedEntry h tx s m with fields := f }))

/-- R41, R52, R92 steps 1 to 5, R93, R115 to R117, R128, R149, R150: what the close of a fill books: the FILL record
in the slot committed at the grant, the compartment's book, counters and reservations, the shift's fill count and
the account, with the two watches evaluated. -/
def FillBooked (h : Hose) (tx : Transaction) (s t : State) : Prop :=
  t.tx h = none ∧
    (∃ r, t.store.log = ⟨s.store.log.records ++
        [⟨s.store.log.nextSeq, false, s.store.shift.number, .fill r⟩],
        s.store.log.commitments - 1, s.store.log.nextSeq + 1⟩ ∧
      r.hose = h ∧ r.product = productOf h ∧ r.machine = tx.machine ∧
      r.fleet = fleetOf s tx.machine ∧ r.tag = tx.tag ∧ r.account = tx.account ∧
      r.accountCode = ((s.account tx.account).map fun a => a.fields.code).getD [] ∧
      r.rate = tx.rate ∧ r.start = tx.start.time ∧
      r.finish = s.clock.time ∧ r.unset = (tx.start.unset || s.clock.unset) ∧
      r.gross = tx.volume.gross / 1000 ∧ r.net = tx.volume.net / 1000 ∧ r.vcf = tx.volume.vcf ∧
      r.vcfTemp = tx.volume.vcfTemp ∧ r.limit = tx.limit ∧
      r.charge = (tx.volume.net / 1000 * tx.rate + 5000) / 10000 ∧
      r.cause = tx.cause.getD .powerLoss ∧ r.pauses = tx.pauses ∧ r.offline = tx.offline ∧
      r.manual = tx.manual ∧ r.uncompensated = tx.volume.uncompensated ∧
      r.clamped = tx.volume.clamped ∧ r.drainCut = tx.drainCut) ∧
    (t.comp (compOf h) = { s.comp (compOf h) with
        book := (s.comp (compOf h)).book - (tx.volume.net / 1000 : Nat)
        dispensed := (s.comp (compOf h)).dispensed + (tx.volume.net / 1000 : Nat)
        reservations := (s.comp (compOf h)).reservations - tx.reservation
        gauging := { (s.comp (compOf h)).gauging with
          stale := (s.comp (compOf h)).gauging.stale || decide (tx.volume.net / 1000 ≠ 0) }
        inhibit := (t.comp (compOf h)).inhibit } ∧
      OtherComp (compOf h) s t) ∧
    t.store.shift = { s.store.shift with
      fills := s.store.shift.fills.set (compOf h) (min (s.store.shift.fills.get (compOf h) + 1) 65535) } ∧
    (t.account tx.account = ((s.account tx.account).map fun a =>
        { a with
          used := addUsed (productOf h) (tx.volume.net / 1000) a.used
          reserved := releaseReserved (productOf h) tx.reservation a.reserved
          charged := min (a.charged + (tx.volume.net / 1000 * tx.rate + 5000) / 10000) 2000000000 }) ∧
      (∀ k, k ≠ tx.account → t.account k = s.account k)) ∧
    LogWatched s t ∧ (tx.volume.net / 1000 ≠ 0 → LowStockWatched (compOf h) s t) ∧
    (tx.volume.net / 1000 = 0 → LowStockKept (compOf h) s t)

/-- R41, R45, R92 to R95: what the close of a fill does at the end of its drain, whichever timer ended it: what it
books and charges, the notice it latches, and the state the hose and its meter take. -/
def FillCharged (h : Hose) (tx : Transaction) (s t : State) : Prop :=
  FillBooked h tx s t ∧
    ((t.hose h).state = (if s.inputs.lifted.get h then .finished else .idle) ∧
      (t.hose h).valve = .closed ∧ (t.hose h).quiet = .stopped ∧ (t.hose h).cap = .stopped ∧
      (t.hose h).nearEnd = false ∧
      (t.hose h).completion = some ⟨s.store.log.nextSeq, tx.cause.getD .powerLoss,
        tx.volume.net / 1000, (tx.volume.net / 1000 * tx.rate + 5000) / 10000⟩) ∧
    EntryCharged h tx s t ∧
    (t.meter (meterOf h)).acc = 0 ∧ (t.meter (meterOf h)).interval = .stopped

/-- R92: the close of a fill, with nothing else changed: no other hose, context or entry, and of the queue only
the update of an entry that no hose holds any longer. -/
def FillClosed (h : Hose) (tx : Transaction) (s t : State) : Prop :=
  FillCharged h tx s t ∧ OtherAlarms [.lowStock (compOf h), .logNearFull] s t ∧
    (∀ g, g ≠ h → t.tx g = s.tx g) ∧ OtherHoses h s t ∧
    (∀ k, k ≠ tx.machine → t.machine k = s.machine k) ∧
    t.store.queue = (if held t tx.machine then s.store.queue
      else s.store.queue.filter (fun u => decide (u.entry ≠ tx.machine)))

/-- R115, R122, R123, R128, R142, R143: the end of a delivery's drain: the compartment is credited with the
metered net, the last gauging is STALE, the final volumes and the end time are taken, the meter stops, and
the post-delivery run is requested. -/
def DeliveryCredited (d : Delivery) (s t : State) : Prop :=
  (∃ e, t.store.delivery = some e ∧ e.state = .postGauge ∧ e.comp = d.comp ∧ e.docket = d.docket ∧
    e.declared = d.declared ∧ e.preGauge = d.preGauge ∧ e.start = d.start ∧ e.cause = d.cause ∧
    e.final = some (d.volume.gross / 1000, d.volume.net / 1000) ∧ e.finish = some s.clock.time ∧
    e.unset = (d.unset || s.clock.unset) ∧ e.volume = { d.volume with remainder := 0 } ∧
    e.levelFault = d.levelFault) ∧
    t.comp d.comp = { s.comp d.comp with
      book := (s.comp d.comp).book + (d.volume.net / 1000 : Nat)
      delivered := (s.comp d.comp).delivered + (d.volume.net / 1000 : Nat)
      gauging := { (s.comp d.comp).gauging with stale := true } } ∧
    OtherComp d.comp s t ∧ t.inlet = { s.inlet with quiet := .stopped, cap := .stopped } ∧
    t.meter .m4 = { s.meter .m4 with acc := 0, interval := .stopped } ∧
    .postDelivery ∈ (t.unit d.comp).run.requesters ∧
    LowStockWatched d.comp s t ∧ OtherAlarms [.lowStock d.comp] s t ∧
    OnlyIn [.delivery, .inlet, .units, .meters, .comps, .alarms] s t

/-- R144, R148, R150, R153: a delivery has been recorded with a post-gauge, or without one: the DELIVERY record in
the slot committed at DELIVERY OPEN, with the context discarded and the near-full watch evaluated. -/
def DeliveryRecorded (d : Delivery) (post : Option DeliveryGauge) (s t : State) : Prop :=
  t.store.delivery = none ∧
    (∃ r, t.store.log = ⟨s.store.log.records ++
        [⟨s.store.log.nextSeq, false, s.store.shift.number, .delivery r⟩],
        s.store.log.commitments - 1, s.store.log.nextSeq + 1⟩ ∧
      r.comp = d.comp ∧ r.docket = d.docket ∧ r.declared = d.declared ∧
      (∀ x, d.start = some x → r.start = x) ∧ (∀ x, d.finish = some x → r.finish = x) ∧
      r.unset = d.unset ∧
      (∀ gross net, d.final = some (gross, net) → r.gross = gross ∧ r.net = net ∧
        r.docketVariance = d.declared.map (fun x => (net : Int) - x) ∧
        (∀ a b, d.preGauge = some a → post = some b →
          r.variance = some (b.net - a.net - (net : Int)))) ∧
      (d.preGauge = none ∨ post = none → r.variance = none) ∧
      r.temp = d.volume.vcfTemp ∧ r.vcf = d.volume.vcf ∧
      r.preGauge = d.preGauge.map (fun g => (g.net, g.level)) ∧
      r.postGauge = post.map (fun g => (g.net, g.level)) ∧
      (∀ x, d.cause = some x → r.cause = x) ∧ r.clamped = d.volume.clamped ∧
      r.uncompensated = d.volume.uncompensated ∧ r.drainCut = d.drainCut ∧
      r.levelFault = d.levelFault ∧
      (r.above = true ↔ (∃ g, d.preGauge = some g ∧ g.above = true) ∨
        (∃ g, post = some g ∧ g.above = true))) ∧
    LogWatched s t

/-! ## Start-up -/

/-- R101: what start-up does with one hose's stored context: where there is one it is booked as at a close, with the
stop cause POWER_LOSS in the place of any other and the end time of the clock as start-up leaves it, and its entry
is charged; where there is none nothing changes. -/
def FillLost (h : Hose) (s t : State) : Prop :=
  (s.tx h = none → t = s) ∧
  (∀ tx, s.tx h = some tx →
    FillBooked h { tx with cause := some .powerLoss } s t ∧
    t.machine tx.machine =
      (s.machine tx.machine).map (chargedEntry h { tx with cause := some .powerLoss } s) ∧
    (∀ k, k ≠ tx.machine → t.machine k = s.machine k) ∧ (∀ g, g ≠ h → t.tx g = s.tx g) ∧
    (t.comp (compOf h)).inhibit = (s.comp (compOf h)).inhibit ∧
    (∀ c, c ≠ compOf h → t.unit c = s.unit c) ∧
    OtherAlarms [.lowStock (compOf h), .logNearFull] s t ∧
    OnlyIn [.machines, .accounts, .txs, .comps, .log, .shift, .units, .logWatch, .alarms] s t)

/-- R146: what start-up does with a stored delivery: one in PRE_GAUGE is cancelled without a record and its
commitment released; one in RECEIVING or DRAINING takes the stop cause POWER_LOSS, is credited from its stored
volume and recorded with the post-gauge absent; and one in POST_GAUGE is recorded so with its stop cause and credit
as stored. The clock-unset flag is set where the clock is unset, as it is after a power-on (assumption 47). -/
def DeliveryLost (s t : State) : Prop :=
  (s.store.delivery = none → t = s) ∧
  (∀ d, s.store.delivery = some d →
    (d.state = .preGauge → t.store.delivery = none ∧
      t.store.log = { s.store.log with commitments := s.store.log.commitments - 1 } ∧ LogWatched s t ∧
      OtherAlarms [.logNearFull] s t ∧ OnlyIn [.delivery, .log, .logWatch, .alarms] s t) ∧
    (d.state = .receiving ∨ d.state = .draining →
      DeliveryRecorded { d with
        cause := some .powerLoss, final := some (d.volume.gross / 1000, d.volume.net / 1000),
        finish := some s.clock.time, unset := d.unset || s.clock.unset } none s t ∧
      t.comp d.comp = { s.comp d.comp with
        book := (s.comp d.comp).book + (d.volume.net / 1000 : Nat)
        delivered := (s.comp d.comp).delivered + (d.volume.net / 1000 : Nat)
        gauging := { (s.comp d.comp).gauging with stale := true } } ∧
      OtherComp d.comp s t ∧ LowStockWatched d.comp s t ∧ (∀ c, c ≠ d.comp → t.unit c = s.unit c) ∧
      OtherAlarms [.lowStock d.comp, .logNearFull] s t ∧
      OnlyIn [.delivery, .inlet, .meters, .comps, .units, .log, .logWatch, .alarms] s t) ∧
    (d.state = .postGauge → DeliveryRecorded { d with unset := d.unset || s.clock.unset } none s t ∧ OtherAlarms [.logNearFull] s t ∧
      OnlyIn [.delivery, .log, .logWatch, .alarms] s t))

/-- R101, R117, R150, R151: `a` is the part once start-up from `s`, with the clock at `clock`, has closed what was
interrupted: with the commitments recounted, the alarm table cleared and the watches armed, the fills of H1, H2 and
H3 are closed in that order, and then the delivery. -/
def OperationsClosed (clock : Stamp) (s a : State) : Prop :=
  ∃ s₀ s₁ s₂ s₃, s₀.store = { s.store with
      log := { s.store.log with commitments :=
        (if s.store.txs.h1.isSome then 1 else 0) + (if s.store.txs.h2.isSome then 1 else 0) +
          (if s.store.txs.h3.isSome then 1 else 0) + (if s.store.delivery.isSome then 1 else 0) } } ∧
    s₀.clock = clock ∧ s₀.alarms = [] ∧ s₀.logWatch.armed = true ∧ (∀ c, (s₀.unit c).armed = true) ∧
    FillLost .h1 s₀ s₁ ∧ FillLost .h2 s₁ s₂ ∧ FillLost .h3 s₂ s₃ ∧ DeliveryLost s₃ a

/-- R41, R45: an entry after an update for it: EMPTY, or with the fields written and what it has used, holds reserved
and was last filled as it stood, or as a new entry's where it was EMPTY. -/
def updatedEntry (e : Option MachineEntry) (u : Update) : Option MachineEntry :=
  u.contents.map fun f =>
    match e with
    | some m => { m with fields := f }
    | none => ⟨f, ⟨0, 0⟩, ⟨0, 0⟩, none⟩

/-- R46, R101, R117, R127, R150: what start-up leaves in the store once what was interrupted is closed, as in `a`:
the queued updates are applied to their entries in queue order and the queue is empty, every last gauging is STALE,
and the two watches are evaluated once more. -/
def StoreStarted (a t : State) : Prop :=
  (∀ k, t.machine k =
    (a.store.queue.filter (fun u => decide (u.entry = k))).foldl updatedEntry (a.machine k)) ∧
  (∀ c, t.comp c = { a.comp c with gauging := { (a.comp c).gauging with stale := true } }) ∧
  t.store = { a.store with
    machines := t.store.machines, queue := [], comps := t.store.comps, txs := .all none,
    delivery := none } ∧
  LogWatched a t ∧ (∀ c, LowStockWatched c a t)

/-- R101, R127, R133, R146, R151, R173, R175, section 12.2: the part after a start-up from `s` with the clock
at `clock`. -/
def StartedUp (clock : Stamp) (s t : State) : Prop :=
  t.power = .on ∧ t.clock = clock ∧ t.inputs = s.inputs ∧ t.pending = s.pending ∧ t.line = s.line ∧
    t.handed = [] ∧
    OnlyIn [.machines, .queue, .accounts, .txs, .comps, .delivery, .log, .shift, .clock, .channels,
      .hoses, .meters, .sources, .pumps, .units, .inlet, .logWatch, .guard, .park, .link, .alarms,
      .power, .handed] s t ∧
    (∃ a, OperationsClosed clock s a ∧ StoreStarted a t) ∧
    (∀ h, t.channel h = Channel.started ∧ t.tx h = none ∧
      t.hose h = HoseCtl.atRest
        (if (s.config h).enabled then
          (if s.inputs.lifted.get h then .refused .rehang else .idle) else .blocked)) ∧
    (∀ m, t.meter m = MeterCtl.started) ∧ (∀ p, t.source p = Source.started) ∧
    (∀ c, t.pump c = .off ∧ (t.unit c).run = .idle ∧ (t.unit c).level = none ∧
      (t.comp c).gauging.stale = true) ∧
    t.store.delivery = none ∧ t.store.queue = [] ∧ t.store.log.commitments = 0 ∧
    s.store.log.records <+: t.store.log.records ∧ t.logWatch.kept = none ∧ t.inlet = Inlet.started ∧
    t.park = Park.started ∧ t.link = Link.started ∧ t.guard.window = .stopped ∧
    t.guard.check = .running 60 ∧
    (t.guard.fault = true ↔ Config.checkFunction s.store.cal.set ≠ s.store.cal.check) ∧
    ((tableFind t.alarms Alarm.metrologyFault.row).isSome = t.guard.fault ∧
      (tableFind t.alarms Alarm.emergency.row).isSome = s.inputs.emergency ∧
      (∀ c, (tableFind t.alarms (Alarm.overfill c).row).isSome = s.inputs.overfill.get c) ∧
      (tableFind t.alarms Alarm.sealOpen.row).isSome = s.inputs.sealOpen ∧
      (∀ k, k ∉ [Alarm.metrologyFault, .emergency, .overfill .c1, .overfill .c2, .sealOpen, .logNearFull,
        .lowStock .c1, .lowStock .c2].map Alarm.row → tableFind t.alarms k = none))

/-- R19, R37, R52, R114, R127, R148, R160: what a start-up leaves of a store that holds no interrupted operation:
every account, the shift, the records with the next number, and each compartment but for STALE; and, with an empty
queue too, every entry. -/
def StoreStands (s t : State) : Prop :=
  (∀ k, t.account k = s.account k) ∧ t.store.shift = s.store.shift ∧
    t.store.log.records = s.store.log.records ∧ t.store.log.nextSeq = s.store.log.nextSeq ∧
    (∀ c, t.comp c = { s.comp c with gauging := { (s.comp c).gauging with stale := true } }) ∧
    (s.store.queue = [] → ∀ k, t.machine k = s.machine k)

/-! ## The laws of the device -/

/-- R115: for each compartment, the book is the opening book plus delivered, less dispensed, plus
adjustments. -/
def BookLaw (s : State) : Prop :=
  ∀ c, (s.comp c).book =
    (s.comp c).opening + (s.comp c).delivered - (s.comp c).dispensed + (s.comp c).adjustments

/-- R78: a hose valve is open only while the hose is FLOWING. -/
def ValveLaw (s : State) : Prop := ∀ h, (s.hose h).valve ≠ .closed → (s.hose h).state = .flowing

/-- R133: the inlet valve is open only while a delivery is RECEIVING. -/
def InletLaw (s : State) : Prop :=
  s.inlet.valveOpen = true → s.store.delivery.map Delivery.state = some .receiving

/-- R103: a pump is RUNNING only while a hose of its compartment is FLOWING, the compartment is NORMAL and
the emergency stop is inactive. -/
def PumpLaw (s : State) : Prop :=
  s.power = .on → ∀ c, (s.pump c).isRunning = true →
    (∃ h, compOf h = c ∧ (s.hose h).state = .flowing) ∧ (s.comp c).inhibit = none ∧
      s.inputs.emergency = false

/-- R62: no entry is held by two hoses of the same product. -/
def HoldLaw (s : State) : Prop :=
  ∀ g h k, g ≠ h → productOf g = productOf h → holding s g = some k → holding s h ≠ some k

/-- R134, with IDENTIFYING: no delivery into a compartment is open while a hose of the compartment is in
IDENTIFYING, AWAITING, FLOWING, PAUSED or DRAINING. -/
def DeliveryLaw (s : State) : Prop :=
  s.power = .on → ∀ h, s.store.delivery.map Delivery.comp = some (compOf h) →
    (s.hose h).state.stoppable = false

/-- R148: sequence numbers strictly increase from oldest to newest, and are below the next one. -/
def SequenceLaw (s : State) : Prop :=
  (s.store.log.records.map Record.seq).Pairwise (· < ·) ∧
    ∀ r ∈ s.store.log.records, r.seq < s.store.log.nextSeq

/-- R42, R57, R76: a hose has a transaction context exactly while it is FLOWING, PAUSED or DRAINING (while
the part has power; a context outlives a loss of power). -/
def ContextLaw (s : State) : Prop :=
  s.power ≠ .off → ∀ h, (s.tx h).isSome = (s.hose h).state.isFilling

/-- R147, R151: the commitments are those of the stored contexts, and with the records they do not exceed
the log's slots. -/
def CapacityLaw (s : State) : Prop :=
  s.store.log.commitments = contextCount s.store ∧
    s.store.log.records.length + s.store.log.commitments ≤ 1024

/-- The reservation of a hose's transaction, 0 where it has none. -/
def reservationOf (s : State) (h : Hose) : Nat := ((s.tx h).map Transaction.reservation).getD 0

/-- R116: the reservations of a compartment are the sum of R over the transactions of its hoses. -/
def ReservationLaw (s : State) : Prop :=
  (s.comp .c1).reservations = reservationOf s .h1 + reservationOf s .h2 ∧
    (s.comp .c2).reservations = reservationOf s .h3

/-- The sum, over the transactions of the hoses of a product, of the reservations of those that are taken by
`f` to `k`. -/
def reservedOver (f : Transaction → Nat) (k : Nat) (p : Product) (s : State) : Nat :=
  ((allHoses.filter fun h => decide (productOf h = p ∧ (s.tx h).map f = some k)).map (reservationOf s)).sum

/-- R41: what an entry holds reserved for a product is the sum of R over the transactions of that product on
it, and no transaction of a positive R is on an EMPTY entry. -/
def EntryReservationLaw (s : State) : Prop :=
  ∀ k p, ((s.machine k).map fun m => m.reserved.get p).getD 0 = reservedOver Transaction.machine k p s

/-- R52: what an account holds reserved for a product is the sum of R over the transactions of that product
charged to it, and no transaction of a positive R is charged to an EMPTY account. -/
def AccountReservationLaw (s : State) : Prop :=
  ∀ k p, ((s.account k).map fun a => a.reserved.get p).getD 0 = reservedOver Transaction.account k p s

/-- R47, R54: every entry, and every WRITE that waits in the queue, names an account that is not EMPTY. -/
def NamingLaw (s : State) : Prop :=
  (∀ k m, s.machine k = some m → (s.account m.fields.account).isSome) ∧
    ∀ u ∈ s.store.queue, ∀ f, u.contents = some f → (s.account f.account).isSome

/-- R91, R111, R112: a transaction on a NORMAL compartment has a net of at most its R, and no overrun noted. -/
def OverrunLaw (s : State) : Prop :=
  ∀ h tx, s.tx h = some tx → (s.comp (compOf h)).inhibit = none →
    tx.volume.net / 1000 ≤ tx.reservation ∧ tx.overrunNoted = false

/-- R116: while a compartment is NORMAL, its reservations do not exceed the larger of its book and 0. -/
def StockLaw (s : State) : Prop :=
  ∀ c, (s.comp c).inhibit = none → ((s.comp c).reservations : Int) ≤ max (s.comp c).book 0

/-- R39: an entry's tags are those of its current contents together with those of its pending WRITE. -/
def TagOf (s : State) (k : Nat) (id : TagId) : Prop :=
  (∃ m, (k, m) ∈ s.store.machines ∧ (carries m.fields id).isSome) ∨
    ∃ u ∈ s.store.queue, u.entry = k ∧ ∃ f, u.contents = some f ∧ (carries f id).isSome

/-- R39: no tag ID appears in more than one entry. -/
def TagLaw (s : State) : Prop := ∀ j k id, TagOf s j id → TagOf s k id → j = k

/-- R43: the queue holds at most one update for each entry, updates only for entries that are held (while the
part has power: a queue outlives a loss of power, and the start-up empties it), and never more than 16. -/
def QueueLaw (s : State) : Prop :=
  (s.store.queue.map Update.entry).Nodup ∧
    (s.power ≠ .off → ∀ u ∈ s.store.queue, held s u.entry = true) ∧ s.store.queue.length ≤ 16

/-- R167: a calibration window is OPEN only while the seal switch is OPEN. -/
def WindowLaw (s : State) : Prop :=
  s.power = .on → s.guard.windowOpen = true → s.inputs.sealOpen = true

/-- R170: the trail holds entries numbered consecutively, ending at the audit counter: the last 32, or all
while there are fewer. -/
def TrailLaw (s : State) : Prop :=
  s.store.cal.trail.map AuditEntry.number =
    List.range' (s.store.cal.audits + 1 - min s.store.cal.audits 32) (min s.store.cal.audits 32)

end Sys2Proof.Machine
end

