-- ==== Sys2Proof/Certificates/Slice0/Obligations.lean ====
section
/-! DEFINITION. The statements for the provers. -/

open Sys2Proof Sys2Proof.Machine

/-! ## The queue and the line -/

/-- The command at the front of the queue runs, with the rest of the queue behind it. On an empty queue the
receiver takes the next byte of the line, and where none has arrived the part idles. The queues of commands
and of bytes are the model's own (assumptions 10, 13 and 36). -/
def Obligations.StepTakesTheFrontCommand : Prop :=
  ∀ s : State,
    (∀ (c : Instr) (rest : List Instr), s.pending = c :: rest → step s = exec c (s.setPending rest)) ∧
    (∀ (b : LineByte) (rest : List LineByte), s.pending = [] → s.line = b :: rest →
      step s = takeByte b (s.setLine rest)) ∧
    (s.pending = [] → s.line = [] → step s = .next s)

/-- Every command of the table completes, and none touches the commands or the bytes that wait. R185 to R188
give each telegram an answer, a refusal telegram or a count. That an input, a tag event, an expiry or a
result completes in every state is inferred from its own rules (assumption 37), and the queues are the
model's own (assumptions 10, 13 and 36). -/
def Obligations.CommandsCompleteAndKeepTheQueue : Prop :=
  ∀ (c : Instr) (s : State), ∃ t, exec c s = .next t ∧ t.pending = s.pending ∧ t.line = s.line

/-- R195, SITE STATUS. The numbers of the named sets follow the manual's listing order (assumption 15). -/
def Obligations.SiteStatusReportsTheSite : Prop :=
  ∀ (tag : SeqTag) (s : State), Ready s →
    exec (.siteStatus tag []) s = .next (answered tag 1
      [.code s.park.state.code, .code 0, .time s.clock.time, .flag s.clock.unset,
       .code (s.hose .h1).state.code, .code (s.hose .h2).state.code, .code (s.hose .h3).state.code,
       .code (s.pump .c1).code, .code (s.pump .c2).code,
       .code (if (s.comp .c1).inhibit.isSome then 1 else 0), .volume (s.comp .c1).book,
       .volume (s.comp .c1).reservations,
       .code (if (s.comp .c2).inhibit.isSome then 1 else 0), .volume (s.comp .c2).book,
       .volume (s.comp .c2).reservations,
       .code (deliveryCode (s.store.delivery.map Delivery.state)),
       .code (if s.guard.fault then 1 else 0), .count s.alarms.length,
       .code (if alertActive s then 0 else 1)] s)

/-- R113, R145, R157, R183, R196: EQUIPMENT STATUS, DELIVERY STATUS, LOG STATUS, PARK STATUS and SETTINGS
READ answer with the state as it stands and change nothing but the link. The layout of each answer is the
model's reading of its table (assumptions 15 to 17). -/
def Obligations.StatusRequestsChangeNothing : Prop :=
  ∀ (tag : SeqTag) (s : State), Ready s →
    exec (.equipmentStatus tag []) s = .next (answered tag 48 (equipmentFields s) s) ∧
    exec (.deliveryStatus tag []) s = .next (answered tag 72 (deliveryFields s) s) ∧
    exec (.logStatus tag []) s = .next (answered tag 80 (logStatusFields s) s) ∧
    exec (.parkStatus tag []) s = .next (answered tag 104 (parkFields s) s) ∧
    exec (.settingsRead tag []) s = .next (answered tag 4
      [.count s.store.site.linkTimeout, .volume s.store.site.offlineCap,
       .count2 s.store.site.watchInterval, .volume s.store.site.theftThreshold] s)

/-- R190, R192, R193: ALARMS answers the first ten pending rows in their order with the flag of more and clears
them; a raise marks its row and changes nothing else; LINK COUNTERS answers the counters with its own frame
counted and sets all six to 0. -/
def Obligations.AlarmsAndCountersAreReadAndCleared : Prop :=
  (∀ (tag : SeqTag) (s : State), Ready s →
       exec (.alarms tag []) s = .next (replied (.answer tag 2
         (.count (min 10 s.alarms.length) ::
           (s.alarms.take 10).flatMap (fun r =>
             [.count r.1, .count2 r.2.count, .time r.2.first.time, .flag r.2.first.unset]) ++
           [.flag (decide (10 < s.alarms.length))]))
         ((heard s).setAlarms (s.alarms.drop 10)))) ∧
  (∀ (a : Alarm) (s : State), OnlyIn [.alarms] s (raiseAlarm a s) ∧
       (∀ k, k ≠ a.row → tableFind (raiseAlarm a s).alarms k = tableFind s.alarms k) ∧
       tableFind (raiseAlarm a s).alarms a.row = some
         (match tableFind s.alarms a.row with
          | none => { count := 1, first := s.clock }
          | some r => { count := min (r.count + 1) 255, first := r.first })) ∧
  (∀ (tag : SeqTag) (s : State), Ready s →
       exec (.linkCounters tag []) s = .next (replied (.answer tag 3
         [.wide (min (s.link.counters.good + 1) 65535), .wide s.link.counters.checkFailures,
          .wide s.link.counters.broken, .wide s.link.counters.byteErrors,
          .wide s.link.counters.overlaps, .wide s.link.counters.unknownFormat, .code 0,
          .count s.store.site.linkTimeout])
         ((heard s).setLink { (heard s).link with counters := ⟨0, 0, 0, 0, 0, 0⟩ })))

/-- R196, SETTINGS WRITE: four values in range replace the settings, and a link timeout of OFF stops the
watchdog; values outside their range are refused with RANGE. The answer carries no field (assumption
39). -/
def Obligations.SettingsWriteReplacesTheSettings : Prop :=
  ∀ (tag : SeqTag) (body : List Septet) (o : SiteOperands) (s : State), Ready s →
    parseSettingsWrite body = some o →
    (o.linkTimeout ∈ [0, 5, 15, 30, 60] ∧ 10000 ≤ o.offlineCap ∧ o.offlineCap ≤ 1000000 ∧
        10 ≤ o.watchInterval ∧ o.watchInterval ≤ 240 ∧ 5000 ≤ o.theftThreshold ∧
        o.theftThreshold ≤ 500000 →
      ∃ t, exec (.settingsWrite tag body) s = .next t ∧ OnlyIn [.site, .link] s t ∧
        t.store.site = ⟨o.linkTimeout, o.offlineCap.toNat, o.watchInterval, o.theftThreshold.toNat⟩ ∧
        t.link = { (heard s).link with
          sending := some (.answer tag 5 [])
          watchdog := if o.linkTimeout = 0 then .stopped else (heard s).link.watchdog }) ∧
    (¬ (o.linkTimeout ∈ [0, 5, 15, 30, 60] ∧ 10000 ≤ o.offlineCap ∧ o.offlineCap ≤ 1000000 ∧
        10 ≤ o.watchInterval ∧ o.watchInterval ≤ 240 ∧ 5000 ≤ o.theftThreshold ∧
        o.theftThreshold ≤ 500000) →
      exec (.settingsWrite tag body) s = .next (refused tag .range 5 s))

/-- R197, RESTART and the end of its answer (ANSWER SENT): accepted with every hose IDLE, REFUSED or
BLOCKED and no delivery open, answered with the clock, followed by a start-up that keeps the clock when
the answer has gone out. Every other answer's end leaves the part not sending and changes nothing else.
From the acceptance to the start-up, and without power, no pulse, reading, tag frame, report, result or
expiry has an effect, and a discrete input takes its level alone; the clock advances until the start-up and
stands without power, where the line brings nothing either. R197 gives this up to the start-up; that it
holds without power too is inferred (assumption 11). -/
def Obligations.RestartFollowsItsAnswer : Prop :=
  (∀ (tag : SeqTag) (s : State), Ready s →
    ((∀ h, (s.hose h).state.resting = true) ∧ s.store.delivery = none →
      exec (.restart tag []) s = .next (replied
        (.answer tag 6 [.time s.clock.time, .flag s.clock.unset]) ((heard s).setPower .restarting))) ∧
    (¬ ((∀ h, (s.hose h).state.resting = true) ∧ s.store.delivery = none) →
      exec (.restart tag []) s = .next (refused tag .state 6 s))) ∧
  (∀ (r : Reply) (s : State), s.link.sending = some r →
    (s.power = .restarting → ∃ t, exec .answerSent s = .next t ∧ StartedUp s.clock s t) ∧
    (s.power = .on → exec .answerSent s = .next (s.setLink { s.link with sending := none }))) ∧
  (∀ s : State, s.power ≠ .on →
    (∀ c, rowKind c = .running → exec c s = .next s) ∧
    (∀ h, exec (.nozzleLift h) s =
        .next (s.setInputs { s.inputs with lifted := s.inputs.lifted.set h true }) ∧
      exec (.nozzleHang h) s =
        .next (s.setInputs { s.inputs with lifted := s.inputs.lifted.set h false })) ∧
    (∀ c, exec (.overfillSwitchActive c) s =
        .next (s.setInputs { s.inputs with overfill := s.inputs.overfill.set c true }) ∧
      exec (.overfillSwitchInactive c) s =
        .next (s.setInputs { s.inputs with overfill := s.inputs.overfill.set c false })) ∧
    exec .emergencyStopActive s = .next (s.setInputs { s.inputs with emergency := true }) ∧
    exec .emergencyStopInactive s = .next (s.setInputs { s.inputs with emergency := false }) ∧
    exec .sealSwitchOpen s = .next (s.setInputs { s.inputs with sealOpen := true }) ∧
    exec .sealSwitchClosed s = .next (s.setInputs { s.inputs with sealOpen := false }) ∧
    (s.power = .restarting → exec .siteClockTick s =
      .next (s.setClock { s.clock with time := min (s.clock.time + 1) 34359738367 })) ∧
    (s.power = .off → exec .siteClockTick s = .next s ∧
      (∀ c, rowKind c = .request ∨ rowKind c = .line → exec c s = .next s) ∧
      (∀ b, takeByte b s = .next s)))

/-- LOSS OF POWER and START UP. R19: a loss of power completes and leaves the store. That the volatile blocks then
stand at their start-up values, with the hoses at rest, the clock at 0 and unset and the guard and the inlet at rest,
and that the input levels stand, is the model's choice (assumption 28). R46, R101, R117, R127, R133, R146, R150,
R151: at power-on every block takes its start-up value, each stored transaction is closed with a POWER_LOSS record
and its charge in the order H1, H2, H3, a stored delivery is cancelled, or credited and recorded, the queued updates
are applied in queue order, and the watches are evaluated. The order of what start-up does after the closes is
inferred (assumption 27), and so is that the clock-unset flag is set for a delivery lost in POST_GAUGE too
(assumption 47). With no stored context the accounts, the shift, the records and the compartments but for STALE
stand, and with an empty queue the entries too. -/
def Obligations.PowerLossAndStartUpKeepTheStore : Prop :=
  (∀ s : State, ∃ t, exec .lossOfPower s = .next t ∧ t.store = s.store ∧ t.inputs = s.inputs ∧
       t.power = .off ∧ t.clock = ⟨0, true⟩ ∧ t.alarms = [] ∧ t.handed = [] ∧ t.link = Link.started ∧
       t.inlet = Inlet.started ∧ t.park = Park.started ∧ t.logWatch = LogWatch.started ∧
       (∀ h, t.hose h = HoseCtl.atRest .idle ∧ t.channel h = Channel.started) ∧
       (∀ c, t.pump c = .off ∧ t.unit c = CompUnit.started) ∧
       (∀ m, t.meter m = MeterCtl.started) ∧ (∀ p, t.source p = Source.started) ∧
       t.guard.window = .stopped ∧ t.guard.check = .stopped ∧ t.guard.fault = false) ∧
  (∀ s : State, ∃ t, exec .startUp s = .next t ∧ StartedUp ⟨0, true⟩ s t ∧
       ((∀ h, s.tx h = none) → s.store.delivery = none → StoreStands s t))

/-- The state at reset has the store as shipped (R37, R43, R52, R114, R133, R164, R196) and meets the laws that
the commands keep. That it is the part after its first power-on start-up, so that START UP changes nothing in
it, is the model's choice (assumption 2), and so are the levels of the inputs (assumption 1). -/
def Obligations.ResetMeetsTheLaws : Prop :=
  State.reset.store = Store.shipped ∧ State.reset.clock = ⟨0, true⟩ ∧
    exec .startUp State.reset = .next State.reset ∧ BookLaw State.reset ∧ ValveLaw State.reset ∧
    InletLaw State.reset ∧ PumpLaw State.reset ∧ HoldLaw State.reset ∧ DeliveryLaw State.reset ∧
    SequenceLaw State.reset ∧ ContextLaw State.reset ∧ CapacityLaw State.reset ∧
    ReservationLaw State.reset ∧ EntryReservationLaw State.reset ∧
    AccountReservationLaw State.reset ∧ NamingLaw State.reset ∧ OverrunLaw State.reset ∧
    StockLaw State.reset ∧ TagLaw State.reset ∧ QueueLaw State.reset ∧ WindowLaw State.reset ∧
    TrailLaw State.reset

/-- R185, R186, R187 step 4: what the line brings that is not a request. CHECK: a failing frame is counted
and refused with the byte it carries, whatever the park state, and the link state, the watchdog and the
park do not change. OVERLAP: a frame completed while the part sends is counted. BROKEN FRAME and BYTE
ERROR are counted, and a new lead begins the next frame. None of these three is answered. UNKNOWN: a frame
of a code outside the table is refused and counted. Every frame completed while the part sends is an
overlap, be it a request, of an unknown code, failing its check, of a wrong class or one that would wake the
part (R186 test 1), and so is every frame between an accepted RESTART and its start-up (R197). That such a
row has the effect of OVERLAP is inferred (assumptions 11 and 14). -/
def Obligations.FaultyFramesAreCounted : Prop :=
  (∀ s : State, s.power ≠ .off →
       (∀ tag code, s.link.sending = none →
         exec (.check tag code) s = .next (replied (.refusal tag .check code) (s.setLink { s.link with
           assembly := .hunt
           counters := { s.link.counters with
             checkFailures := min (s.link.counters.checkFailures + 1) 65535 } }))) ∧
       exec .overlap s = .next (s.setLink { s.link with
         assembly := .hunt
         counters := { s.link.counters with overlaps := min (s.link.counters.overlaps + 1) 65535 } }) ∧
       (∀ lead, exec (.brokenFrame (.newLead lead)) s = .next (s.setLink { s.link with
         assembly := .length lead
         counters := { s.link.counters with broken := min (s.link.counters.broken + 1) 65535 } })) ∧
       exec (.brokenFrame .badLength) s = .next (s.setLink { s.link with
         assembly := .hunt
         counters := { s.link.counters with broken := min (s.link.counters.broken + 1) 65535 } }) ∧
       (s.link.sending = none → exec (.brokenFrame .wrongClass) s = .next (s.setLink { s.link with
         assembly := .hunt
         counters := { s.link.counters with broken := min (s.link.counters.broken + 1) 65535 } })) ∧
       exec .byteError s = .next (s.setLink { s.link with
         assembly := .hunt
         counters := { s.link.counters with byteErrors := min (s.link.counters.byteErrors + 1) 65535 } }) ∧
       (s.link.sending ≠ none →
         (∀ tag code, exec (.check tag code) s = exec .overlap s) ∧
           exec (.brokenFrame .wrongClass) s = exec .overlap s) ∧
       (s.power = .restarting ∨ s.link.sending ≠ none →
         (∀ c, isRequest c = true → exec c s = exec .overlap s) ∧
         (∀ tag code, exec (.unknown tag code) s = exec .overlap s ∧
           (s.park.state = .parked → exec (.waking tag code) s = exec .overlap s)))) ∧
  (∀ (tag : SeqTag) (code : Septet) (s : State), Ready s →
       exec (.unknown tag code) s = .next (refusedCounted tag .unknown code s))

/-- R181, R187 step 2, WAKING: a valid frame at a PARKED part is counted and refused with WAKING, the park
becomes WAKING with its confirm timer at 10 s, and the link state and the watchdog stand. A request, or a
frame of an unknown code, at a WAKING part is taken as by the same part made ACTIVE with the outcome
FRAME. -/
def Obligations.ParkedPartWakesByFrames : Prop :=
  ∀ s : State, s.power = .on → s.link.sending = none →
    (∀ tag code, s.park.state = .parked →
      exec (.waking tag code) s = .next (replied (.refusal tag .waking code)
        ((s.setLink { s.link with
          assembly := .hunt
          counters := { s.link.counters with good := min (s.link.counters.good + 1) 65535 } }).setPark
          { s.park with state := .waking, confirm := .running 10 }))) ∧
    (∀ c, isRequest c = true ∨ (∃ tag code, c = .unknown tag code) → s.park.state = .waking →
      exec c s = exec c (s.setPark { s.park with
        state := .active, watch := .stopped, confirm := .stopped, outcome := some .frame }))

/-- R188: a request that is refused leaves every part of the state but the link as it was. R187 step 5, R189:
a request whose body does not parse as its code's fields is refused with FORMAT and counted, and nothing
else changes; the last part of a STRAPPING WRITE whose joined operands do not parse is refused so too, and
its assembly is cleared. -/
def Obligations.RefusedRequestsLeaveTheState : Prop :=
  (∀ (c : Instr) (s t : State) (tag : SeqTag) (r : RefusalCode) (echo : Septet),
     isRequest c = true → Ready s → exec c s = .next t →
     t.link.sending = some (.refusal tag r echo) → OnlyIn [.link] s t) ∧
  (∀ (c : Instr) (code : Septet) (tag : SeqTag) (body : List Septet) (s : State), Ready s →
     requestForm c = some (code, tag, body) → bodyParses code.toNat body = false →
     exec c s = .next (refusedCounted tag .format code s)) ∧
  (∀ (tag : SeqTag) (part : Septet) (fragment : List Septet) (l : LongRequest) (s : State), Ready s →
     joinPart 60 part fragment s.link.longRequest = some l → parseStrapping l.got = none →
     exec (.strappingWrite tag (part :: 1 :: fragment)) s =
       .next (setLongRequest none (refusedCounted tag .format 60 s)))

/-- R184: a number laid out in seven-bit groups is read back, for every number that the groups can hold;
and so are signed values, volumes and texts. -/
def Obligations.FieldsAreReadBack : Prop :=
  ∀ rest : List Septet,
    (∀ k n, n < 128 ^ k → readGroups k 0 (groups k n ++ rest) = some (n, rest)) ∧
    (∀ i : Int, -1048576 ≤ i → i ≤ 1048575 →
      readSigned (Field.bytes (.signed i) ++ rest) = some (i, rest)) ∧
    (∀ i : Int, -17179869184 ≤ i → i ≤ 17179869183 →
      readVolume (Field.bytes (.volume i) ++ rest) = some (i, rest)) ∧
    (∀ t : Text, t.length ≤ 127 → readText (Field.bytes (.text t) ++ rest) = some (t, rest)) ∧
    (∀ id : TagId, readTag (Field.bytes (.tag id) ++ rest) = some (id.toNat, rest))

/-- R184 to R187: the bytes of a well-formed request, received by a part that is not sending and not
PARKED, leave the receiver in HUNT and bring exactly that request; where they wait on the line of a part
with no command queued, as many steps as there are bytes have the effect of that request. R185: what each
byte does at a powered part. A byte with bit 7 set begins a frame, and a partial frame before it is counted
as broken; another byte is discarded in HUNT, kept as a length of 1 to 100 (another length is counted as
broken), kept in the body and as the high check byte, and as the low check byte completes the frame. The
queue of bytes is the model's own (assumption 13). -/
def Obligations.TelegramsBringTheirRequest : Prop :=
  (∀ (c : Instr) (code : Septet) (tag : SeqTag) (body : List Septet) (s : State),
    requestForm c = some (code, tag, body) → c.wf = true → s.link.sending = none →
    s.park.state ≠ .parked →
    bytesCommand s (telegramOf 0 tag (code :: body)) = (.hunt, some c) ∧
    (∀ rest, s.power ≠ .off → s.link.assembly = .hunt → s.pending = [] →
      s.line = telegramOf 0 tag (code :: body) ++ rest →
      steps (telegramOf 0 tag (code :: body)).length s = exec c (s.setLine rest))) ∧
  (∀ (b : LineByte) (s : State), s.power ≠ .off →
    let low : Septet := BitVec.ofNat 7 b.toNat
    let keep (a : Assembly) : State := s.setLink { s.link with assembly := a }
    let broken (a : Assembly) : State := s.setLink { s.link with
      assembly := a
      counters := { s.link.counters with broken := min (s.link.counters.broken + 1) 65535 } }
    (128 ≤ b.toNat →
      (s.link.assembly = .hunt → takeByte b s = .next (keep (.length b))) ∧
      (s.link.assembly ≠ .hunt → takeByte b s = .next (broken (.length b)))) ∧
    (b.toNat < 128 →
      (s.link.assembly = .hunt → takeByte b s = .next s) ∧
      (∀ lead, s.link.assembly = .length lead →
        (1 ≤ b.toNat → b.toNat ≤ 100 → takeByte b s = .next (keep (.body lead b.toNat []))) ∧
        (b.toNat = 0 ∨ 100 < b.toNat → takeByte b s = .next (broken .hunt))) ∧
      (∀ lead len got, s.link.assembly = .body lead len got →
        (got.length + 1 ≠ len → takeByte b s = .next (keep (.body lead len (got ++ [low])))) ∧
        (got.length + 1 = len → takeByte b s = .next (keep (.checkHigh lead (got ++ [low]))))) ∧
      (∀ lead got, s.link.assembly = .checkHigh lead got →
        takeByte b s = .next (keep (.checkLow lead got low))) ∧
      (∀ lead got high, s.link.assembly = .checkLow lead got high →
        takeByte b s = exec (frameRow s ⟨lead, got, high, low⟩) s)))

/-- R189: the parts of a long answer carry their number, the number of parts and the content check, each
fragment has at most 95 bytes, the fragments in order are the full answer, and a part number that names no
part is refused with RANGE. That part 0 is refused is the model's choice (assumption 20). -/
def Obligations.LongAnswersAreCutIntoParts : Prop :=
  ∀ full : List Septet, ∃ fragment : Nat → List Septet,
    (∀ k, 1 ≤ k → k ≤ partCount full →
      answerPart full k = .ok [.count k, .count (partCount full), .count2 (byteSum full % 16384),
        .raw (fragment k)] ∧ (fragment k).length ≤ 95) ∧
    (List.range (partCount full)).flatMap (fun k => fragment (k + 1)) = full ∧
    (∀ k, k = 0 ∨ partCount full < k → answerPart full k = .error .range)

/-! ## Reads, the registry and the accounts -/

/-- R35, R97, R100: TAG CHANNEL READ and HOSE SETTINGS READ answer for a hose number of 1 to 3 and change
nothing; HOSE STATUS answers for it and clears the hose's two notices. R106, R116, R119, R130, R132: STOCK
STATUS, PUMP SETTINGS READ, TANK SETUP READ and GAUGE READ answer for a compartment number of 1 or 2 and change
nothing. Any other number is refused with RANGE. The layout of each answer is the model's reading (assumptions
15 to 17 and 42). -/
def Obligations.HoseAndCompartmentReadsAnswer : Prop :=
  (∀ (tag : SeqTag) (n : Septet) (s : State), Ready s →
       (∀ h, n.toNat = hoseNumber h →
         exec (.tagChannelRead tag [n]) s = .next (answered tag 8 (channelFields h s) s) ∧
         exec (.hoseSettingsRead tag [n]) s = .next (answered tag 44
           [.count2 (s.config h).identifyTime, .count2 (s.config h).approvalTime,
            .code (if (s.config h).approval then 0 else 1), .count2 (s.config h).holdPeriod,
            .volume (s.config h).minimumGrant, .volume (s.config h).overrunAllowance,
            .volume (s.config h).startVolume, .volume (s.config h).taperVolume,
            .count (s.config h).noFlowTime, .count (s.config h).resumeGrace,
            .flag (s.config h).enabled] s) ∧
         exec (.hoseStatus tag [n]) s = .next (replied (.answer tag 40 (hoseStatusFields h s))
           ((heard s).putHose h { s.hose h with nearEnd := false, completion := none }))) ∧
       (n.toNat = 0 ∨ 3 < n.toNat →
         exec (.tagChannelRead tag [n]) s = .next (refused tag .range 8 s) ∧
         exec (.hoseSettingsRead tag [n]) s = .next (refused tag .range 44 s) ∧
         exec (.hoseStatus tag [n]) s = .next (refused tag .range 40 s))) ∧
  (∀ (tag : SeqTag) (n : Septet) (s : State), Ready s →
       (∀ c, n.toNat = compNumber c →
         exec (.stockStatus tag [n]) s = .next (answered tag 56
           ([.volume (s.comp c).book, .volume (s.comp c).opening, .volume (s.comp c).delivered,
             .volume (s.comp c).dispensed, .volume (s.comp c).adjustments,
             .volume (s.comp c).reservations,
             .volume ((s.comp c).book - (s.comp c).reserveLevel - (s.comp c).reservations),
             .volume (s.comp c).reserveLevel, .volume (s.comp c).lowStock, .flag (s.unit c).armed,
             .code (if (s.comp c).inhibit.isSome then 1 else 0)] ++
             match (s.unit c).level with
             | some level => [.present, .wide level]
             | none => [.absent]) s)) ∧
       (n.toNat = 0 ∨ 2 < n.toNat → exec (.stockStatus tag [n]) s = .next (refused tag .range 56 s))) ∧
  (∀ (tag : SeqTag) (n : Septet) (s : State), Ready s →
       (∀ c, n.toNat = compNumber c →
         exec (.pumpSettingsRead tag [n]) s = .next (answered tag 49
           [.count (s.store.pumpConfigs.get c).maxRun, .count2 (s.store.pumpConfigs.get c).restTime] s) ∧
         exec (.tankSetupRead tag [n]) s = .next (answered tag 57
           [.volume (s.comp c).capacity, .volume (s.comp c).reserveLevel, .volume (s.comp c).lowStock,
            .wide (s.comp c).cutoff, .count (s.comp c).window] s) ∧
         exec (.gaugeRead tag [n]) s = .next (answered tag 62 (gaugeReadFields c s) s)) ∧
       (n.toNat = 0 ∨ 2 < n.toNat →
         exec (.pumpSettingsRead tag [n]) s = .next (refused tag .range 49 s) ∧
         exec (.tankSetupRead tag [n]) s = .next (refused tag .range 57 s) ∧
         exec (.gaugeRead tag [n]) s = .next (refused tag .range 62 s)))

/-- R49 to R51, R55, R120, R163, R189: MACHINE FIND, MACHINE LIST, ACCOUNT READ, SHIFT TOTALS, MACHINE
READ and STRAPPING READ change nothing. MACHINE FIND answers from the current contents before the pending
ones and refuses a tag of neither with NOT_FOUND; SHIFT TOTALS refuses an EMPTY account with NOT_FOUND;
the two long reads answer with the part asked for of the full answer formed at the request. The layout of
each answer is the model's reading (assumptions 15 to 18). -/
def Obligations.RegistryReadsAnswer : Prop :=
  (∀ (tag : SeqTag) (body : List Septet) (n : Nat) (s : State), Ready s →
       (parseTag body = some n → n < 2 ^ 40 →
         (∀ r, findTag s.store.machines (BitVec.ofNat 40 n) = some r →
           exec (.machineFind tag body) s = .next (answered tag 19
             [.count2 r.1, .code (if r.2 = .diesel then 0 else 1), .code 0] s)) ∧
         (∀ r, findTag s.store.machines (BitVec.ofNat 40 n) = none →
           findPendingTag s.store.queue (BitVec.ofNat 40 n) = some r →
           exec (.machineFind tag body) s = .next (answered tag 19
             [.count2 r.1, .code (if r.2 = .diesel then 0 else 1), .code 1] s)) ∧
         (findTag s.store.machines (BitVec.ofNat 40 n) = none →
           findPendingTag s.store.queue (BitVec.ofNat 40 n) = none →
           exec (.machineFind tag body) s = .next (refused tag .notFound 19 s))) ∧
       (parseTag body = some n → 2 ^ 40 ≤ n →
         exec (.machineFind tag body) s = .next (refused tag .range 19 s)) ∧
       (parseCount2 body = some n →
         (n ≤ 511 → exec (.machineList tag body) s = .next (answered tag 20 (machineListFields n s) s)) ∧
         (511 < n → exec (.machineList tag body) s = .next (refused tag .range 20 s))) ∧
       (parseCount body = some n →
         (n ≤ 63 → exec (.accountRead tag body) s = .next (answered tag 24 (accountReadFields n s) s)) ∧
         (63 < n → exec (.accountRead tag body) s = .next (refused tag .range 24 s)) ∧
         (∀ a, n ≤ 63 → s.account n = some a →
           exec (.shiftTotals tag body) s = .next (answered tag 90
             [.long s.store.shift.number, .time s.store.shift.opened.time,
              .flag s.store.shift.opened.unset, .count n, .volume a.used.diesel, .volume a.used.fluid,
              .money a.charged, .wide s.store.shift.fills.c1, .wide s.store.shift.fills.c2] s)) ∧
         (n ≤ 63 → s.account n = none →
           exec (.shiftTotals tag body) s = .next (refused tag .notFound 90 s)) ∧
         (63 < n → exec (.shiftTotals tag body) s = .next (refused tag .range 90 s)))) ∧
  (∀ (tag : SeqTag) (body : List Septet) (k : Nat) (part : Option Nat) (s : State), Ready s →
       (parseMachineRead body = some (k, part) → k ≤ 511 →
         (∀ fs, answerPart (fieldBytes (machineReadFields k s)) (part.getD 1) = .ok fs →
           exec (.machineRead tag body) s = .next (answered tag 16 fs s)) ∧
         (∀ r, answerPart (fieldBytes (machineReadFields k s)) (part.getD 1) = .error r →
           exec (.machineRead tag body) s = .next (refused tag .range 16 s))) ∧
       (∀ c, parseStrappingRead body = some (compNumber c, part) →
         (∀ fs, answerPart (fieldBytes (strappingFields (s.comp c).strapping)) (part.getD 1) = .ok fs →
           exec (.strappingRead tag body) s = .next (answered tag 59 fs s)) ∧
         (∀ r, answerPart (fieldBytes (strappingFields (s.comp c).strapping)) (part.getD 1) = .error r →
           exec (.strappingRead tag body) s = .next (refused tag .range 59 s))))

/-- R41, R44, R47, R48: MACHINE WRITE and MACHINE DELETE of an entry that no hose holds take effect at
once and keep what the entry has drawn; of a held entry they leave the entry and put the update into the
queue, in the place of the one that waits for the entry or at the tail; the other updates keep their
places. APPLIED is 0 and PENDING 1 (assumption 15). -/
def Obligations.RegistryWritesApplyOrQueue : Prop :=
  (∀ (tag : SeqTag) (body : List Septet) (s : State), Ready s →
       (∀ o, parseMachineWrite body = some o → o.inRange = true → sameTags o.fields = false →
         s.account o.account ≠ none → duplicateTag s o.index o.fields = false →
         queueBusy s o.index = false →
         (held s o.index = false → ∃ t, exec (.machineWrite tag body) s = .next t ∧
           OnlyIn [.machines, .link] s t ∧ (∀ j, j ≠ o.index → t.machine j = s.machine j) ∧
           t.machine o.index = some
             (match s.machine o.index with
              | some m => { m with fields := o.fields }
              | none => ⟨o.fields, ⟨0, 0⟩, ⟨0, 0⟩, none⟩) ∧
           replyOf t = some (.answer tag 17 [.count2 o.index, .code 0])) ∧
         (held s o.index = true → ∃ t, exec (.machineWrite tag body) s = .next t ∧
           OnlyIn [.queue, .link] s t ∧
           t.store.queue = enqueue ⟨o.index, some o.fields⟩ s.store.queue ∧
           replyOf t = some (.answer tag 17 [.count2 o.index, .code 1]))) ∧
       (∀ k, parseCount2 body = some k → k ≤ 511 → s.machine k ≠ none → queueBusy s k = false →
         (held s k = false → ∃ t, exec (.machineDelete tag body) s = .next t ∧
           OnlyIn [.machines, .link] s t ∧ (∀ j, j ≠ k → t.machine j = s.machine j) ∧
           t.machine k = none ∧ replyOf t = some (.answer tag 18 [.code 0])) ∧
         (held s k = true → ∃ t, exec (.machineDelete tag body) s = .next t ∧
           OnlyIn [.queue, .link] s t ∧ t.store.queue = enqueue ⟨k, none⟩ s.store.queue ∧
           replyOf t = some (.answer tag 18 [.code 1])))) ∧
  (∀ (u : Update) (q : List Update), (q.map Update.entry).Nodup →
       (enqueue u q).filter (fun v => decide (v.entry ≠ u.entry)) =
         q.filter (fun v => decide (v.entry ≠ u.entry)) ∧
       (enqueue u q).filter (fun v => decide (v.entry = u.entry)) = [u] ∧
       (enqueue u q).map Update.entry =
         (if u.entry ∈ q.map Update.entry then q.map Update.entry else q.map Update.entry ++ [u.entry]))

/-- R53, R54: ACCOUNT WRITE creates or replaces an account at once and keeps what it has used, holds
reserved and has been charged; ACCOUNT DELETE empties one that no entry and no pending write names and
that holds no reservation, and is refused with NOT_FOUND or STATE otherwise. APPLIED is 0 (assumption
15). -/
def Obligations.AccountWritesApplyAtOnce : Prop :=
  ∀ (tag : SeqTag) (body : List Septet) (s : State), Ready s →
    (∀ o, parseAccountWrite body = some o → o.inRange = true →
      ∃ t, exec (.accountWrite tag body) s = .next t ∧ OnlyIn [.accounts, .link] s t ∧
        (∀ j, j ≠ o.index → t.account j = s.account j) ∧
        t.account o.index = some
          (match s.account o.index with
           | some a => { a with fields := o.fields }
           | none => ⟨o.fields, ⟨0, 0⟩, ⟨0, 0⟩, 0⟩) ∧
        replyOf t = some (.answer tag 25 [.count o.index, .code 0])) ∧
    (∀ k, parseCount body = some k → k ≤ 63 →
      (s.account k = none → exec (.accountDelete tag body) s = .next (refused tag .notFound 26 s)) ∧
      (∀ a, s.account k = some a →
        accountNamed s k = true ∨ a.reserved.diesel ≠ 0 ∨ a.reserved.fluid ≠ 0 →
        exec (.accountDelete tag body) s = .next (refused tag .state 26 s)) ∧
      (∀ a, s.account k = some a → accountNamed s k = false → a.reserved = ⟨0, 0⟩ →
        ∃ t, exec (.accountDelete tag body) s = .next t ∧ OnlyIn [.accounts, .link] s t ∧
          (∀ j, j ≠ k → t.account j = s.account j) ∧ t.account k = none ∧
          replyOf t = some (.answer tag 26 [.code 0])))

/-- R39, R43, R62: no tag ID is in two entries; the queue holds at most one update for an entry, updates
only for entries that are held, and at most 16; and no entry is held by two hoses of one product. No command
breaks any of the three. -/
def Obligations.RegistryKeepsItsLaws : Prop :=
  ∀ s t : State, step s = .next t →
    (TagLaw s → TagLaw t) ∧ (QueueLaw s → QueueLaw t) ∧ (HoldLaw s → HoldLaw t)

/-! ## Identification and the grant -/

/-- R58, R178, R182, NOZZLE LIFT: a lift first ends a park; a hose in IDLE then enters IDENTIFYING with its
timer and its channel searching, unless a site condition holds, tested in the order of R58: then it is
REFUSED with the reason and its channel stays as it was. A hose in another state does not change. A lift in PARKING
cancels the park, withdraws its baselines and leaves no result of theirs to be taken; that results handed over stand
in a list until taken is the model's choice (assumptions 5 and 43). -/
def Obligations.LiftStartsIdentification : Prop :=
  (∀ (h : Hose) (s : State), s.power = .on → s.inputs.lifted.get h = false →
       ∃ t, exec (.nozzleLift h) s = .next t ∧
         OnlyIn [.hoses, .channels, .inputs, .park, .units, .handed] s t ∧
         t.inputs = { s.inputs with lifted := s.inputs.lifted.set h true } ∧
         OtherHoses h s t ∧ OtherChannels h s t ∧
         t.park.state = .active ∧ (s.park.state = .active → t.park = s.park ∧ t.units = s.units) ∧
         (s.park.state = .parking → ParkCancelled .cancelled s t) ∧
         (s.park.state ≠ .parking → t.handed = s.handed) ∧
         (s.park.state = .parked ∨ s.park.state = .waking → t.park.outcome = some .lift) ∧
         ((s.hose h).state ≠ .idle → t.hoses = s.hoses ∧ t.channels = s.channels) ∧
         ((s.hose h).state = .idle →
           (∀ r, siteCondition h s = some r → HoseRefused h r s t ∧ t.channels = s.channels) ∧
           (siteCondition h s = none →
             t.hose h = { s.hose h with
               state := .identifying, identify := .running (s.config h).identifyTime } ∧
             t.channel h = { s.channel h with state := .searching, run := 0, hold := .stopped }))) ∧
  (∀ (h : Hose) (s : State),
       (s.inputs.emergency = true → siteCondition h s = some .emergency) ∧
       (s.inputs.emergency = false →
         (s.guard.fault = true → siteCondition h s = some .metrology) ∧
         (s.guard.fault = false →
           (s.store.delivery.map Delivery.comp = some (compOf h) →
             siteCondition h s = some .deliveryOpen) ∧
           (s.store.delivery.map Delivery.comp ≠ some (compOf h) →
             ((s.comp (compOf h)).inhibit ≠ none → siteCondition h s = some .inhibited) ∧
             ((s.comp (compOf h)).inhibit = none →
               (∀ n, s.pump (compOf h) = .resting n → siteCondition h s = some .pumpResting) ∧
               ((∀ n, s.pump (compOf h) ≠ .resting n) → siteCondition h s = none))))))

/-- R60, R61, R63, CONFIRMED: a hose in IDENTIFYING takes the first refusal that fits the entry the tag
finds; an entry that passes is noted in AWAITING where the link is ONLINE and the approval setting is ON,
and is refused with NO_LINK where the link is OFFLINE and the entry is not permitted offline. The reports that wait
to be taken are a list of the model's own (assumption 5). -/
def Obligations.ConfirmedTagIsLookedUp : Prop :=
  ∀ (h : Hose) (id : TagId) (s : State), s.power = .on → (s.hose h).state = .identifying →
    (findTag s.store.machines id = none → ∃ t, exec (.confirmed h id) s = .next t ∧
      HoseRefused h .unknownTag s t ∧ OnlyIn [.hoses, .handed] s t) ∧
    (∀ k p m, findTag s.store.machines id = some (k, p) → s.machine k = some m →
      (p ≠ productOf h → ∃ t, exec (.confirmed h id) s = .next t ∧
        HoseRefused h .wrongProduct s t ∧ OnlyIn [.hoses, .handed] s t) ∧
      (p = productOf h →
        (m.fields.suspended = true → ∃ t, exec (.confirmed h id) s = .next t ∧
          HoseRefused h .machineSuspended s t ∧ OnlyIn [.hoses, .handed] s t) ∧
        (m.fields.suspended = false →
          (∀ a, s.account m.fields.account = some a →
            (a.fields.suspended = true → ∃ t, exec (.confirmed h id) s = .next t ∧
              HoseRefused h .accountSuspended s t ∧ OnlyIn [.hoses, .handed] s t) ∧
            (a.fields.suspended = false →
              (heldByOther s h k = true → ∃ t, exec (.confirmed h id) s = .next t ∧
                HoseRefused h .alreadyFilling s t ∧ OnlyIn [.hoses, .handed] s t) ∧
              (heldByOther s h k = false → s.link.online = false → m.fields.offline = false →
                ∃ t, exec (.confirmed h id) s = .next t ∧
                  HoseRefused h .noLink s t ∧ OnlyIn [.hoses, .handed] s t) ∧
              (heldByOther s h k = false → s.link.online = true → (s.config h).approval = true →
                ∃ t, exec (.confirmed h id) s = .next t ∧
                  t.hose h = { s.hose h with
                    state := .awaiting k id, identify := .stopped,
                    approval := .running (s.config h).approvalTime } ∧
                  OtherHoses h s t ∧ OnlyIn [.hoses, .handed] s t))))))

/-- R72, R73: the limit of a grant is the least of the fill ceiling, the preset, the machine's max fill, the
offline cap, and each headroom less the overrun allowance, over the terms that are present. R74: a limit of zero
or less is refused. R65, R68, R76, R184: a grant that APPROVE or AUTHORISE makes is answered with the hose, its
state, the limit granted and the reservation. The optional parts of that answer are the model's reading
(assumption 16), and so are the number of the hose (assumption 17) and the code of the state (assumption
15). -/
def Obligations.LimitIsTheLeastBound : Prop :=
  (∀ (g : GrantRequest) (m : MachineEntry) (s : State),
    let p := productOf g.hose
    let a := ((s.config g.hose).overrunAllowance : Int)
    let bounds : List Int := [2000000] ++ g.preset.toList ++
      ((m.fields.maxFill.get p).map Int.ofNat).toList ++
      (if g.offline then [(s.store.site.offlineCap : Int)] else []) ++
      [(s.comp (compOf g.hose)).book - (s.comp (compOf g.hose)).reserveLevel -
        (s.comp (compOf g.hose)).reservations - a] ++
      ((m.fields.allowance.get p).map fun x =>
        (x : Int) - m.used.get p - m.reserved.get p - a).toList ++
      (((s.account m.fields.account).bind fun c => (c.fields.budget.get p).map fun x =>
        (x : Int) - c.used.get p - c.reserved.get p - a)).toList
    (∀ b ∈ bounds, limitOf g m s ≤ b) ∧ limitOf g m s ∈ bounds ∧
      (limitOf g m s ≤ 0 → 0 < (s.config g.hose).minimumGrant → grantRefusal g m s ≠ none)) ∧
  (∀ (h : Hose) (k : Nat) (m : MachineEntry) (tag : SeqTag) (body : List Septet)
     (preset : Option Int) (s t : State), Ready s → s.machine k = some m →
     (t.hose h).state = .flowing →
     let shown (code : Septet) (g : GrantRequest) : Prop :=
       ∃ tx, t.tx h = some tx ∧ (tx.limit : Int) = limitOf g m s ∧
         replyOf t = some (.answer tag code [.count (hoseNumber h), .code 5, .present,
           .volume tx.limit, .present, .volume tx.reservation, .absent])
     (∀ id, parseApprove body = some (hoseNumber h, preset) → (s.hose h).state = .awaiting k id →
       exec (.approve tag body) s = .next t → shown 32 ⟨h, k, some id, preset, false⟩) ∧
     (parseAuthorise body = some (hoseNumber h, k, preset) → (s.hose h).state = .identifying →
       exec (.authorise tag body) s = .next t → shown 34 ⟨h, k, none, preset, false⟩))

/-- R63, R65, R68, R71 to R76, R150: a report of a tag whose entry passes its tests (approval OFF, or the link
OFFLINE with the entry permitted offline), an APPROVE of a hose in AWAITING, and an AUTHORISE of a hose in
IDENTIFYING each open a fill when the grant finds no reason to refuse, and the two requests are answered
with the limit and the reservation. The optional parts of the answers are the model's reading (assumption
16), and the reports that wait to be taken are a list of its own (assumption 5). -/
def Obligations.GrantsOpenFills : Prop :=
  ∀ (h : Hose) (k : Nat) (m : MachineEntry) (s : State), s.machine k = some m →
    (∀ id, s.power = .on → (s.hose h).state = .identifying →
      findTag s.store.machines id = some (k, productOf h) → entryRefusal h k m s = none →
      (s.link.online = true → (s.config h).approval = false →
        grantRefusal ⟨h, k, some id, none, false⟩ m s = none →
        0 < limitOf ⟨h, k, some id, none, false⟩ m s →
        ∃ t, exec (.confirmed h id) s = .next t ∧ FillOpened ⟨h, k, some id, none, false⟩ m s t ∧
          OnlyIn (.handed :: fillParts) s t) ∧
      (s.link.online = false → m.fields.offline = true →
        grantRefusal ⟨h, k, some id, none, true⟩ m s = none →
        0 < limitOf ⟨h, k, some id, none, true⟩ m s →
        ∃ t, exec (.confirmed h id) s = .next t ∧ FillOpened ⟨h, k, some id, none, true⟩ m s t ∧
          OnlyIn (.handed :: fillParts) s t)) ∧
    (∀ tag body preset, Ready s →
      (preset = none ∨ ∃ x, preset = some x ∧ 1 ≤ x ∧ x ≤ 2000000) →
      (∀ id, parseApprove body = some (hoseNumber h, preset) → (s.hose h).state = .awaiting k id →
        grantRefusal ⟨h, k, some id, preset, false⟩ m s = none →
        0 < limitOf ⟨h, k, some id, preset, false⟩ m s →
        ∃ t r, exec (.approve tag body) s = .next t ∧
          FillOpened ⟨h, k, some id, preset, false⟩ m s t ∧ OnlyIn (.link :: fillParts) s t ∧
          replyOf t = some (.answer tag 32 [.count (hoseNumber h), .code 5, .present,
            .volume (limitOf ⟨h, k, some id, preset, false⟩ m s), .present, .volume r, .absent]) ∧
          r = limitOf ⟨h, k, some id, preset, false⟩ m s + (s.config h).overrunAllowance) ∧
      (parseAuthorise body = some (hoseNumber h, k, preset) → k ≤ 511 →
        (s.hose h).state = .identifying → s.link.online = true → otherProductOnly h m = false →
        entryRefusal h k m s = none → grantRefusal ⟨h, k, none, preset, false⟩ m s = none →
        0 < limitOf ⟨h, k, none, preset, false⟩ m s →
        ∃ t r, exec (.authorise tag body) s = .next t ∧
          FillOpened ⟨h, k, none, preset, false⟩ m s t ∧ OnlyIn (.link :: fillParts) s t ∧
          replyOf t = some (.answer tag 34 [.count (hoseNumber h), .code 5, .present,
            .volume (limitOf ⟨h, k, none, preset, false⟩ m s), .present, .volume r, .absent]) ∧
          r = limitOf ⟨h, k, none, preset, false⟩ m s + (s.config h).overrunAllowance))

/-- R61, R65, R68, R70, R71, R74: a grant is refused with the reason of the first check that fails: the site
conditions, LOG_FULL, and a limit below the minimum grant with the headroom that falls short. Whether an APPROVE, an
AUTHORISE or the report of a confirmed tag asked for it, the hose is then REFUSED with the reason and no fill is
opened; an APPROVE ends the hold of its hose on the entry; and AUTHORISE's own tests of the entry come before the
grant's. The optional parts of the answers are the model's reading (assumption 16), and the reports that wait to be
taken are a list of its own (assumption 5). -/
def Obligations.GrantsAreRefusedByTheirFirstCheck : Prop :=
  (∀ (g : GrantRequest) (m : MachineEntry) (s : State),
    let least := ((s.config g.hose).minimumGrant : Int) + (s.config g.hose).overrunAllowance
    let account := accountHeadroom (accountOf s m.fields.account) (productOf g.hose)
    let machine := machineHeadroom m (productOf g.hose)
    (∀ r, siteCondition g.hose s = some r → grantRefusal g m s = some r) ∧
    (siteCondition g.hose s = none → canCommit s = false → grantRefusal g m s = some .logFull) ∧
    (siteCondition g.hose s = none → canCommit s = true →
      ((s.config g.hose).minimumGrant ≤ limitOf g m s → grantRefusal g m s = none) ∧
      (limitOf g m s < (s.config g.hose).minimumGrant →
        (available (s.comp (compOf g.hose)) < least → grantRefusal g m s = some .noStock) ∧
        (least ≤ available (s.comp (compOf g.hose)) →
          ((∃ x, account = some x ∧ x < least) → grantRefusal g m s = some .noBudget) ∧
          ((∀ x, account = some x → least ≤ x) →
            ((∃ x, machine = some x ∧ x < least) → grantRefusal g m s = some .noAllowance) ∧
            ((∀ x, machine = some x → least ≤ x) → grantRefusal g m s = some .belowMinimum)))))) ∧
  (∀ (h : Hose) (k : Nat) (m : MachineEntry) (r : Reason) (s : State), s.machine k = some m →
    (∀ id tag body preset, Ready s → parseApprove body = some (hoseNumber h, preset) →
      (preset = none ∨ ∃ x, preset = some x ∧ 1 ≤ x ∧ x ≤ 2000000) →
      (s.hose h).state = .awaiting k id → grantRefusal ⟨h, k, some id, preset, false⟩ m s = some r →
      RefusedApproval h k r tag body s) ∧
    (∀ id, s.power = .on → (s.hose h).state = .identifying →
      findTag s.store.machines id = some (k, productOf h) → entryRefusal h k m s = none →
      (s.link.online = true ∧ (s.config h).approval = false ∧
          grantRefusal ⟨h, k, some id, none, false⟩ m s = some r) ∨
        (s.link.online = false ∧ m.fields.offline = true ∧
          grantRefusal ⟨h, k, some id, none, true⟩ m s = some r) →
      ∃ t, exec (.confirmed h id) s = .next t ∧ HoseRefused h r s t ∧ OnlyIn [.hoses, .handed] s t) ∧
    (∀ tag body preset, Ready s → parseAuthorise body = some (hoseNumber h, k, preset) → k ≤ 511 →
      (preset = none ∨ ∃ x, preset = some x ∧ 1 ≤ x ∧ x ≤ 2000000) →
      (s.hose h).state = .identifying → s.link.online = true →
      (m.fields.tags.get (productOf h) = none → (∃ p, m.fields.tags.get p ≠ none) →
        RefusedAuthorisation h .wrongProduct tag body s) ∧
      ((m.fields.tags.get (productOf h) ≠ none ∨ ∀ p, m.fields.tags.get p = none) →
        (m.fields.suspended = true → RefusedAuthorisation h .machineSuspended tag body s) ∧
        (m.fields.suspended = false → ∀ a, s.account m.fields.account = some a →
          (a.fields.suspended = true → RefusedAuthorisation h .accountSuspended tag body s) ∧
          (a.fields.suspended = false →
            (heldByOther s h k = true → RefusedAuthorisation h .alreadyFilling tag body s) ∧
            (heldByOther s h k = false → grantRefusal ⟨h, k, none, preset, false⟩ m s = some r →
              RefusedAuthorisation h r tag body s))))))

/-- R42, R45, R60, R66, R67, R87: DECLINE in AWAITING and STOP in IDENTIFYING or AWAITING refuse the hose with
DECLINED, the identify timer's expiry with IDENTIFY_TIMEOUT and the approval timer's with APPROVAL_TIMEOUT.
Where DECLINE, STOP or the approval timer ends the last hold on an entry, its pending update is applied and
leaves the queue. -/
def Obligations.WaitingHosesAreRefused : Prop :=
  ∀ (h : Hose) (s : State),
    (∀ tag n, Ready s → n.toNat = hoseNumber h →
      (∀ k id, (s.hose h).state = .awaiting k id →
        (∃ t, exec (.decline tag [n]) s = .next t ∧
          HoseRefused h .declined s t ∧ HoldEnded h k s t ∧ OnlyIn [.hoses, .machines, .queue, .link] s t ∧
          replyOf t = some (.answer tag 33 [.count (hoseNumber h)])) ∧
        (∃ t, exec (.stop tag [n]) s = .next t ∧
          HoseRefused h .declined s t ∧ HoldEnded h k s t ∧ OnlyIn [.hoses, .machines, .queue, .link] s t ∧
          replyOf t = some (.answer tag 41 [.count (hoseNumber h), .code 3]))) ∧
      ((s.hose h).state.isAwaiting = false →
        exec (.decline tag [n]) s = .next (refused tag .state 33 s)) ∧
      ((s.hose h).state = .identifying → ∃ t, exec (.stop tag [n]) s = .next t ∧
        HoseRefused h .declined s t ∧ OnlyIn [.hoses, .link] s t ∧
        replyOf t = some (.answer tag 41 [.count (hoseNumber h), .code 3]))) ∧
    (s.power = .on → (s.hose h).state = .identifying → (∃ n, (s.hose h).identify = .running n) →
      ∃ t, exec (.identifyTimerExpiry h) s = .next t ∧
        HoseRefused h .identifyTimeout s t ∧ OnlyIn [.hoses] s t) ∧
    (∀ k id, s.power = .on → (s.hose h).state = .awaiting k id →
      (∃ n, (s.hose h).approval = .running n) →
      ∃ t, exec (.approvalTimerExpiry h) s = .next t ∧
        HoseRefused h .approvalTimeout s t ∧ HoldEnded h k s t ∧ OnlyIn [.hoses, .machines, .queue] s t)

/-- R67, R191, WATCHDOG EXPIRY: the link goes OFFLINE and the watchdog STOPPED. Each hose in AWAITING is then
taken, one after the other: a hose whose entry is not permitted offline is refused with NO_LINK, whatever the
other hoses do, and one whose entry is permitted has its grant tested as it stands at its turn. No hose on an
entry is left in AWAITING, a hose in another state keeps it, and with no hose in AWAITING nothing else changes.
The order of the hoses is an operand (assumption 9). -/
def Obligations.WatchdogDropsTheLink : Prop :=
  ∀ (order : HoseOrder) (n : Nat) (s : State), s.power = .on → s.link.watchdog = .running n →
    ∃ t, exec (.watchdogExpiry order) s = .next t ∧
      t.link = { s.link with online := false, watchdog := .stopped } ∧
      (∀ x y z, hosesInOrder order = [x, y, z] → ∃ a b,
        LinkDropped x (s.setLink { s.link with online := false, watchdog := .stopped }) a ∧
        LinkDropped y a b ∧ LinkDropped z b t) ∧
      (∀ h, h ∈ hosesInOrder order) ∧
      ((∀ h, (s.hose h).state.isAwaiting = false) → OnlyIn [.link] s t) ∧
      (∀ h, (s.hose h).state.isAwaiting = false → t.hose h = s.hose h) ∧
      (∀ h k id m, (s.hose h).state = .awaiting k id → s.machine k = some m →
        (t.hose h).state.isAwaiting = false ∧
        (m.fields.offline = false → t.hose h = { s.hose h with
          state := .refused .noLink, identify := .stopped, approval := .stopped }) ∧
        ((∀ g, g ≠ h → (s.hose g).state.isAwaiting = false) →
          (m.fields.offline = false → HoseRefused h .noLink s t) ∧
          (m.fields.offline = true → grantRefusal ⟨h, k, some id, none, true⟩ m s = none →
            0 < limitOf ⟨h, k, some id, none, true⟩ m s →
            FillOpened ⟨h, k, some id, none, true⟩ m s t)))

/-! ## Hose operation -/

/-- R82 to R88: NOZZLE HANG and STOP in FLOWING or PAUSED, the no-flow timer in FLOWING, LOST with a grace of
0 and CHANGED in FLOWING on a tag transaction, and CONFIRMED of another tag and the grace timer in PAUSED
each shut the valve and send the hose to DRAINING with their cause, unless one is set already. R34, R69: on a
MANUAL transaction CONFIRMED, LOST and CHANGED have no use, and neither have they in AWAITING, DRAINING, FINISHED,
REFUSED, IDLE and BLOCKED, nor CONFIRMED in FLOWING, nor LOST and CHANGED in IDENTIFYING and PAUSED. The reports
that wait to be taken are a list of the model's own (assumption 5). -/
def Obligations.StopEventsDrainTheHose : Prop :=
  ∀ (h : Hose) (s : State),
    ((s.hose h).state = .flowing ∨ (s.hose h).state = .paused →
      (s.power = .on → s.inputs.lifted.get h = true → ∃ t, exec (.nozzleHang h) s = .next t ∧
        FillStopped h .hungUp s t ∧ OtherChannels h s t ∧
        t.channel h = { s.channel h with state := .off, run := 0, hold := .stopped } ∧
        OnlyIn (.inputs :: .channels :: stopParts) s t) ∧
      (∀ tag n, Ready s → n.toNat = hoseNumber h → ∃ t, exec (.stop tag [n]) s = .next t ∧
        FillStopped h .hostStop s t ∧ OnlyIn (.link :: stopParts) s t ∧
        replyOf t = some (.answer tag 41 [.count (hoseNumber h), .code 7]))) ∧
    (s.power = .on → (s.hose h).state = .flowing →
      ((∃ n, (s.hose h).noFlow = .running n) → ∃ t, exec (.noFlowTimerExpiry h) s = .next t ∧
        FillStopped h .noFlow s t ∧ OnlyIn stopParts s t) ∧
      (∀ tx, s.tx h = some tx → tx.manual = false →
        ((s.config h).resumeGrace = 0 → ∃ t, exec (.lost h) s = .next t ∧
          FillStopped h .tagLost s t ∧ OnlyIn (.handed :: stopParts) s t) ∧
        (∀ id, ∃ t, exec (.changed h id) s = .next t ∧
          FillStopped h .tagChanged s t ∧ OnlyIn (.handed :: stopParts) s t))) ∧
    (s.power = .on → (s.hose h).state = .paused →
      ((∃ n, (s.hose h).grace = .running n) → ∃ t, exec (.resumeGraceTimerExpiry h) s = .next t ∧
        FillStopped h .tagLost s t ∧ OnlyIn stopParts s t) ∧
      (∀ tx id, s.tx h = some tx → tx.manual = false → tx.tag ≠ some id →
        ∃ t, exec (.confirmed h id) s = .next t ∧
          FillStopped h .tagChanged s t ∧ OnlyIn (.handed :: stopParts) s t)) ∧
    (∀ id, s.power = .on →
      ((∃ tx, s.tx h = some tx ∧ tx.manual = true ∧
            ((s.hose h).state = .flowing ∨ (s.hose h).state = .paused)) ∨
          (s.hose h).state.stoppable = false ∨ (s.hose h).state.isAwaiting = true ∨
          (s.hose h).state = .draining →
        NoUse (.confirmed h id) s ∧ NoUse (.lost h) s ∧ NoUse (.changed h id) s) ∧
      ((s.hose h).state = .flowing → NoUse (.confirmed h id) s) ∧
      ((s.hose h).state = .identifying ∨ (s.hose h).state = .paused →
        NoUse (.lost h) s ∧ NoUse (.changed h id) s))

/-- R45, R60, R64, R70, R86, R87, R94: NOZZLE HANG elsewhere: a hose in IDENTIFYING, AWAITING, REFUSED or
FINISHED becomes IDLE and its channel goes OFF, and a hose that leaves AWAITING so ends its hold; a DRAINING
hose stays DRAINING with its channel OFF, and a hose in IDLE or BLOCKED does not change. R87: STOP of a
DRAINING hose is answered and changes nothing, and STOP of a hose in IDLE, REFUSED, BLOCKED or FINISHED is
refused with STATE. -/
def Obligations.HangsOutsideAFill : Prop :=
  ∀ (h : Hose) (s : State),
    (s.power = .on → s.inputs.lifted.get h = true →
      ((s.hose h).state = .identifying ∨ (s.hose h).state.isAwaiting = true ∨
          (∃ r, (s.hose h).state = .refused r) ∨ (s.hose h).state = .finished →
        ∃ t, exec (.nozzleHang h) s = .next t ∧
          t.hose h = { s.hose h with state := .idle, identify := .stopped, approval := .stopped } ∧
          OtherHoses h s t ∧ OtherChannels h s t ∧
          t.channel h = { s.channel h with state := .off, run := 0, hold := .stopped } ∧
          t.inputs.lifted = s.inputs.lifted.set h false ∧
          OnlyIn [.inputs, .hoses, .channels, .machines, .queue] s t) ∧
      (∀ k id, (s.hose h).state = .awaiting k id →
        ∃ t, exec (.nozzleHang h) s = .next t ∧ HoldEnded h k s t) ∧
      ((s.hose h).state = .draining → ∃ t, exec (.nozzleHang h) s = .next t ∧ OtherChannels h s t ∧
        t.channel h = { s.channel h with state := .off, run := 0, hold := .stopped } ∧
        t.inputs.lifted = s.inputs.lifted.set h false ∧ OnlyIn [.inputs, .channels] s t) ∧
      ((s.hose h).state = .idle ∨ (s.hose h).state = .blocked → exec (.nozzleHang h) s =
        .next (s.setInputs { s.inputs with lifted := s.inputs.lifted.set h false }))) ∧
    (∀ tag n, Ready s → n.toNat = hoseNumber h →
      ((s.hose h).state = .draining → exec (.stop tag [n]) s =
        .next (answered tag 41 [.count (hoseNumber h), .code 7] s)) ∧
      ((s.hose h).state.stoppable = false → exec (.stop tag [n]) s =
        .next (refused tag .state 41 s)))

/-- R81 to R84, LOST and CONFIRMED: with a grace above 0 the loss of the tag pauses the fill, with the
valve shut and the no-flow timer frozen; the tag's return resumes it in band 1, with the grace timer
stopped and one pause more, at the stage its volume gives below the limit. The reports that wait to be taken are a
list of the model's own (assumption 5). -/
def Obligations.TagLossPausesAndTagReturnResumes : Prop :=
  ∀ (h : Hose) (tx : Transaction) (s : State), s.power = .on → s.tx h = some tx → tx.manual = false →
    (∀ n, (s.hose h).state = .flowing → (s.hose h).noFlow = .running n → 0 < (s.config h).resumeGrace →
      ∃ t, exec (.lost h) s = .next t ∧ OtherHoses h s t ∧ t.store = s.store ∧
        t.hose h = { s.hose h with
          state := .paused, valve := .closed, noFlow := .frozen n,
          grace := .running (s.config h).resumeGrace } ∧
        t.meter (meterOf h) = { s.meter (meterOf h) with acc := 0, interval := .stopped } ∧
        (∀ m, m ≠ meterOf h → t.meter m = s.meter m) ∧
        OnlyIn [.hoses, .meters, .pumps, .units, .handed] s t) ∧
    (∀ id n, (s.hose h).state = .paused → (s.hose h).noFlow = .frozen n → tx.tag = some id →
      tx.volume.net / 1000 < tx.limit →
      ∃ t, exec (.confirmed h id) s = .next t ∧ OtherHoses h s t ∧
        t.tx h = some { tx with pauses := min (tx.pauses + 1) 255 } ∧
        (∀ g, g ≠ h → t.tx g = s.tx g) ∧ (t.hose h).state = .flowing ∧
        (t.hose h).noFlow = .running n ∧ (t.hose h).grace = .stopped ∧
        (t.hose h).lowUntil = tx.volume.net / 1000 + (s.config h).startVolume ∧
        (t.hose h).stage =
          (if tx.limit ≤ tx.volume.net / 1000 + (s.config h).taperVolume then .taper
           else if 0 < (s.config h).startVolume then .start else .full) ∧
        (t.hose h).valve = (if (t.hose h).stage = .full then .high else .low) ∧
        t.meter (meterOf h) = { s.meter (meterOf h) with
          band := 1, acc := 0, interval := .running 1 } ∧
        OnlyIn [.hoses, .txs, .meters, .pumps, .units, .handed] s t)

/-- R15: a coefficient in range gives its VCF by the formula, rounded with halves away from zero, and every
VCF lies between 890,000 and 1,110,000 ppm (that a disturbed coefficient beyond its range gives a free value
within them is the model's choice, assumption 45). R3, R4: a counted pulse of factor `f` adds `f` to gross,
and net with its remainder accounts exactly for f × VCF, while the volumes stay within their limits. R7,
R16, R17, INTERVAL END: the flow rate is taken from the interval, the highest band whose lower bound it
reaches is chosen, the operation's VCF and flags are recomputed from the temperature source, and the next
interval begins. -/
def Obligations.CountingAndIntervalsKeepTheVolume : Prop :=
  (∀ (alpha : Nat) (temp : Int), -4000 ≤ temp → temp ≤ 7000 →
       890000 ≤ vcfOf alpha temp ∧ vcfOf alpha temp ≤ 1110000 ∧
       (alpha ≤ 2000 →
         (1500 ≤ temp → vcfOf alpha temp = 1000000 - ((alpha : Int) * (temp - 1500) + 50) / 100) ∧
         (temp < 1500 → vcfOf alpha temp = 1000000 + ((alpha : Int) * (1500 - temp) + 50) / 100))) ∧
  (∀ (f : Nat) (v : Volume), 0 ≤ v.vcf → v.gross + f ≤ 999999999999 →
       v.net + (f * v.vcf.toNat + v.remainder) / 1000000 ≤ 999999999999 →
       let w := countVolume f v
       w.gross = v.gross + f ∧ w.remainder < 1000000 ∧
         w.net * 1000000 + w.remainder = v.net * 1000000 + v.remainder + f * v.vcf.toNat ∧
         w.vcf = v.vcf ∧ w.vcfTemp = v.vcfTemp ∧ w.clamped = v.clamped ∧
         w.uncompensated = v.uncompensated) ∧
  (∀ (m : Meter) (n : Nat) (s : State), s.power = .on → (s.meter m).interval = .running n →
       (s.store.cal.set.bands.get m).head?.map Band.lower = some 0 →
       ∃ t k, exec (.intervalEnd m) s = .next t ∧ OnlyIn [.meters, .txs, .delivery] s t ∧
         t.meter m = { s.meter m with
           band := k, acc := 0, flow := (s.meter m).acc * 6 / 10000, interval := .running 1 } ∧
         (∀ g, g ≠ m → t.meter g = s.meter g) ∧
         1 ≤ k ∧ (∃ b, (s.store.cal.set.bands.get m)[k - 1]? = some b ∧
           b.lower ≤ (s.meter m).acc * 6 / 10000) ∧
         (∀ j b, k ≤ j → (s.store.cal.set.bands.get m)[j]? = some b →
           (s.meter m).acc * 6 / 10000 < b.lower) ∧
         (∀ h, (meterOf h = m → ∀ tx, s.tx h = some tx → ∃ v, t.tx h = some { tx with volume := v } ∧
             Recomputed (s.store.cal.set.alpha.get (compOf h)) (s.source (probeOf (compOf h)))
               tx.volume v) ∧
           (meterOf h ≠ m ∨ s.tx h = none → t.tx h = s.tx h)) ∧
         (m = .m4 → ∀ d, s.store.delivery = some d →
           ∃ v, t.store.delivery = some { d with volume := v } ∧
             Recomputed (s.store.cal.set.alpha.get d.comp) (s.source .p3) d.volume v) ∧
         (m ≠ .m4 → t.store.delivery = s.store.delivery))

/-- R1, R3, R79, R82, R85, R89, METER PULSE on a hose meter in band `b`, within the reservation: in FLOWING
below the limit it is counted, restarts the no-flow timer and sets the valve by the stage; in FLOWING at
the limit the fill stops with LIMIT; in DRAINING it is counted and restarts the drain quiet timer. -/
def Obligations.PulsesAreCountedIntoTheFill : Prop :=
  ∀ (h : Hose) (tx : Transaction) (b : Band) (s : State), s.power = .on → s.tx h = some tx →
    (s.store.cal.set.bands.get (meterOf h))[(s.meter (meterOf h)).band - 1]? = some b →
    (countVolume b.factor tx.volume).net / 1000 ≤ tx.reservation →
    ((s.hose h).state = .flowing → (countVolume b.factor tx.volume).net / 1000 < tx.limit →
      ∃ t, exec (.meterPulse (meterOf h)) s = .next t ∧ OtherHoses h s t ∧
        t.tx h = some { tx with volume := countVolume b.factor tx.volume } ∧
        (∀ g, g ≠ h → t.tx g = s.tx g) ∧
        (t.hose h).state = .flowing ∧ (t.hose h).noFlow = .running (s.config h).noFlowTime ∧
        (t.hose h).stage =
          (if tx.limit ≤ (countVolume b.factor tx.volume).net / 1000 + (s.config h).taperVolume then
            .taper
           else if (countVolume b.factor tx.volume).net / 1000 < (s.hose h).lowUntil then .start
           else .full) ∧
        (t.hose h).valve = (if (t.hose h).stage = .full then .high else .low) ∧
        ((t.hose h).stage = .taper → (s.hose h).nearEndGiven = false → (t.hose h).nearEnd = true) ∧
        t.meter (meterOf h) = { s.meter (meterOf h) with
          acc := min ((s.meter (meterOf h)).acc + b.factor) 999999999 } ∧
        OnlyIn [.hoses, .txs, .meters] s t) ∧
    ((s.hose h).state = .flowing → tx.limit ≤ (countVolume b.factor tx.volume).net / 1000 →
      ∃ t, exec (.meterPulse (meterOf h)) s = .next t ∧ OtherHoses h s t ∧
        t.tx h = some { tx with
          volume := countVolume b.factor tx.volume, cause := some (tx.cause.getD .limit) } ∧
        (t.hose h).state = .draining ∧ (t.hose h).valve = .closed ∧
        (t.hose h).quiet = .running 2 ∧ (t.hose h).cap = .running 15 ∧ OnlyIn stopParts s t) ∧
    ((s.hose h).state = .draining → ∃ t, exec (.meterPulse (meterOf h)) s = .next t ∧
      t.hose h = { s.hose h with quiet := .running 2 } ∧ OtherHoses h s t ∧
      t.tx h = some { tx with volume := countVolume b.factor tx.volume } ∧
      OnlyIn [.hoses, .txs, .meters] s t)

/-- R85, R91, R111: the first pulse that takes a fill's net above its reservation, in FLOWING or DRAINING,
sets the cause OVERRUN whatever it was, leaves the hose DRAINING and raises OVERRUN. A NORMAL compartment becomes
INHIBITED, whose other hoses stop with INHIBIT or are refused; one that is INHIBITED already keeps its first record
and its other hoses. The other compartment's hoses stand. -/
def Obligations.OverrunStopsAndInhibits : Prop :=
  ∀ (h : Hose) (tx : Transaction) (b : Band) (s : State), s.power = .on → s.tx h = some tx →
    (s.hose h).state = .flowing ∨ (s.hose h).state = .draining →
    (s.store.cal.set.bands.get (meterOf h))[(s.meter (meterOf h)).band - 1]? = some b →
    tx.reservation < (countVolume b.factor tx.volume).net / 1000 → tx.overrunNoted = false →
    ∃ t, exec (.meterPulse (meterOf h)) s = .next t ∧
      t.tx h = some { tx with
        volume := countVolume b.factor tx.volume, cause := some .overrun, overrunNoted := true } ∧
      (t.hose h).state = .draining ∧ (t.hose h).quiet = .running 2 ∧
      ((s.hose h).state = .flowing → (t.hose h).valve = .closed ∧ (t.hose h).cap = .running 15) ∧
      ((s.hose h).state = .draining → t.hose h = { s.hose h with quiet := .running 2 }) ∧
      t.alarms = (raiseAlarm (.overrun h) s).alarms ∧ OtherComp (compOf h) s t ∧
      ((s.comp (compOf h)).inhibit = none →
        t.comp (compOf h) = { s.comp (compOf h) with inhibit := some ⟨.overrun h, s.clock⟩ } ∧
        (t.pump (compOf h)).isRunning = false ∧
        (∀ g, g ≠ h → compOf g = compOf h →
          ((s.hose g).state = .flowing ∨ (s.hose g).state = .paused →
            (t.hose g).state = .draining ∧
            t.tx g = (s.tx g).map (fun x => { x with cause := some (x.cause.getD .inhibit) })) ∧
          ((s.hose g).state = .identifying ∨ (s.hose g).state.isAwaiting = true →
            (t.hose g).state = .refused .inhibited ∧ t.tx g = s.tx g) ∧
          ((s.hose g).state = .draining ∨ (s.hose g).state.stoppable = false →
            t.hose g = s.hose g ∧ t.tx g = s.tx g))) ∧
      ((s.comp (compOf h)).inhibit ≠ none → OtherHoses h s t ∧ (∀ g, g ≠ h → t.tx g = s.tx g) ∧
        OnlyIn (.alarms :: stopParts) s t) ∧
      (∀ g, compOf g ≠ compOf h → t.hose g = s.hose g ∧ t.tx g = s.tx g) ∧
      OnlyIn (.comps :: .machines :: .queue :: .alarms :: stopParts) s t

/-- R1, R59, R109, R111: a pulse on the meter of a hose that does not count is stray: it counts up, raises
LEAK and inhibits a NORMAL compartment, whose flowing and paused fills stop with INHIBIT and whose waiting
hoses are refused; no volume changes. -/
def Obligations.StrayPulsesInhibit : Prop :=
  ∀ (h : Hose) (s : State), s.power = .on → (s.hose h).state ≠ .flowing →
    (s.hose h).state ≠ .draining →
    ∃ t, exec (.meterPulse (meterOf h)) s = .next t ∧
      (t.meter (meterOf h)).strays = min ((s.meter (meterOf h)).strays + 1) 65535 ∧
      t.alarms = (raiseAlarm (.leak h) s).alarms ∧
      (∀ g, (t.tx g).map Transaction.volume = (s.tx g).map Transaction.volume) ∧
      OtherComp (compOf h) s t ∧
      ((s.comp (compOf h)).inhibit = none →
        t.comp (compOf h) = { s.comp (compOf h) with
          inhibit := some ⟨.strayPulse (meterOf h), s.clock⟩ } ∧
        (t.pump (compOf h)).isRunning = false ∧
        (∀ g, compOf g = compOf h →
          ((s.hose g).state = .flowing ∨ (s.hose g).state = .paused →
            (t.hose g).state = .draining ∧
            (t.tx g).map Transaction.cause =
              (s.tx g).map (fun tx => some (tx.cause.getD .inhibit))) ∧
          ((s.hose g).state = .identifying ∨ (s.hose g).state.isAwaiting = true →
            (t.hose g).state = .refused .inhibited))) ∧
      ((s.comp (compOf h)).inhibit ≠ none → OnlyIn [.meters, .alarms] s t) ∧
      (∀ g, compOf g ≠ compOf h → t.hose g = s.hose g)

/-- R41, R45, R52, R90, R92 to R95, R111, R115, R117, R150, HOSE DRAIN QUIET EXPIRY and HOSE DRAIN CAP EXPIRY: the
drain's end closes the fill: it charges the entry, the account and the compartment, records the fill,
latches the completion notice and, where it ends the last hold on the entry, applies the update that waits
for it; where the net is not 0 the low-stock watch is evaluated, and so is the near-full watch; the cap also sets
DRAIN_CUT, raises LEAK and inhibits the compartment. -/
def Obligations.DrainsCloseTheFill : Prop :=
  ∀ (h : Hose) (tx : Transaction) (s : State), s.power = .on → s.tx h = some tx →
    (s.hose h).state = .draining →
    ((∃ n, (s.hose h).quiet = .running n) →
      ∃ t, exec (.hoseDrainQuietExpiry h) s = .next t ∧ FillClosed h tx s t ∧
        (t.comp (compOf h)).inhibit = (s.comp (compOf h)).inhibit ∧
        OnlyIn [.hoses, .txs, .machines, .queue, .accounts, .comps, .log, .logWatch, .shift, .alarms,
          .meters, .pumps, .units] s t) ∧
    ((∃ n, (s.hose h).cap = .running n) →
      ∃ t, exec (.hoseDrainCapExpiry h) s = .next t ∧ FillCharged h { tx with drainCut := true } s t ∧
        tableFind t.alarms (Alarm.leak h).row =
          tableFind (raiseAlarm (.leak h) s).alarms (Alarm.leak h).row ∧
        OtherAlarms [.lowStock (compOf h), .logNearFull, .leak h] s t ∧
        ((s.comp (compOf h)).inhibit = none →
          (t.comp (compOf h)).inhibit = some ⟨.drainCut (meterOf h), s.clock⟩ ∧
          (∀ g, g ≠ h → compOf g = compOf h →
            ((s.hose g).state = .flowing ∨ (s.hose g).state = .paused →
              (t.hose g).state = .draining ∧ (t.tx g).map Transaction.cause =
                (s.tx g).map fun x => some (x.cause.getD .inhibit)) ∧
            ((s.hose g).state = .identifying ∨ (s.hose g).state.isAwaiting = true →
              (t.hose g).state = .refused .inhibited))) ∧
        ((s.comp (compOf h)).inhibit ≠ none →
          (t.comp (compOf h)).inhibit = (s.comp (compOf h)).inhibit ∧ OtherHoses h s t) ∧
        (∀ g, compOf g ≠ compOf h → t.hose g = s.hose g ∧ t.tx g = s.tx g) ∧
        OnlyIn [.hoses, .txs, .machines, .queue, .accounts, .comps, .log, .logWatch, .shift, .alarms,
          .meters, .pumps, .units] s t)

/-- R98 to R100: HOSE DISABLE of a hose in IDLE, REFUSED or BLOCKED blocks it and turns its channel OFF,
and is refused with BUSY otherwise; HOSE ENABLE returns a BLOCKED hose by its nozzle switch; HOSE SETTINGS
WRITE in range replaces the settings of a hose at rest and keeps its enabled setting. Approval is sent as
ON 0 or OFF 1 (assumption 15). -/
def Obligations.HoseServiceAndSettings : Prop :=
  ∀ (tag : SeqTag) (h : Hose) (s : State), Ready s →
    (∀ n : Septet, n.toNat = hoseNumber h →
      ((s.hose h).state.resting = true → ∃ t, exec (.hoseDisable tag [n]) s = .next t ∧
        t.hose h = { s.hose h with
          state := .blocked, identify := .stopped, approval := .stopped } ∧
        t.channel h = { s.channel h with state := .off, run := 0, hold := .stopped } ∧
        t.config h = { s.config h with enabled := false } ∧ OtherHoses h s t ∧
        OtherChannels h s t ∧ (∀ g, g ≠ h → t.config g = s.config g) ∧
        OnlyIn [.hoses, .channels, .hoseConfigs, .link] s t ∧
        replyOf t = some (.answer tag 43 [.count (hoseNumber h), .code 4])) ∧
      ((s.hose h).state.resting = false →
        exec (.hoseDisable tag [n]) s = .next (refused tag .busy 43 s)) ∧
      (∃ t, exec (.hoseEnable tag [n]) s = .next t ∧
        t.config h = { s.config h with enabled := true } ∧ OtherHoses h s t ∧
        (∀ g, g ≠ h → t.config g = s.config g) ∧
        (t.hose h).state = (if (s.hose h).state = .blocked then
          (if s.inputs.lifted.get h then .refused .rehang else .idle) else (s.hose h).state) ∧
        OnlyIn [.hoses, .hoseConfigs, .link] s t ∧
        replyOf t = some (.answer tag 42 [.count (hoseNumber h), .code (t.hose h).state.code]))) ∧
    (∀ body o, parseHoseSettings body = some o → o.hose = hoseNumber h →
      (o.inRange = true → (s.hose h).state.resting = true →
        ∃ t, exec (.hoseSettingsWrite tag body) s = .next t ∧
          t.config h = ⟨o.identifyTime, o.approvalTime, decide (o.approval = 0), o.holdPeriod,
            o.minimumGrant.toNat, o.overrunAllowance.toNat, o.startVolume.toNat,
            o.taperVolume.toNat, o.noFlowTime, o.resumeGrace, (s.config h).enabled⟩ ∧
          (∀ g, g ≠ h → t.config g = s.config g) ∧ OnlyIn [.hoseConfigs, .link] s t ∧
          replyOf t = some (.answer tag 45 [.count (hoseNumber h)])) ∧
      (o.inRange = true → (s.hose h).state.resting = false →
        exec (.hoseSettingsWrite tag body) s = .next (refused tag .busy 45 s)) ∧
      (o.inRange = false →
        exec (.hoseSettingsWrite tag body) s = .next (refused tag .range 45 s)))

/-- R42, R57, R76, R92, R147, R151: no command parts the transaction contexts from the hose states or from
the commitments of the log, or overfills the log. R41, R52, R116: what a compartment, an entry and an
account hold reserved stays the sum of R over their transactions. R47, R54: every entry and every pending
write names an account that is not EMPTY. R91, R112, R116: a transaction on a NORMAL compartment has a net
of at most its R, and the reservations of a NORMAL compartment stay at most the larger of its book and 0. -/
def Obligations.ContextsMatchTheirReservations : Prop :=
  ∀ s t : State, step s = .next t → ContextLaw s →
    (CapacityLaw s → ReservationLaw s → ContextLaw t ∧ CapacityLaw t ∧ ReservationLaw t) ∧
    (NamingLaw s → NamingLaw t) ∧
    (EntryReservationLaw s → EntryReservationLaw t) ∧
    (NamingLaw s → AccountReservationLaw s → AccountReservationLaw t) ∧
    (OverrunLaw s → OverrunLaw t) ∧
    (ReservationLaw s → OverrunLaw s → StockLaw s → StockLaw t)

/-! ## Pumps, the emergency stop and the inhibit -/

/-- R112: INHIBIT CLEAR returns an INHIBITED compartment with no hose engaged to NORMAL, discards its record and
does not start its pump; it is refused with RANGE for a number outside 1 to 2, with STATE in NORMAL and
with BUSY while a hose is engaged. R106: PUMP SETTINGS WRITE in range replaces the settings of a pump that
is OFF; RANGE and BUSY otherwise. -/
def Obligations.PumpSettingsAndInhibitClear : Prop :=
  ∀ (tag : SeqTag) (body : List Septet) (s : State), Ready s →
    (∀ n, parseCount body = some n → n = 0 ∨ 2 < n →
      exec (.inhibitClear tag body) s = .next (refused tag .range 51 s)) ∧
    (∀ c, parseCount body = some (compNumber c) →
      ((s.comp c).inhibit = none →
        exec (.inhibitClear tag body) s = .next (refused tag .state 51 s)) ∧
      ((s.comp c).inhibit ≠ none → (∀ h, compOf h = c → (s.hose h).state.stoppable = false) →
        ∃ t, exec (.inhibitClear tag body) s = .next t ∧
          t.comp c = { s.comp c with inhibit := none } ∧ OtherComp c s t ∧
          (t.pump c).isRunning = false ∧ (∀ n, s.pump c = .resting n → t.pump c = .resting n) ∧
          (∀ e, e ≠ c → t.pump e = s.pump e) ∧ OnlyIn [.comps, .pumps, .link] s t ∧
          replyOf t = some (.answer tag 51 [.count (compNumber c)])) ∧
      ((s.comp c).inhibit ≠ none → (∃ h, compOf h = c ∧ (s.hose h).state.stoppable = true) →
        exec (.inhibitClear tag body) s = .next (refused tag .busy 51 s))) ∧
    (∀ k run rest, parsePumpSettings body = some (k, run, rest) →
      (∀ c, k = compNumber c → 5 ≤ run ∧ run ≤ 60 ∧ 30 ≤ rest ∧ rest ≤ 600 →
        (s.pump c = .off → exec (.pumpSettingsWrite tag body) s =
          .next (replied (.answer tag 50 [.count (compNumber c)])
            ((heard s).setPumpConfigs (s.store.pumpConfigs.set c ⟨run, rest⟩)))) ∧
        (s.pump c ≠ .off → exec (.pumpSettingsWrite tag body) s = .next (refused tag .busy 50 s))) ∧
      (k = 0 ∨ 2 < k ∨ ¬ (5 ≤ run ∧ run ≤ 60 ∧ 30 ≤ rest ∧ rest ≤ 600) →
        exec (.pumpSettingsWrite tag body) s = .next (refused tag .range 50 s)))

/-- R107, R108, R178, R182, EMERGENCY STOP ACTIVE and INACTIVE: at the input's becoming active every flow stops with
EMERGENCY and every waiting hose is refused, no pump runs, a RECEIVING delivery's valve is shut with
EMERGENCY, the alarm is raised, and a park ends; at its becoming inactive the level alone changes, with no
hose FLOWING. In PARKING the park is cancelled, its baselines withdrawn and no result of theirs left to be taken;
that results handed over stand in a list until taken is the model's choice (assumptions 5 and 43). -/
def Obligations.EmergencyStopStopsEverything : Prop :=
  ∀ s : State, s.power = .on →
    (s.inputs.emergency = false → ∃ t, exec .emergencyStopActive s = .next t ∧
      t.inputs = { s.inputs with emergency := true } ∧ t.park.state = .active ∧
      (s.park.state = .parking → ParkCancelled .emergency s t) ∧
      (s.park.state = .parked ∨ s.park.state = .waking → t.park.outcome = some .emergency) ∧
      (s.park.state ≠ .parking → t.handed = s.handed) ∧
      (∀ c, (t.pump c).isRunning = false) ∧ (∀ c n, s.pump c = .resting n → t.pump c = .resting n) ∧
      (∀ h, (s.hose h).state = .flowing ∨ (s.hose h).state = .paused →
        (t.hose h).state = .draining ∧ (t.hose h).valve = .closed ∧
        (t.tx h).map Transaction.cause = (s.tx h).map fun tx => some (tx.cause.getD .emergency)) ∧
      (∀ h, (s.hose h).state = .identifying ∨ (s.hose h).state.isAwaiting = true →
        (t.hose h).state = .refused .emergency) ∧
      (∀ h, (s.hose h).state = .draining ∨ (s.hose h).state.resting = true ∨
        (s.hose h).state = .finished → t.hose h = s.hose h ∧ t.tx h = s.tx h) ∧
      (∀ d, s.store.delivery = some d → d.state = .receiving → t.inlet.valveOpen = false ∧
        t.store.delivery = some { d with state := .draining, cause := some .emergency }) ∧
      (∀ d, s.store.delivery = some d → d.state ≠ .receiving →
        t.store.delivery = s.store.delivery ∧ t.inlet = s.inlet) ∧
      (s.store.delivery = none → t.store.delivery = none ∧ t.inlet = s.inlet) ∧
      t.alarms = (raiseAlarm .emergency s).alarms) ∧
    (s.inputs.emergency = true → (∀ h, (s.hose h).state ≠ .flowing) →
      (∀ c, (s.pump c).isRunning = false) →
      exec .emergencyStopInactive s = .next (s.setInputs { s.inputs with emergency := false }))

/-- R104, R105, MAX RUN REACHED and REST TIMER EXPIRY: a running pump rests for its rest time, its
compartment's flows stop with PUMP_GUARD and waiting hoses are refused, and the alarm is raised; the end
of the rest leaves the pump OFF and nothing else changed. -/
def Obligations.RunGuardRestsThePump : Prop :=
  ∀ (c : Comp) (s : State), s.power = .on →
    (∀ n, s.pump c = .running n → ∃ t, exec (.maxRunReached c) s = .next t ∧
      t.pump c = .resting (s.store.pumpConfigs.get c).restTime ∧
      (∀ e, e ≠ c → t.pump e = s.pump e) ∧
      (∀ h, compOf h = c → (s.hose h).state = .flowing ∨ (s.hose h).state = .paused →
        (t.hose h).state = .draining ∧
        (t.tx h).map Transaction.cause = (s.tx h).map fun tx => some (tx.cause.getD .pumpGuard)) ∧
      (∀ h, compOf h = c → (s.hose h).state = .identifying ∨ (s.hose h).state.isAwaiting = true →
        (t.hose h).state = .refused .pumpResting) ∧
      (∀ h, compOf h ≠ c → t.hose h = s.hose h ∧ t.tx h = s.tx h) ∧
      t.alarms = (raiseAlarm (.pumpGuard c) s).alarms ∧
      OnlyIn (.machines :: .queue :: .alarms :: stopParts) s t) ∧
    (∀ n, s.pump c = .resting n →
      exec (.restTimerExpiry c) s = .next (s.setPumps (s.pumps.set c .off)))

/-- R103: a pump is RUNNING only while a hose of its compartment is FLOWING, the compartment is NORMAL and
the emergency stop is inactive; no command breaks this. -/
def Obligations.PumpsRunOnlyOnDemand : Prop :=
  ∀ s t : State, PumpLaw s → step s = .next t → PumpLaw t

/-! ## Compartments -/

/-- R117, R119, TANK SETUP WRITE: values in range, with a capacity not below the strapping table's top, are
stored for a compartment without fills and deliveries, and the low-stock watch is evaluated on the new level, which
raises LOW_STOCK once as the book falls to it and is armed again above it; BUSY and RANGE otherwise. -/
def Obligations.TankSetupWriteReplacesTheSetup : Prop :=
  ∀ (tag : SeqTag) (body : List Septet) (o : TankOperands) (c : Comp) (s : State), Ready s →
    parseTankSetup body = some o → o.comp = compNumber c →
    (o.inRange c = true → (topVolume (s.comp c).strapping : Int) ≤ o.capacity →
      (compBusy c s = false → ∃ t, exec (.tankSetupWrite tag body) s = .next t ∧
        t.comp c = { s.comp c with
          capacity := o.capacity.toNat, reserveLevel := o.reserveLevel.toNat,
          lowStock := o.lowStock.toNat, cutoff := o.cutoff, window := o.window } ∧
        OtherComp c s t ∧
        (t.unit c).armed = decide ((o.lowStock.toNat : Int) < (s.comp c).book) ∧
        LowStockWatched c s t ∧ (∀ e, e ≠ c → t.unit e = s.unit e) ∧
        OtherAlarms [.lowStock c] s t ∧ OnlyIn [.comps, .units, .alarms, .link] s t ∧
        replyOf t = some (.answer tag 58 [.count (compNumber c)])) ∧
      (compBusy c s = true →
        exec (.tankSetupWrite tag body) s = .next (refused tag .busy 58 s))) ∧
    (o.inRange c = false ∨ o.capacity < topVolume (s.comp c).strapping →
      exec (.tankSetupWrite tag body) s = .next (refused tag .range 58 s))

/-- R120, R128, R189, STRAPPING WRITE PART and STRAPPING WRITE: part 1 starts an assembly and a part in
order joins it, each answered with its number; the last part hands the joined operands over, which replace
the table of a compartment without fills and deliveries, set STALE and clear the assembly; a part out of
order is refused with FORMAT and discards the assembly. The order of part number and flag is the model's
reading, and so is that a last-part flag above 1 is refused with RANGE and leaves the assembly (assumption 19). That
a part 0 and a part above 4 are out of order, and so refused with FORMAT, is the model's choice (assumption 20). -/
def Obligations.StrappingTablesAreWrittenInParts : Prop :=
  ∀ (tag : SeqTag) (part flag : Septet) (fragment : List Septet) (s : State), Ready s →
    (part = 1 → ∃ t, exec (.strappingWritePart tag part fragment) s = .next t ∧ OnlyIn [.link] s t ∧
      t.link.longRequest = some ⟨60, 2, fragment⟩ ∧
      replyOf t = some (.answer tag 60 [.count 1])) ∧
    (∀ l, s.link.longRequest = some l → l.code = 60 → l.next = part.toNat → 2 ≤ part.toNat →
      part.toNat ≤ 4 → ∃ t, exec (.strappingWritePart tag part fragment) s = .next t ∧
        OnlyIn [.link] s t ∧
        t.link.longRequest = some ⟨60, part.toNat + 1, l.got ++ fragment⟩ ∧
        replyOf t = some (.answer tag 60 [.count part.toNat])) ∧
    (part ≠ 1 → (∀ l, s.link.longRequest = some l → l.code = 60 → l.next = part.toNat →
        4 < part.toNat) →
      ∃ t, exec (.strappingWritePart tag part fragment) s = .next t ∧ OnlyIn [.link] s t ∧
        t.link.longRequest = none ∧ replyOf t = some (.refusal tag .format 60) ∧
        t.link.counters.unknownFormat = min (s.link.counters.unknownFormat + 1) 65535) ∧
    (flag = 1 → part ≠ 1 → (∀ l, s.link.longRequest = some l → l.code = 60 → l.next = part.toNat →
        4 < part.toNat) →
      exec (.strappingWrite tag (part :: flag :: fragment)) s =
        .next (setLongRequest none (refusedCounted tag .format 60 s))) ∧
    (1 < flag.toNat → exec (.strappingWrite tag (part :: flag :: fragment)) s =
      .next (refused tag .range 60 s)) ∧
    (∀ l c points, flag = 1 → joinPart 60 part fragment s.link.longRequest = some l →
      parseStrapping l.got = some (compNumber c, points) →
      (pointsInRange (s.comp c).capacity points = true → pointsAscend points = true →
        compBusy c s = false →
        ∃ t, exec (.strappingWrite tag (part :: flag :: fragment)) s = .next t ∧
          t.comp c = { s.comp c with
            strapping := points.map (fun p => ⟨p.1, p.2.toNat⟩)
            gauging := { (s.comp c).gauging with stale := true } } ∧
          OtherComp c s t ∧ OnlyIn [.comps, .link] s t ∧ t.link.longRequest = none ∧
          replyOf t = some (.answer tag 60 [.count (compNumber c), .count points.length])) ∧
      (pointsInRange (s.comp c).capacity points = false ∨ pointsAscend points = false →
        ∃ t, exec (.strappingWrite tag (part :: flag :: fragment)) s = .next t ∧
          OnlyIn [.link] s t ∧ t.link.longRequest = none ∧
          replyOf t = some (.refusal tag .range 60)) ∧
      (pointsInRange (s.comp c).capacity points = true → pointsAscend points = true →
        compBusy c s = true →
        ∃ t, exec (.strappingWrite tag (part :: flag :: fragment)) s = .next t ∧
          OnlyIn [.link] s t ∧ t.link.longRequest = none ∧
          replyOf t = some (.refusal tag .busy 60)))

/-- R122, R123, GAUGE: a request to an IDLE compartment starts a run, which samples at once at rest and
waits otherwise; a request to a run joins its list once. The codes of the answer are the model's reading
(assumption 15). -/
def Obligations.GaugeRequestsARun : Prop :=
  ∀ (tag : SeqTag) (n : Septet) (c : Comp) (s : State), Ready s → n.toNat = compNumber c →
    ∃ t, exec (.gauge tag [n]) s = .next t ∧ OnlyIn [.units, .link] s t ∧
      (∀ e, e ≠ c → t.unit e = s.unit e) ∧
      (t.unit c).armed = (s.unit c).armed ∧ (t.unit c).level = (s.unit c).level ∧
      ((s.unit c).run = .idle → atRest c s = true →
        (t.unit c).run = .sampling [.host] (s.comp c).window 0 0 ∧
        replyOf t = some (.answer tag 61 [.count (compNumber c), .code 2, .count 1, .code 0])) ∧
      ((s.unit c).run = .idle → atRest c s = false →
        (t.unit c).run = .pending [.host] ∧
        replyOf t = some (.answer tag 61 [.count (compNumber c), .code 1, .count 1, .code 0])) ∧
      (∀ reqs, (s.unit c).run = .pending reqs →
        (t.unit c).run = .pending (if .host ∈ reqs then reqs else reqs ++ [.host])) ∧
      (∀ reqs w k sum, (s.unit c).run = .sampling reqs w k sum →
        (t.unit c).run = .sampling (if .host ∈ reqs then reqs else reqs ++ [.host]) w k sum)

/-- R118, R121, R124, R125, LEVEL READING and LEVEL FAULT INDICATION, with no delivery RECEIVING into the
compartment: the reading is the live level and a sample of a run in SAMPLING; the last sample completes
the run with the floor of the mean, the volumes by interpolation in the strapping table, sets the last
gauging and hands the result to the requesters; a fault makes the live level absent and fails a run in
SAMPLING with the alarm. That a result handed over stands in a list until its requester takes it is the model's
choice (assumption 5). -/
def Obligations.LevelObservationsServeTheRun : Prop :=
  (∀ (l : List Point) (p q : Point) (pre post : List Point), l = pre ++ p :: q :: post →
       (l.map Point.level).Pairwise (· < ·) → (l.map Point.volume).Pairwise (· < ·) →
       ∀ level,
         (level = p.level → strapGross l level = (p.volume, false)) ∧
         (p.level < level → level < q.level →
           p.volume ≤ (strapGross l level).1 ∧ (strapGross l level).1 < q.volume ∧
           (strapGross l level).1 =
             p.volume + (level - p.level) * (q.volume - p.volume) / (q.level - p.level) ∧
           (strapGross l level).2 = false) ∧
         (pre = [] → level < p.level → strapGross l level = (p.volume, false)) ∧
         (level = q.level → strapGross l level = (q.volume, false)) ∧
         (post = [] → q.level < level → strapGross l level = (q.volume, true))) ∧
  (∀ (c : Comp) (level : Nat) (s : State), s.power = .on →
       (∀ d, s.store.delivery = some d → d.comp = c → d.state ≠ .receiving) →
       ((s.unit c).run = .idle ∨ (∃ reqs, (s.unit c).run = .pending reqs) →
         exec (.levelReading c level) s =
           .next (s.setUnits (s.units.set c { s.unit c with level := some level })) ∧
         exec (.levelFaultIndication c) s =
           .next (s.setUnits (s.units.set c { s.unit c with level := none }))) ∧
       (∀ reqs w k sum, (s.unit c).run = .sampling reqs w k sum →
         (k + 1 < w → exec (.levelReading c level) s = .next (s.setUnits (s.units.set c
           { s.unit c with level := some level, run := .sampling reqs w (k + 1) (sum + level) }))) ∧
         (w ≤ k + 1 → ∃ t g, exec (.levelReading c level) s = .next t ∧
           OnlyIn [.comps, .units, .handed] s t ∧ OtherComp c s t ∧
           t.unit c = { s.unit c with level := some level, run := .idle } ∧
           g.time = s.clock ∧ g.level = (sum + level) / (k + 1) ∧
           (g.gross, g.above) = strapGross (s.comp c).strapping g.level ∧
           g.net = (g.gross : Int) * vcfOf (s.store.cal.set.alpha.get c)
             (sourceTemp (s.source (probeOf c))) / 1000000 ∧
           t.comp c = { s.comp c with gauging := ⟨true, false, some ⟨s.clock, g.level,
             sourceTemp (s.source (probeOf c)), g.gross, g.net, g.net - (s.comp c).book,
             g.above⟩⟩ } ∧
           t.handed = s.handed ++
             (reqs.filter (fun r => decide (r ≠ .host))).map (fun r => .result r c (.ok g))) ∧
         (∃ t, exec (.levelFaultIndication c) s = .next t ∧
           OnlyIn [.comps, .units, .alarms, .handed] s t ∧ OtherComp c s t ∧
           t.unit c = { s.unit c with level := none, run := .idle } ∧
           t.comp c = { s.comp c with gauging := { (s.comp c).gauging with ok := false } } ∧
           t.alarms = (raiseAlarm (.levelProbeFault c) s).alarms ∧
           t.handed = s.handed ++
             (reqs.filter (fun r => decide (r ≠ .host))).map (fun r => .result r c .failed))))

/-- R115, R117, R128, R131, R150, R152, BOOK ADJUST: an adjustment that passes its checks sets the book to the value
given or to the net of a current gauging, moves adjustments by the same, sets STALE, evaluates the low-stock and the near-full watch, and records it.
That one which leaves the book unchanged sets STALE too is the model's choice (assumption 48). GAUGED is 0 and
VALUE 1, and the GAUGED form ignores a value (assumptions 15 and 22). -/
def Obligations.BookAdjustSetsTheBook : Prop :=
  ∀ (tag : SeqTag) (body : List Septet) (o : AdjustOperands) (c : Comp) (after : Int) (s : State),
    Ready s → parseBookAdjust body = some o → o.comp = compNumber c → o.reason ≤ 99 →
    (o.form = 1 ∧ o.value = some after ∧ 0 ≤ after ∧ after ≤ (s.comp c).capacity) ∨
      (o.form = 0 ∧ (s.comp c).gauging.ok = true ∧ (s.comp c).gauging.stale = false ∧
        ∃ v, (s.comp c).gauging.values = some v ∧ v.net = after) →
    (s.comp c).reservations = 0 → s.store.delivery.map Delivery.comp ≠ some c →
    (canCommit s = true → ∃ t, exec (.bookAdjust tag body) s = .next t ∧
      (t.comp c).book = after ∧
      (t.comp c).adjustments = (s.comp c).adjustments + (after - (s.comp c).book) ∧
      (t.comp c).gauging.stale = true ∧ (t.comp c).opening = (s.comp c).opening ∧
      (t.comp c).delivered = (s.comp c).delivered ∧ (t.comp c).dispensed = (s.comp c).dispensed ∧
      OtherComp c s t ∧ (t.unit c).armed = decide (((s.comp c).lowStock : Int) < after) ∧
      LowStockWatched c s t ∧ LogWatched s t ∧ (∀ e, e ≠ c → t.unit e = s.unit e) ∧
      OtherAlarms [.lowStock c, .logNearFull] s t ∧
      (∃ r, t.store.log = ⟨s.store.log.records ++
          [⟨s.store.log.nextSeq, false, s.store.shift.number, .adjust r⟩],
          s.store.log.commitments, s.store.log.nextSeq + 1⟩ ∧
        r.comp = c ∧ r.gauged = decide (o.form = 0) ∧ r.reason = o.reason ∧ r.time = s.clock ∧
        r.before = (s.comp c).book ∧ r.after = after ∧
        r.gaugingTime = (if o.form = 0 then
          (s.comp c).gauging.values.map (fun v => v.time.time) else none)) ∧
      OnlyIn [.comps, .units, .log, .logWatch, .alarms, .link] s t ∧
      replyOf t = some (.answer tag 63 [.count (compNumber c), .volume (s.comp c).book,
        .volume after, .long s.store.log.nextSeq])) ∧
    (canCommit s = false → exec (.bookAdjust tag body) s = .next (refused tag .logFull 63 s))

/-! ## Deliveries -/

/-- R134 to R136, R141, R142, R150: DELIVERY OPEN that passes its checks takes a slot, opens the context in
PRE_GAUGE, sets the selector and requests the pre-delivery run; DELIVERY CLOSE cancels a delivery in
PRE_GAUGE, shuts the valve of one RECEIVING with CLOSED and changes nothing later; the pre-gauge's result
starts the count and opens the valve, unless the emergency stop, the overfill switch or the level forbids
it: the delivery then drains with that cause. Where a commitment is taken or released the near-full watch is
evaluated. A delivery cancelled in PRE_GAUGE leaves no result of its run to be taken (assumption 43). The codes of
the answers are the model's reading (assumption 15), and the results that wait to be taken are a list of its own
(assumption 5). -/
def Obligations.DeliveriesOpenReceiveAndClose : Prop :=
  ∀ (tag : SeqTag) (c : Comp) (s : State),
    (∀ body docket declared, Ready s → parseDeliveryOpen body = some (compNumber c, docket, declared) →
      docketWithin (s.comp c) docket declared = true → s.store.delivery = none →
      s.inputs.emergency = false → (∀ h, compOf h = c → (s.hose h).state.resting = true) →
      (canCommit s = true → ∃ t, exec (.deliveryOpen tag body) s = .next t ∧
        t.store.delivery = some ⟨.preGauge, c, docket, declared, none, none, none, false,
          ⟨0, 0, 0, 0, 0, false, false⟩, none, none, false, false⟩ ∧ t.store.selector = c ∧
        t.store.log = { s.store.log with commitments := s.store.log.commitments + 1 } ∧
        .preDelivery ∈ (t.unit c).run.requesters ∧ (∀ e, e ≠ c → t.unit e = s.unit e) ∧
        LogWatched s t ∧ OtherAlarms [.logNearFull] s t ∧
        OnlyIn [.delivery, .selector, .log, .logWatch, .alarms, .units, .link] s t ∧
        replyOf t = some (.answer tag 73 [.count (compNumber c), .code 1])) ∧
      (canCommit s = false →
        exec (.deliveryOpen tag body) s = .next (refused tag .logFull 73 s))) ∧
    (Ready s → s.store.delivery = none →
      exec (.deliveryClose tag []) s = .next (refused tag .state 74 s)) ∧
    (∀ d, s.store.delivery = some d →
      (Ready s → d.state = .preGauge → ∃ t, exec (.deliveryClose tag []) s = .next t ∧
        t.store.delivery = none ∧
        t.store.log = { s.store.log with commitments := s.store.log.commitments - 1 } ∧
        (t.unit d.comp).run.requesters = (s.unit d.comp).run.requesters.erase .preDelivery ∧
        t.handed = s.handed.filter (fun e => !e.isResult d.comp .preDelivery) ∧
        LogWatched s t ∧ OtherAlarms [.logNearFull] s t ∧
        OnlyIn [.delivery, .log, .logWatch, .alarms, .units, .handed, .link] s t ∧
        replyOf t = some (.answer tag 74 [.code 0])) ∧
      (Ready s → d.state = .receiving → ∃ t, exec (.deliveryClose tag []) s = .next t ∧
        t.store.delivery = some { d with state := .draining, cause := some .closed } ∧
        t.inlet = ⟨false, .running 2, .running 15⟩ ∧ OnlyIn [.delivery, .inlet, .units, .link] s t ∧
        replyOf t = some (.answer tag 74 [.code 3])) ∧
      (Ready s → d.state = .draining →
        exec (.deliveryClose tag []) s = .next (answered tag 74 [.code 3] s)) ∧
      (Ready s → d.state = .postGauge →
        exec (.deliveryClose tag []) s = .next (answered tag 74 [.code 4] s)) ∧
      (∀ r, s.power = .on → d.state = .preGauge → d.comp = c →
        ∃ t e, exec (.preGaugeResult c r) s = .next t ∧ t.store.delivery = some e ∧
          e.preGauge = (match r with
            | .ok g => some ⟨g.level, g.net, g.above⟩
            | .failed => none) ∧
          e.comp = c ∧ e.docket = d.docket ∧ e.declared = d.declared ∧
          e.start = some s.clock.time ∧ e.unset = (d.unset || s.clock.unset) ∧
          e.volume.remainder = 0 ∧ e.volume.gross = d.volume.gross ∧ e.volume.net = d.volume.net ∧
          e.volume.vcf = vcfOf (s.store.cal.set.alpha.get c) (sourceTemp (s.source .p3)) ∧
          t.meter .m4 = { s.meter .m4 with band := 1, acc := 0, interval := .running 1 } ∧
          OnlyIn [.delivery, .inlet, .meters, .units, .alarms, .handed] s t ∧
          (s.inputs.emergency = true → e.state = .draining ∧ e.cause = some .emergency ∧
            t.inlet = ⟨false, .running 2, .running 15⟩ ∧ t.alarms = s.alarms) ∧
          (s.inputs.emergency = false → s.inputs.overfill.get c = true →
            e.state = .draining ∧ e.cause = some .overfill ∧
            t.inlet = ⟨false, .running 2, .running 15⟩ ∧ t.alarms = s.alarms) ∧
          (s.inputs.emergency = false → s.inputs.overfill.get c = false →
            (∀ level, (s.unit c).level = some level →
              ((s.comp c).cutoff ≤ level → e.state = .draining ∧ e.cause = some .highLevel ∧
                e.levelFault = d.levelFault ∧ t.inlet = ⟨false, .running 2, .running 15⟩ ∧
                t.alarms = (raiseAlarm (.highLevel c) s).alarms) ∧
              (level < (s.comp c).cutoff → e.state = .receiving ∧ e.cause = d.cause ∧
                t.inlet = { s.inlet with valveOpen := true } ∧ t.alarms = s.alarms)) ∧
            ((s.unit c).level = none → e.state = .draining ∧ e.cause = some .highLevel ∧
              e.levelFault = true ∧ t.inlet = ⟨false, .running 2, .running 15⟩ ∧
              t.alarms = s.alarms))))

/-- R110, R115, R117, R137 to R139, R142 to R144, R150: while a delivery is RECEIVING a level at the cutoff and the
overfill switch of its compartment shut the valve; a pulse of M4 counts in RECEIVING and DRAINING and
is stray otherwise; the drain's end credits the compartment with the metered net and evaluates the
low-stock watch; the post-gauge's result records the delivery with every field of the record; a switch that becomes
inactive changes its level alone. The results that wait to be taken are a list of the model's own (assumption 5). -/
def Obligations.DeliveriesDrainCreditAndRecord : Prop :=
  ∀ (c : Comp) (s : State), s.power = .on →
    exec (.overfillSwitchInactive c) s = .next
      (s.setInputs { s.inputs with overfill := s.inputs.overfill.set c false }) ∧
    (s.inputs.overfill.get c = false → ∃ t, exec (.overfillSwitchActive c) s = .next t ∧
      t.alarms = (raiseAlarm (.overfill c) s).alarms ∧
      t.inputs = { s.inputs with overfill := s.inputs.overfill.set c true } ∧
      OnlyIn [.inputs, .alarms, .delivery, .inlet, .units] s t ∧
      (∀ d, s.store.delivery = some d → d.comp = c → d.state = .receiving →
        t.store.delivery = some { d with state := .draining, cause := some .overfill } ∧
        t.inlet = ⟨false, .running 2, .running 15⟩) ∧
      ((∀ d, s.store.delivery = some d → d.comp = c → d.state ≠ .receiving) →
        OnlyIn [.inputs, .alarms] s t)) ∧
    (∀ d level, s.store.delivery = some d → d.comp = c → d.state = .receiving →
      (s.comp c).cutoff ≤ level → ∃ t, exec (.levelReading c level) s = .next t ∧
        t.store.delivery = some { d with state := .draining, cause := some .highLevel } ∧
        t.inlet = ⟨false, .running 2, .running 15⟩ ∧
        t.alarms = (raiseAlarm (.highLevel c) s).alarms ∧ (t.unit c).level = some level) ∧
    (∀ d, s.store.delivery = some d → d.comp = c → d.state = .receiving →
      ∃ t, exec (.levelFaultIndication c) s = .next t ∧
        t.store.delivery = some { d with
          state := .draining, cause := some .highLevel, levelFault := true } ∧
        t.inlet = ⟨false, .running 2, .running 15⟩ ∧ (t.unit c).level = none) ∧
    (∀ d b, s.store.delivery = some d → (d.state = .receiving ∨ d.state = .draining) →
      (s.store.cal.set.bands.get .m4)[(s.meter .m4).band - 1]? = some b →
      ∃ t, exec (.meterPulse .m4) s = .next t ∧ OnlyIn [.delivery, .meters, .inlet] s t ∧
        t.store.delivery = some { d with volume := countVolume b.factor d.volume } ∧
        t.inlet = (if d.state = .draining then { s.inlet with quiet := .running 2 } else s.inlet)) ∧
    ((∀ d, s.store.delivery = some d → d.state = .preGauge ∨ d.state = .postGauge) →
      ∃ t, exec (.meterPulse .m4) s = .next t ∧ OnlyIn [.alarms, .meters] s t ∧
        (t.meter .m4).strays = min ((s.meter .m4).strays + 1) 65535 ∧
        t.alarms = (raiseAlarm (.inletFlow s.store.selector) s).alarms) ∧
    (∀ d, s.store.delivery = some d → d.comp = c → d.state = .draining →
      ((∃ n, s.inlet.quiet = .running n) → ∃ t, exec .deliveryDrainQuietExpiry s = .next t ∧
        DeliveryCredited d s t ∧ (t.store.delivery.map Delivery.drainCut) = some d.drainCut) ∧
      ((∃ n, s.inlet.cap = .running n) → ∃ t, exec .deliveryDrainCapExpiry s = .next t ∧
        DeliveryCredited d s t ∧ (t.store.delivery.map Delivery.drainCut) = some true)) ∧
    (∀ d r, s.store.delivery = some d → d.comp = c → d.state = .postGauge →
      ∃ t, exec (.postGaugeResult c r) s = .next t ∧
        DeliveryRecorded d (match r with
          | .ok g => some ⟨g.level, g.net, g.above⟩
          | .failed => none) s t ∧
        OtherAlarms [.logNearFull] s t ∧
        OnlyIn [.delivery, .log, .logWatch, .alarms, .handed] s t)

/-- R78, R103, R133, R134: hose valves open only while FLOWING, the inlet valve only while a delivery is
RECEIVING, and no delivery into a compartment is open while one of its hoses is engaged; no command breaks
any of the three. -/
def Obligations.ValvesAndDeliveriesKeepTheirLaws : Prop :=
  ∀ s t : State, step s = .next t →
    (ValveLaw s → ValveLaw t) ∧ (InletLaw s → InletLaw t) ∧ (DeliveryLaw s → DeliveryLaw t)

/-! ## The log, the clock and the shifts -/

/-- R150, R154 to R156: LOG READ hands over the UNSENT record of the lowest number and marks it SENT, keeps its
full answer and cuts later parts from it; LOG CONFIRM removes the SENT records up to its number and evaluates
the near-full watch, which is armed again above 32 free slots; LOG REWIND marks every record UNSENT. None changes a record's number, order or contents. The layout of the
record is the model's reading (assumptions 15 to 18). -/
def Obligations.LogIsReadConfirmedAndRewound : Prop :=
  ∀ (tag : SeqTag) (body : List Septet) (s : State), Ready s →
    (∀ part r, parseLogRead body = some part → part.getD 1 = 1 →
      (unsent s.store.log).head? = some r →
      ∃ t fs, exec (.logRead tag body) s = .next t ∧ OnlyIn [.log, .logWatch, .link] s t ∧
        t.store.log.records = s.store.log.records.map (fun x =>
          if x.seq = r.seq then { x with sent := true } else x) ∧
        t.store.log.commitments = s.store.log.commitments ∧
        t.store.log.nextSeq = s.store.log.nextSeq ∧
        t.logWatch.armed = s.logWatch.armed ∧
        t.logWatch.kept = some (fieldBytes
          (logReadFields (some r) ((unsent s.store.log).length - 1))) ∧
        answerPart (fieldBytes (logReadFields (some r) ((unsent s.store.log).length - 1))) 1 = .ok fs ∧
        replyOf t = some (.answer tag 81 fs)) ∧
    (∀ part, parseLogRead body = some part → part.getD 1 = 1 → unsent s.store.log = [] →
      ∃ t fs, exec (.logRead tag body) s = .next t ∧ OnlyIn [.logWatch, .link] s t ∧
        answerPart (fieldBytes [.absent, .count2 0]) 1 = .ok fs ∧
        replyOf t = some (.answer tag 81 fs)) ∧
    (∀ n, parseLogRead body = some (some n) → 2 ≤ n →
      (s.logWatch.kept = none → exec (.logRead tag body) s = .next (refused tag .state 81 s)) ∧
      (∀ full fs, s.logWatch.kept = some full → answerPart full n = .ok fs →
        exec (.logRead tag body) s = .next (answered tag 81 fs s)) ∧
      (∀ full r, s.logWatch.kept = some full → answerPart full n = .error r →
        exec (.logRead tag body) s = .next (refused tag .range 81 s))) ∧
    (∀ n, parseLong body = some n → 1 ≤ n → n ≤ 4294967295 →
      ((∃ r ∈ s.store.log.records, r.sent = true ∧ r.seq ≤ n) →
        ∃ t, exec (.logConfirm tag body) s = .next t ∧ OnlyIn [.log, .logWatch, .alarms, .link] s t ∧
          t.store.log.records =
            s.store.log.records.filter (fun r => !(r.sent && decide (r.seq ≤ n))) ∧
          t.store.log.commitments = s.store.log.commitments ∧
          t.store.log.nextSeq = s.store.log.nextSeq ∧ LogWatched s t ∧
          t.logWatch.kept = s.logWatch.kept ∧ OtherAlarms [.logNearFull] s t ∧
          replyOf t = some (.answer tag 82
            [.count2 (s.store.log.records.length - t.store.log.records.length),
             .count2 t.store.log.records.length, .count2 (unsent t.store.log).length])) ∧
      ((∀ r ∈ s.store.log.records, r.sent = true → n < r.seq) →
        exec (.logConfirm tag body) s = .next (refused tag .notFound 82 s))) ∧
    (body = [] → exec (.logRewind tag body) s = .next (replied
      (.answer tag 83 [.count2 (s.store.log.records.filter Record.sent).length])
      ((heard s).setLog { s.store.log with
        records := s.store.log.records.map fun r => { r with sent := false } })))

/-- R150, R158, R159, R161, R162: CLOCK SET sets the clock and answers with the old and the new; the tick advances
a running clock by 1 up to its largest value and leaves the store and the states of the blocks; SHIFT CLOSE
records the shift, evaluates the near-full watch, empties the used and charged totals, opens the books afresh and
raises the shift number; it is refused with BUSY while a hose is in AWAITING, FLOWING, PAUSED or DRAINING or a delivery is open, and
with LOG_FULL where no slot can be committed. That timers run down at the tick is the model's choice
(assumption 3). -/
def Obligations.ClockAndShiftAdvance : Prop :=
  ∀ s : State,
    (∀ tag body n, Ready s → parseLong body = some n → n ≤ 34359738367 →
      exec (.clockSet tag body) s = .next (replied
        (.answer tag 88 [.time s.clock.time, .flag s.clock.unset, .time n])
        ((heard s).setClock ⟨n, false⟩))) ∧
    (s.power = .on → ∃ t, exec .siteClockTick s = .next t ∧
      t.clock = ⟨min (s.clock.time + 1) 34359738367, s.clock.unset⟩ ∧
      OnlyIn [.clock, .hoses, .channels, .meters, .sources, .pumps, .inlet, .guard, .park, .link] s t ∧
      (∀ h, (t.hose h).state = (s.hose h).state ∧ (t.hose h).valve = (s.hose h).valve ∧
        (t.channel h).state = (s.channel h).state) ∧
      (∀ c, (t.pump c).isRunning = (s.pump c).isRunning) ∧
      t.park.state = s.park.state ∧ t.inlet.valveOpen = s.inlet.valveOpen ∧
      t.link.online = s.link.online ∧ t.link.sending = s.link.sending) ∧
    (∀ tag, Ready s →
      (∃ h, (s.hose h).state.isAwaiting = true ∨ (s.hose h).state = .flowing ∨
        (s.hose h).state = .paused ∨ (s.hose h).state = .draining) ∨ s.store.delivery ≠ none →
      exec (.shiftClose tag []) s = .next (refused tag .busy 89 s)) ∧
    (∀ tag, Ready s → (∀ h, (s.hose h).state.isHolding = false) → s.store.delivery = none →
      (canCommit s = false → exec (.shiftClose tag []) s = .next (refused tag .logFull 89 s)) ∧
      (canCommit s = true → ∃ t r, exec (.shiftClose tag []) s = .next t ∧
        OnlyIn [.log, .logWatch, .alarms, .machines, .accounts, .comps, .shift, .link] s t ∧
        t.store.log = ⟨s.store.log.records ++
          [⟨s.store.log.nextSeq, false, s.store.shift.number, .shift r⟩],
          s.store.log.commitments, s.store.log.nextSeq + 1⟩ ∧
        LogWatched s t ∧ t.logWatch.kept = s.logWatch.kept ∧ OtherAlarms [.logNearFull] s t ∧
        r.opened = s.store.shift.opened ∧ r.closed = s.clock ∧
        (∀ c, (r.figures.get c).opening = (s.comp c).opening ∧
          (r.figures.get c).delivered = (s.comp c).delivered ∧
          (r.figures.get c).dispensed = (s.comp c).dispensed ∧
          (r.figures.get c).adjustments = (s.comp c).adjustments ∧
          (r.figures.get c).closing = (s.comp c).book ∧
          (r.figures.get c).fills = s.store.shift.fills.get c ∧
          t.comp c = { s.comp c with
            opening := (s.comp c).book, delivered := 0, dispensed := 0, adjustments := 0 }) ∧
        t.store.shift = ⟨min (s.store.shift.number + 1) 4294967295, s.clock, ⟨0, 0⟩⟩ ∧
        (∀ k, t.machine k = (s.machine k).map fun m => { m with used := ⟨0, 0⟩ }) ∧
        (∀ k, t.account k = (s.account k).map fun a => { a with used := ⟨0, 0⟩, charged := 0 }) ∧
        replyOf t = some (.answer tag 89 [.long s.store.shift.number,
          .long (min (s.store.shift.number + 1) 4294967295), .long s.store.log.nextSeq])))

/-- R115, R148: each book equals its opening book plus delivered, less dispensed, plus adjustments; the
sequence numbers of the stored records strictly increase below the next one, which never falls; no command
breaks either. -/
def Obligations.BooksAndNumbersKeepTheirLaws : Prop :=
  ∀ s t : State, step s = .next t →
    (BookLaw s → BookLaw t) ∧ (SequenceLaw s → SequenceLaw t) ∧
      s.store.log.nextSeq ≤ t.store.log.nextSeq

/-! ## Metrology -/

/-- R165 to R174: CAL OPEN needs an OPEN seal and opens the window for 120 s, CAL CLOSE, the window timer
and the seal's closing close it, CAL READ and AUDIT READ change nothing, and CAL WRITE within the window
replaces one item that is not in use, stores the check value, records the change, ends a FAULT and
restarts the window. A selector that names no item is refused with RANGE at R168's third check; that R187 agrees
is inferred (assumption 21). The seal's opening raises its alarm.
The codes of the answers are the model's reading (assumption 15). -/
def Obligations.CalibrationNeedsTheWindow : Prop :=
  ∀ (tag : SeqTag) (body : List Septet) (s : State),
    (Ready s → (s.inputs.sealOpen = true → exec (.calOpen tag []) s = .next (replied
        (.answer tag 97 [.code 0, .wide s.store.cal.audits, .code (if s.guard.fault then 1 else 0)])
        ((heard s).setGuard { s.guard with window := .running 120 }))) ∧
      (s.inputs.sealOpen = false → exec (.calOpen tag []) s = .next (refused tag .locked 97 s)) ∧
      (s.guard.window = .stopped → exec (.calClose tag []) s = .next (refused tag .state 99 s)) ∧
      (s.guard.window ≠ .stopped → exec (.calClose tag []) s = .next (replied
        (.answer tag 99 [.wide s.store.cal.audits])
        ((heard s).setGuard { s.guard with window := .stopped })))) ∧
    (Ready s →
      (∀ n item, parseCount body = some n → itemOf n = some item →
        exec (.calRead tag body) s = .next (answered tag 96 (calReadFields item s) s)) ∧
      (∀ n, parseCount body = some n → itemOf n = none →
        exec (.calRead tag body) s = .next (refused tag .range 96 s)) ∧
      (∀ n, parseLong body = some n → n = 0 ∨ 65535 < n →
        exec (.auditRead tag body) s = .next (refused tag .range 100 s)) ∧
      (∀ n e, parseLong body = some n → 1 ≤ n → n ≤ 65535 →
        (s.store.cal.trail.find? fun e => decide (e.number = n)) = some e →
        exec (.auditRead tag body) s = .next (answered tag 100 (auditFields e s) s)) ∧
      (∀ n, parseLong body = some n → 1 ≤ n → n ≤ 65535 →
        (s.store.cal.trail.find? fun e => decide (e.number = n)) = none →
        exec (.auditRead tag body) s = .next (refused tag .notFound 100 s))) ∧
    (∀ o, Ready s → parseCalWrite body = some o →
      (s.guard.window = .stopped →
        exec (.calWrite tag body) s = .next (refused tag .locked 98 s)) ∧
      (s.guard.window ≠ .stopped → 65535 ≤ s.store.cal.audits →
        exec (.calWrite tag body) s = .next (refused tag .full 98 s)) ∧
      (s.guard.window ≠ .stopped → s.store.cal.audits < 65535 → o = none →
        exec (.calWrite tag body) s = .next (refused tag .range 98 s)) ∧
      (∀ item v, s.guard.window ≠ .stopped → s.store.cal.audits < 65535 → o = some (item, v) →
        (valueValid item v = false → exec (.calWrite tag body) s = .next (refused tag .range 98 s)) ∧
        (valueValid item v = true → itemInUse s item = true →
          exec (.calWrite tag body) s = .next (refused tag .busy 98 s)) ∧
        (valueValid item v = true → itemInUse s item = false →
          ∃ t, exec (.calWrite tag body) s = .next t ∧
            itemValue t.store.cal.set item = v ∧
            (∀ other, other ≠ item →
              itemValue t.store.cal.set other = itemValue s.store.cal.set other) ∧
            t.store.cal.check = Config.checkFunction t.store.cal.set ∧
            t.store.cal.audits = s.store.cal.audits + 1 ∧
            t.store.cal.trail.getLast? = some ⟨s.store.cal.audits + 1, s.clock, item,
              itemValue s.store.cal.set item, v⟩ ∧
            t.guard = { s.guard with fault := false, window := .running 120 } ∧
            (∀ c, item = .alpha c → (t.comp c).gauging.stale = true) ∧
            OnlyIn [.cal, .guard, .comps, .link] s t ∧
            replyOf t = some (.answer tag 98 [.code item.code,
              .wide (s.store.cal.audits + 1), .code 0])))) ∧
    (s.power = .on →
      (s.inputs.sealOpen = false → exec .sealSwitchOpen s = .next (raiseAlarm .sealOpen
        (s.setInputs { s.inputs with sealOpen := true }))) ∧
      (s.inputs.sealOpen = true → exec .sealSwitchClosed s = .next
        ((s.setInputs { s.inputs with sealOpen := false }).setGuard
          { s.guard with window := .stopped })) ∧
      (∀ n, s.guard.window = .running n → exec .windowTimerExpiry s = .next
        (s.setGuard { s.guard with window := .stopped })))

/-- R165, SEAL SWITCH OPEN and SEAL SWITCH CLOSED: an opening raises SEAL_OPEN, each one again, and changes
nothing else in the guard; a closing ends an open window and changes nothing else; and a start-up takes the
level as it stands once it is complete, on the alarm table it has cleared, a change of level before that
being the level alone. -/
def Obligations.SealSwitchIsWatched : Prop :=
  (∀ s : State, s.power = .on →
    (s.inputs.sealOpen = false → ∃ t, exec .sealSwitchOpen s = .next t ∧
      OnlyIn [.inputs, .alarms] s t ∧ t.inputs = { s.inputs with sealOpen := true } ∧
      (∀ k, k ≠ Alarm.sealOpen.row → tableFind t.alarms k = tableFind s.alarms k) ∧
      tableFind t.alarms Alarm.sealOpen.row = some
        (match tableFind s.alarms Alarm.sealOpen.row with
         | none => { count := 1, first := s.clock }
         | some r => { count := min (r.count + 1) 255, first := r.first })) ∧
    (s.inputs.sealOpen = true → ∃ t, exec .sealSwitchClosed s = .next t ∧
      OnlyIn [.inputs, .guard] s t ∧ t.inputs = { s.inputs with sealOpen := false } ∧
      t.guard = { s.guard with window := .stopped } ∧
      (s.guard.windowOpen = false → t.guard = s.guard))) ∧
  (∀ s : State,
    (s.power = .restarting →
      exec .sealSwitchOpen s = .next (s.setInputs { s.inputs with sealOpen := true }) ∧
      exec .sealSwitchClosed s = .next (s.setInputs { s.inputs with sealOpen := false }) ∧
      (∀ r, s.link.sending = some r → ∃ t, exec .answerSent s = .next t ∧ t.guard.windowOpen = false ∧
        tableFind t.alarms Alarm.sealOpen.row =
          (if s.inputs.sealOpen then some { count := 1, first := s.clock } else none))) ∧
    (∃ t, exec .startUp s = .next t ∧ t.guard.windowOpen = false ∧
      tableFind t.alarms Alarm.sealOpen.row =
        (if s.inputs.sealOpen then some { count := 1, first := ⟨0, true⟩ } else none)))

/-- R173, R174: a store disturbance alters the stored set and leaves the check value; the check timer
restarts at its expiry, and a mismatch found in GOOD enters FAULT, raises the alarm, stops every flow with
METROLOGY and refuses every waiting hose; a match, or a check in FAULT, changes nothing more. The check
function is a free value (assumption 7). -/
def Obligations.IntegrityCheckFindsDisturbances : Prop :=
  ∀ s : State,
    (∀ set, exec (.storeDisturbance set) s = .next (s.setCal { s.store.cal with set := set })) ∧
    (∀ n, s.power = .on → s.guard.check = .running n →
      (s.guard.fault = true ∨ Config.checkFunction s.store.cal.set = s.store.cal.check →
        exec .checkTimerExpiry s = .next (s.setGuard { s.guard with check := .running 60 })) ∧
      (s.guard.fault = false → Config.checkFunction s.store.cal.set ≠ s.store.cal.check →
        ∃ t, exec .checkTimerExpiry s = .next t ∧
          t.guard = { s.guard with fault := true, check := .running 60 } ∧
          t.alarms = (raiseAlarm .metrologyFault s).alarms ∧
          (∀ h, (s.hose h).state = .flowing ∨ (s.hose h).state = .paused →
            (t.hose h).state = .draining ∧ (t.tx h).map Transaction.cause =
              (s.tx h).map fun tx => some (tx.cause.getD .metrology)) ∧
          (∀ h, (s.hose h).state = .identifying ∨ (s.hose h).state.isAwaiting = true →
            (t.hose h).state = .refused .metrology) ∧
          OnlyIn (.guard :: .alarms :: .machines :: .queue :: stopParts) s t))

/-- R166, R167, R170: a calibration window is open only under an OPEN seal, the audit trail holds the last
entries numbered up to the audit counter, and the counter never falls; no command breaks any of these. -/
def Obligations.MetrologyKeepsItsLaws : Prop :=
  ∀ s t : State, step s = .next t →
    (WindowLaw s → WindowLaw t) ∧ (TrailLaw s → TrailLaw t) ∧ s.store.cal.audits ≤ t.store.cal.audits

/-! ## Parking, tag channels and temperature sources -/

/-- R176 to R181, PARK, PARK BASELINE RESULT, PARK WATCH RESULT, WATCH TIMER EXPIRY and CONFIRM TIMER
EXPIRY: a part at rest begins to park and requests its baselines; an awaited result is taken, and the last
one parks the part; the watch timer requests a run on each watched compartment; a loss above the threshold
raises STOCK_LOSS and wakes a parked part; the confirm timer's expiry parks it again. The codes of the
answer are the model's reading (assumption 15), and the results that wait to be taken are a list of its own
(assumption 5). -/
def Obligations.ParkingWatchesTheStock : Prop :=
  ∀ s : State,
    (∀ tag, Ready s →
      (s.park.state = .parking ∨ parkAllowed s = false →
        exec (.park tag []) s = .next (refused tag .state 105 s)) ∧
      (s.park.state = .active → parkAllowed s = true → ∃ t, exec (.park tag []) s = .next t ∧
        t.park = { s.park with
          state := .parking, baselines := ⟨none, none⟩, watched := ⟨false, false⟩,
          awaited := ⟨true, true⟩, outcome := none } ∧
        (∀ c, .parkBaseline ∈ (t.unit c).run.requesters) ∧ OnlyIn [.park, .units, .link] s t ∧
        replyOf t = some (.answer tag 105
          [.code 1, .code (t.unit .c1).run.code, .code (t.unit .c2).run.code]))) ∧
    (∀ c r, s.power = .on → s.park.state = .parking → s.park.awaited.get c = true →
      ∃ t, exec (.parkBaselineResult c r) s = .next t ∧
        t.park.baselines = s.park.baselines.set c (match r with
          | .ok g => some ⟨g.net, g.level, g.time⟩
          | .failed => none) ∧
        t.park.watched = s.park.watched.set c (decide (r ≠ .failed)) ∧
        t.park.awaited = s.park.awaited.set c false ∧
        OnlyIn [.channels, .link, .park, .handed] s t ∧
        ((∃ e, e ≠ c ∧ s.park.awaited.get e = true) →
          t.park.state = .parking ∧ t.channels = s.channels ∧ t.link = s.link) ∧
        ((∀ e, e ≠ c → s.park.awaited.get e = false) →
          (parkAllowed s = true → t.park.state = .parked ∧
            t.park.watch = .running (s.store.site.watchInterval * 60) ∧
            t.link = { s.link with online := false, watchdog := .suspended } ∧
            (∀ h, t.channel h = { s.channel h with state := .off, run := 0, hold := .stopped })) ∧
          (parkAllowed s = false → t.park.state = .active ∧ t.park.outcome = some .cancelled ∧
            t.channels = s.channels ∧ t.link = s.link))) ∧
    (∀ c g b, s.power = .on → s.park.baselines.get c = some b →
      (b.net - g.net ≤ s.store.site.theftThreshold →
        ∃ t, exec (.parkWatchResult c (.ok g)) s = .next t ∧ OnlyIn [.handed] s t) ∧
      ((s.store.site.theftThreshold : Int) < b.net - g.net →
        ∃ t, exec (.parkWatchResult c (.ok g)) s = .next t ∧ OnlyIn [.park, .alarms, .handed] s t ∧
          t.alarms = (raiseAlarm (.stockLoss c) s).alarms ∧
          (s.park.state = .parked ∨ s.park.state = .waking → t.park = { s.park with
            state := .active, watch := .stopped, confirm := .stopped, outcome := some .stockLoss }) ∧
          (s.park.state = .active ∨ s.park.state = .parking → t.park = s.park)) ∧
      (s.park.state = .parked ∨ s.park.state = .waking →
        ∃ t, exec (.parkWatchResult c .failed) s = .next t ∧ OnlyIn [.park, .handed] s t ∧
          t.park = { s.park with
            state := .active, watch := .stopped, confirm := .stopped,
            outcome := some .watchFailed })) ∧
    (∀ n, s.power = .on → s.park.watch = .running n → ∃ t, exec .watchTimerExpiry s = .next t ∧
      t.park = { s.park with watch := .running (s.store.site.watchInterval * 60) } ∧
      OnlyIn [.park, .units] s t ∧
      (∀ c, (s.park.watched.get c = true → .parkWatch ∈ (t.unit c).run.requesters) ∧
        (s.park.watched.get c = false → t.unit c = s.unit c))) ∧
    (∀ n, s.power = .on → s.park.confirm = .running n → exec .confirmTimerExpiry s = .next
      (s.setPark { s.park with state := .parked, confirm := .stopped }))

/-- R28, CHECK BAD and BAD START: in any enabled state each adds 1 to its counter, which saturates, and
changes nothing else; a channel that is OFF takes neither. -/
def Obligations.DamagedFramesAreOnlyCounted : Prop :=
  ∀ (h : Hose) (s : State), s.power = .on →
    ((s.channel h).state ≠ .off →
      exec (.checkBad h) s = .next (s.setChannels (s.channels.set h { s.channel h with
        checkBads := min ((s.channel h).checkBads + 1) 65535 })) ∧
      exec (.badStart h) s = .next (s.setChannels (s.channels.set h { s.channel h with
        badStarts := min ((s.channel h).badStarts + 1) 65535 }))) ∧
    ((s.channel h).state = .off → exec (.checkBad h) s = .next s ∧ exec (.badStart h) s = .next s)

/-- R26, R27, R29 to R34, VALID, INVERTED and CHANNEL HOLD TIMER EXPIRY: frames of one ID build a candidate
that the third confirms, a confirmed ID is kept alive by its own frames and replaced by three frames of a
challenger, the third INVERTED frame in a run turns the polarity and raises TAG_POLARITY, and the hold
timer's expiry returns the channel to SEARCHING; reports go to the channel's own hose. R34 has no report queued or
stored: that one which is handed over stands in a list until its hose takes it is the model's choice
(assumption 5). -/
def Obligations.ChannelsConfirmAndLoseTags : Prop :=
  ∀ (h : Hose) (id : TagId) (s : State), s.power = .on →
    let c := s.channel h
    let hold : Timer := .running (s.config h).holdPeriod
    let valids := min (c.valids + 1) 65535
    let shown (c' : Channel) (rs : List TagReport) : Prop :=
      exec (.valid h id) s = .next ((s.setChannels (s.channels.set h c')).setHanded
        (s.handed ++ rs.map (.report h)))
    (c.state = .off → exec (.valid h id) s = .next s) ∧
    (c.state = .searching → shown
      { c with state := .acquiring id 1, run := 0, hold := hold, valids := valids } []) ∧
    (∀ other n, c.state = .acquiring other n →
      (other ≠ id → shown
        { c with state := .acquiring id 1, run := 0, hold := hold, valids := valids } []) ∧
      (other = id → n ≠ 2 → shown
        { c with state := .acquiring id (n + 1), run := 0, hold := hold, valids := valids } []) ∧
      (other = id → n = 2 → shown
        { c with state := .confirmed id none, run := 0, hold := hold, valids := valids }
        [.confirmed id])) ∧
    (∀ own chal, c.state = .confirmed own chal →
      (own = id → shown
        { c with state := .confirmed own none, run := 0, hold := hold, valids := valids } []) ∧
      (own ≠ id → (∀ n, chal ≠ some (id, n)) → shown
        { c with state := .confirmed own (some (id, 1)), run := 0, valids := valids } []) ∧
      (∀ n, own ≠ id → chal = some (id, n) → n ≠ 2 → shown
        { c with state := .confirmed own (some (id, n + 1)), run := 0, valids := valids } []) ∧
      (own ≠ id → chal = some (id, 2) → shown
        { c with state := .confirmed id none, run := 0, hold := hold, valids := valids }
        [.changed id])) ∧
    (c.state ≠ .off →
      (c.run ≠ 2 → exec (.inverted h id) s = .next
        (s.setChannels (s.channels.set h { c with run := c.run + 1 }))) ∧
      (c.run = 2 → exec (.inverted h id) s = .next (raiseAlarm (.tagPolarity h)
        (s.setChannels (s.channels.set h { c with
          inverted := !c.inverted, run := 0, switches := min (c.switches + 1) 65535 }))))) ∧
    (∀ n, c.hold = .running n →
      (∀ own chal, c.state = .confirmed own chal → exec (.channelHoldTimerExpiry h) s =
        .next ((s.setChannels (s.channels.set h { c with
          state := .searching, hold := .stopped })).setHanded (s.handed ++ [.report h .lost]))) ∧
      (∀ cand k, c.state = .acquiring cand k → exec (.channelHoldTimerExpiry h) s =
        .next (s.setChannels (s.channels.set h { c with
          state := .searching, hold := .stopped }))))

/-- R9 to R13, TEMP READING, TEMP FAULT INDICATION and SOURCE HOLD TIMER EXPIRY: a reading with the probe's
offset makes the source VALID or, outside −4000 to 7000, CLAMPED at the bound with TEMP_RANGE raised at the
entry; a fault holds the held temperature for 60 s, and then the source is in DEFAULT with PROBE_FAULT
raised; and the temperature that each state gives. That DEFAULT keeps the held temperature is inferred
(assumption 34). -/
def Obligations.SourcesFollowTheirProbes : Prop :=
  ∀ (p : Probe) (reading : Int) (s : State), s.power = .on →
    let temp := reading + s.store.cal.set.offset.get p
    (-4000 ≤ temp → temp ≤ 7000 → exec (.tempReading p reading) s =
      .next (s.setSources (s.sources.set p ⟨.valid, some temp, .stopped⟩))) ∧
    (temp < -4000 ∨ 7000 < temp →
      ((s.source p).state ≠ .clamped → exec (.tempReading p reading) s =
        .next (raiseAlarm (.tempRange p) (s.setSources (s.sources.set p
          ⟨.clamped, some (if temp < -4000 then -4000 else 7000), .stopped⟩)))) ∧
      ((s.source p).state = .clamped → exec (.tempReading p reading) s =
        .next (s.setSources (s.sources.set p
          ⟨.clamped, some (if temp < -4000 then -4000 else 7000), .stopped⟩)))) ∧
    (∀ held, (s.source p).held = some held →
      ((s.source p).state = .valid ∨ (s.source p).state = .clamped →
        exec (.tempFaultIndication p) s = .next (s.setSources (s.sources.set p
          { s.source p with state := .holding, hold := .running 60 })))) ∧
    ((s.source p).held = none →
      (s.source p).state = .valid ∨ (s.source p).state = .clamped →
      exec (.tempFaultIndication p) s = .next (raiseAlarm (.tempProbeFault p)
        (s.setSources (s.sources.set p { s.source p with state := .defaulted, hold := .stopped })))) ∧
    ((s.source p).state = .holding ∨ (s.source p).state = .defaulted →
      exec (.tempFaultIndication p) s = .next s) ∧
    (∀ n, (s.source p).hold = .running n → exec (.sourceHoldTimerExpiry p) s =
      .next (raiseAlarm (.tempProbeFault p) (s.setSources (s.sources.set p
        { s.source p with state := .defaulted, hold := .stopped })))) ∧
    (∀ src : Source,
      (src.state = .defaulted → sourceTemp src = 1500) ∧
      (src.state = .valid → src.held = none → sourceTemp src = 1500) ∧
      (∀ held, src.state ≠ .defaulted → src.held = some held → sourceTemp src = held))
end

