-- ==== Sys2Proof/Laws/State.lean ====
section
/-! SUPPORT. One lemma per field per update of the state, and the read-after-write lemmas of the
containers and tables. -/

namespace Sys2Proof.Machine

@[simp] theorem State.setMachines_machines (v : Table MachineEntry) (s : State) : (s.setMachines v).store.machines = v := rfl
@[simp] theorem State.setMachines_queue (v : Table MachineEntry) (s : State) : (s.setMachines v).store.queue = s.store.queue := rfl
@[simp] theorem State.setMachines_accounts (v : Table MachineEntry) (s : State) : (s.setMachines v).store.accounts = s.store.accounts := rfl
@[simp] theorem State.setMachines_hoseConfigs (v : Table MachineEntry) (s : State) : (s.setMachines v).store.hoseConfigs = s.store.hoseConfigs := rfl
@[simp] theorem State.setMachines_txs (v : Table MachineEntry) (s : State) : (s.setMachines v).store.txs = s.store.txs := rfl
@[simp] theorem State.setMachines_pumpConfigs (v : Table MachineEntry) (s : State) : (s.setMachines v).store.pumpConfigs = s.store.pumpConfigs := rfl
@[simp] theorem State.setMachines_comps (v : Table MachineEntry) (s : State) : (s.setMachines v).store.comps = s.store.comps := rfl
@[simp] theorem State.setMachines_delivery (v : Table MachineEntry) (s : State) : (s.setMachines v).store.delivery = s.store.delivery := rfl
@[simp] theorem State.setMachines_selector (v : Table MachineEntry) (s : State) : (s.setMachines v).store.selector = s.store.selector := rfl
@[simp] theorem State.setMachines_log (v : Table MachineEntry) (s : State) : (s.setMachines v).store.log = s.store.log := rfl
@[simp] theorem State.setMachines_shift (v : Table MachineEntry) (s : State) : (s.setMachines v).store.shift = s.store.shift := rfl
@[simp] theorem State.setMachines_cal (v : Table MachineEntry) (s : State) : (s.setMachines v).store.cal = s.store.cal := rfl
@[simp] theorem State.setMachines_site (v : Table MachineEntry) (s : State) : (s.setMachines v).store.site = s.store.site := rfl
@[simp] theorem State.setMachines_clock (v : Table MachineEntry) (s : State) : (s.setMachines v).clock = s.clock := rfl
@[simp] theorem State.setMachines_channels (v : Table MachineEntry) (s : State) : (s.setMachines v).channels = s.channels := rfl
@[simp] theorem State.setMachines_hoses (v : Table MachineEntry) (s : State) : (s.setMachines v).hoses = s.hoses := rfl
@[simp] theorem State.setMachines_meters (v : Table MachineEntry) (s : State) : (s.setMachines v).meters = s.meters := rfl
@[simp] theorem State.setMachines_sources (v : Table MachineEntry) (s : State) : (s.setMachines v).sources = s.sources := rfl
@[simp] theorem State.setMachines_pumps (v : Table MachineEntry) (s : State) : (s.setMachines v).pumps = s.pumps := rfl
@[simp] theorem State.setMachines_units (v : Table MachineEntry) (s : State) : (s.setMachines v).units = s.units := rfl
@[simp] theorem State.setMachines_inlet (v : Table MachineEntry) (s : State) : (s.setMachines v).inlet = s.inlet := rfl
@[simp] theorem State.setMachines_logWatch (v : Table MachineEntry) (s : State) : (s.setMachines v).logWatch = s.logWatch := rfl
@[simp] theorem State.setMachines_guard (v : Table MachineEntry) (s : State) : (s.setMachines v).guard = s.guard := rfl
@[simp] theorem State.setMachines_park (v : Table MachineEntry) (s : State) : (s.setMachines v).park = s.park := rfl
@[simp] theorem State.setMachines_link (v : Table MachineEntry) (s : State) : (s.setMachines v).link = s.link := rfl
@[simp] theorem State.setMachines_alarms (v : Table MachineEntry) (s : State) : (s.setMachines v).alarms = s.alarms := rfl
@[simp] theorem State.setMachines_inputs (v : Table MachineEntry) (s : State) : (s.setMachines v).inputs = s.inputs := rfl
@[simp] theorem State.setMachines_power (v : Table MachineEntry) (s : State) : (s.setMachines v).power = s.power := rfl
@[simp] theorem State.setMachines_handed (v : Table MachineEntry) (s : State) : (s.setMachines v).handed = s.handed := rfl
@[simp] theorem State.setMachines_draws (v : Table MachineEntry) (s : State) : (s.setMachines v).draws = s.draws := rfl
@[simp] theorem State.setMachines_pending (v : Table MachineEntry) (s : State) : (s.setMachines v).pending = s.pending := rfl
@[simp] theorem State.setMachines_line (v : Table MachineEntry) (s : State) : (s.setMachines v).line = s.line := rfl
@[simp] theorem State.setQueue_machines (v : List Update) (s : State) : (s.setQueue v).store.machines = s.store.machines := rfl
@[simp] theorem State.setQueue_queue (v : List Update) (s : State) : (s.setQueue v).store.queue = v := rfl
@[simp] theorem State.setQueue_accounts (v : List Update) (s : State) : (s.setQueue v).store.accounts = s.store.accounts := rfl
@[simp] theorem State.setQueue_hoseConfigs (v : List Update) (s : State) : (s.setQueue v).store.hoseConfigs = s.store.hoseConfigs := rfl
@[simp] theorem State.setQueue_txs (v : List Update) (s : State) : (s.setQueue v).store.txs = s.store.txs := rfl
@[simp] theorem State.setQueue_pumpConfigs (v : List Update) (s : State) : (s.setQueue v).store.pumpConfigs = s.store.pumpConfigs := rfl
@[simp] theorem State.setQueue_comps (v : List Update) (s : State) : (s.setQueue v).store.comps = s.store.comps := rfl
@[simp] theorem State.setQueue_delivery (v : List Update) (s : State) : (s.setQueue v).store.delivery = s.store.delivery := rfl
@[simp] theorem State.setQueue_selector (v : List Update) (s : State) : (s.setQueue v).store.selector = s.store.selector := rfl
@[simp] theorem State.setQueue_log (v : List Update) (s : State) : (s.setQueue v).store.log = s.store.log := rfl
@[simp] theorem State.setQueue_shift (v : List Update) (s : State) : (s.setQueue v).store.shift = s.store.shift := rfl
@[simp] theorem State.setQueue_cal (v : List Update) (s : State) : (s.setQueue v).store.cal = s.store.cal := rfl
@[simp] theorem State.setQueue_site (v : List Update) (s : State) : (s.setQueue v).store.site = s.store.site := rfl
@[simp] theorem State.setQueue_clock (v : List Update) (s : State) : (s.setQueue v).clock = s.clock := rfl
@[simp] theorem State.setQueue_channels (v : List Update) (s : State) : (s.setQueue v).channels = s.channels := rfl
@[simp] theorem State.setQueue_hoses (v : List Update) (s : State) : (s.setQueue v).hoses = s.hoses := rfl
@[simp] theorem State.setQueue_meters (v : List Update) (s : State) : (s.setQueue v).meters = s.meters := rfl
@[simp] theorem State.setQueue_sources (v : List Update) (s : State) : (s.setQueue v).sources = s.sources := rfl
@[simp] theorem State.setQueue_pumps (v : List Update) (s : State) : (s.setQueue v).pumps = s.pumps := rfl
@[simp] theorem State.setQueue_units (v : List Update) (s : State) : (s.setQueue v).units = s.units := rfl
@[simp] theorem State.setQueue_inlet (v : List Update) (s : State) : (s.setQueue v).inlet = s.inlet := rfl
@[simp] theorem State.setQueue_logWatch (v : List Update) (s : State) : (s.setQueue v).logWatch = s.logWatch := rfl
@[simp] theorem State.setQueue_guard (v : List Update) (s : State) : (s.setQueue v).guard = s.guard := rfl
@[simp] theorem State.setQueue_park (v : List Update) (s : State) : (s.setQueue v).park = s.park := rfl
@[simp] theorem State.setQueue_link (v : List Update) (s : State) : (s.setQueue v).link = s.link := rfl
@[simp] theorem State.setQueue_alarms (v : List Update) (s : State) : (s.setQueue v).alarms = s.alarms := rfl
@[simp] theorem State.setQueue_inputs (v : List Update) (s : State) : (s.setQueue v).inputs = s.inputs := rfl
@[simp] theorem State.setQueue_power (v : List Update) (s : State) : (s.setQueue v).power = s.power := rfl
@[simp] theorem State.setQueue_handed (v : List Update) (s : State) : (s.setQueue v).handed = s.handed := rfl
@[simp] theorem State.setQueue_draws (v : List Update) (s : State) : (s.setQueue v).draws = s.draws := rfl
@[simp] theorem State.setQueue_pending (v : List Update) (s : State) : (s.setQueue v).pending = s.pending := rfl
@[simp] theorem State.setQueue_line (v : List Update) (s : State) : (s.setQueue v).line = s.line := rfl
@[simp] theorem State.setAccounts_machines (v : Table Account) (s : State) : (s.setAccounts v).store.machines = s.store.machines := rfl
@[simp] theorem State.setAccounts_queue (v : Table Account) (s : State) : (s.setAccounts v).store.queue = s.store.queue := rfl
@[simp] theorem State.setAccounts_accounts (v : Table Account) (s : State) : (s.setAccounts v).store.accounts = v := rfl
@[simp] theorem State.setAccounts_hoseConfigs (v : Table Account) (s : State) : (s.setAccounts v).store.hoseConfigs = s.store.hoseConfigs := rfl
@[simp] theorem State.setAccounts_txs (v : Table Account) (s : State) : (s.setAccounts v).store.txs = s.store.txs := rfl
@[simp] theorem State.setAccounts_pumpConfigs (v : Table Account) (s : State) : (s.setAccounts v).store.pumpConfigs = s.store.pumpConfigs := rfl
@[simp] theorem State.setAccounts_comps (v : Table Account) (s : State) : (s.setAccounts v).store.comps = s.store.comps := rfl
@[simp] theorem State.setAccounts_delivery (v : Table Account) (s : State) : (s.setAccounts v).store.delivery = s.store.delivery := rfl
@[simp] theorem State.setAccounts_selector (v : Table Account) (s : State) : (s.setAccounts v).store.selector = s.store.selector := rfl
@[simp] theorem State.setAccounts_log (v : Table Account) (s : State) : (s.setAccounts v).store.log = s.store.log := rfl
@[simp] theorem State.setAccounts_shift (v : Table Account) (s : State) : (s.setAccounts v).store.shift = s.store.shift := rfl
@[simp] theorem State.setAccounts_cal (v : Table Account) (s : State) : (s.setAccounts v).store.cal = s.store.cal := rfl
@[simp] theorem State.setAccounts_site (v : Table Account) (s : State) : (s.setAccounts v).store.site = s.store.site := rfl
@[simp] theorem State.setAccounts_clock (v : Table Account) (s : State) : (s.setAccounts v).clock = s.clock := rfl
@[simp] theorem State.setAccounts_channels (v : Table Account) (s : State) : (s.setAccounts v).channels = s.channels := rfl
@[simp] theorem State.setAccounts_hoses (v : Table Account) (s : State) : (s.setAccounts v).hoses = s.hoses := rfl
@[simp] theorem State.setAccounts_meters (v : Table Account) (s : State) : (s.setAccounts v).meters = s.meters := rfl
@[simp] theorem State.setAccounts_sources (v : Table Account) (s : State) : (s.setAccounts v).sources = s.sources := rfl
@[simp] theorem State.setAccounts_pumps (v : Table Account) (s : State) : (s.setAccounts v).pumps = s.pumps := rfl
@[simp] theorem State.setAccounts_units (v : Table Account) (s : State) : (s.setAccounts v).units = s.units := rfl
@[simp] theorem State.setAccounts_inlet (v : Table Account) (s : State) : (s.setAccounts v).inlet = s.inlet := rfl
@[simp] theorem State.setAccounts_logWatch (v : Table Account) (s : State) : (s.setAccounts v).logWatch = s.logWatch := rfl
@[simp] theorem State.setAccounts_guard (v : Table Account) (s : State) : (s.setAccounts v).guard = s.guard := rfl
@[simp] theorem State.setAccounts_park (v : Table Account) (s : State) : (s.setAccounts v).park = s.park := rfl
@[simp] theorem State.setAccounts_link (v : Table Account) (s : State) : (s.setAccounts v).link = s.link := rfl
@[simp] theorem State.setAccounts_alarms (v : Table Account) (s : State) : (s.setAccounts v).alarms = s.alarms := rfl
@[simp] theorem State.setAccounts_inputs (v : Table Account) (s : State) : (s.setAccounts v).inputs = s.inputs := rfl
@[simp] theorem State.setAccounts_power (v : Table Account) (s : State) : (s.setAccounts v).power = s.power := rfl
@[simp] theorem State.setAccounts_handed (v : Table Account) (s : State) : (s.setAccounts v).handed = s.handed := rfl
@[simp] theorem State.setAccounts_draws (v : Table Account) (s : State) : (s.setAccounts v).draws = s.draws := rfl
@[simp] theorem State.setAccounts_pending (v : Table Account) (s : State) : (s.setAccounts v).pending = s.pending := rfl
@[simp] theorem State.setAccounts_line (v : Table Account) (s : State) : (s.setAccounts v).line = s.line := rfl
@[simp] theorem State.setHoseConfigs_machines (v : PerHose HoseConfig) (s : State) : (s.setHoseConfigs v).store.machines = s.store.machines := rfl
@[simp] theorem State.setHoseConfigs_queue (v : PerHose HoseConfig) (s : State) : (s.setHoseConfigs v).store.queue = s.store.queue := rfl
@[simp] theorem State.setHoseConfigs_accounts (v : PerHose HoseConfig) (s : State) : (s.setHoseConfigs v).store.accounts = s.store.accounts := rfl
@[simp] theorem State.setHoseConfigs_hoseConfigs (v : PerHose HoseConfig) (s : State) : (s.setHoseConfigs v).store.hoseConfigs = v := rfl
@[simp] theorem State.setHoseConfigs_txs (v : PerHose HoseConfig) (s : State) : (s.setHoseConfigs v).store.txs = s.store.txs := rfl
@[simp] theorem State.setHoseConfigs_pumpConfigs (v : PerHose HoseConfig) (s : State) : (s.setHoseConfigs v).store.pumpConfigs = s.store.pumpConfigs := rfl
@[simp] theorem State.setHoseConfigs_comps (v : PerHose HoseConfig) (s : State) : (s.setHoseConfigs v).store.comps = s.store.comps := rfl
@[simp] theorem State.setHoseConfigs_delivery (v : PerHose HoseConfig) (s : State) : (s.setHoseConfigs v).store.delivery = s.store.delivery := rfl
@[simp] theorem State.setHoseConfigs_selector (v : PerHose HoseConfig) (s : State) : (s.setHoseConfigs v).store.selector = s.store.selector := rfl
@[simp] theorem State.setHoseConfigs_log (v : PerHose HoseConfig) (s : State) : (s.setHoseConfigs v).store.log = s.store.log := rfl
@[simp] theorem State.setHoseConfigs_shift (v : PerHose HoseConfig) (s : State) : (s.setHoseConfigs v).store.shift = s.store.shift := rfl
@[simp] theorem State.setHoseConfigs_cal (v : PerHose HoseConfig) (s : State) : (s.setHoseConfigs v).store.cal = s.store.cal := rfl
@[simp] theorem State.setHoseConfigs_site (v : PerHose HoseConfig) (s : State) : (s.setHoseConfigs v).store.site = s.store.site := rfl
@[simp] theorem State.setHoseConfigs_clock (v : PerHose HoseConfig) (s : State) : (s.setHoseConfigs v).clock = s.clock := rfl
@[simp] theorem State.setHoseConfigs_channels (v : PerHose HoseConfig) (s : State) : (s.setHoseConfigs v).channels = s.channels := rfl
@[simp] theorem State.setHoseConfigs_hoses (v : PerHose HoseConfig) (s : State) : (s.setHoseConfigs v).hoses = s.hoses := rfl
@[simp] theorem State.setHoseConfigs_meters (v : PerHose HoseConfig) (s : State) : (s.setHoseConfigs v).meters = s.meters := rfl
@[simp] theorem State.setHoseConfigs_sources (v : PerHose HoseConfig) (s : State) : (s.setHoseConfigs v).sources = s.sources := rfl
@[simp] theorem State.setHoseConfigs_pumps (v : PerHose HoseConfig) (s : State) : (s.setHoseConfigs v).pumps = s.pumps := rfl
@[simp] theorem State.setHoseConfigs_units (v : PerHose HoseConfig) (s : State) : (s.setHoseConfigs v).units = s.units := rfl
@[simp] theorem State.setHoseConfigs_inlet (v : PerHose HoseConfig) (s : State) : (s.setHoseConfigs v).inlet = s.inlet := rfl
@[simp] theorem State.setHoseConfigs_logWatch (v : PerHose HoseConfig) (s : State) : (s.setHoseConfigs v).logWatch = s.logWatch := rfl
@[simp] theorem State.setHoseConfigs_guard (v : PerHose HoseConfig) (s : State) : (s.setHoseConfigs v).guard = s.guard := rfl
@[simp] theorem State.setHoseConfigs_park (v : PerHose HoseConfig) (s : State) : (s.setHoseConfigs v).park = s.park := rfl
@[simp] theorem State.setHoseConfigs_link (v : PerHose HoseConfig) (s : State) : (s.setHoseConfigs v).link = s.link := rfl
@[simp] theorem State.setHoseConfigs_alarms (v : PerHose HoseConfig) (s : State) : (s.setHoseConfigs v).alarms = s.alarms := rfl
@[simp] theorem State.setHoseConfigs_inputs (v : PerHose HoseConfig) (s : State) : (s.setHoseConfigs v).inputs = s.inputs := rfl
@[simp] theorem State.setHoseConfigs_power (v : PerHose HoseConfig) (s : State) : (s.setHoseConfigs v).power = s.power := rfl
@[simp] theorem State.setHoseConfigs_handed (v : PerHose HoseConfig) (s : State) : (s.setHoseConfigs v).handed = s.handed := rfl
@[simp] theorem State.setHoseConfigs_draws (v : PerHose HoseConfig) (s : State) : (s.setHoseConfigs v).draws = s.draws := rfl
@[simp] theorem State.setHoseConfigs_pending (v : PerHose HoseConfig) (s : State) : (s.setHoseConfigs v).pending = s.pending := rfl
@[simp] theorem State.setHoseConfigs_line (v : PerHose HoseConfig) (s : State) : (s.setHoseConfigs v).line = s.line := rfl
@[simp] theorem State.setTxs_machines (v : PerHose (Option Transaction)) (s : State) : (s.setTxs v).store.machines = s.store.machines := rfl
@[simp] theorem State.setTxs_queue (v : PerHose (Option Transaction)) (s : State) : (s.setTxs v).store.queue = s.store.queue := rfl
@[simp] theorem State.setTxs_accounts (v : PerHose (Option Transaction)) (s : State) : (s.setTxs v).store.accounts = s.store.accounts := rfl
@[simp] theorem State.setTxs_hoseConfigs (v : PerHose (Option Transaction)) (s : State) : (s.setTxs v).store.hoseConfigs = s.store.hoseConfigs := rfl
@[simp] theorem State.setTxs_txs (v : PerHose (Option Transaction)) (s : State) : (s.setTxs v).store.txs = v := rfl
@[simp] theorem State.setTxs_pumpConfigs (v : PerHose (Option Transaction)) (s : State) : (s.setTxs v).store.pumpConfigs = s.store.pumpConfigs := rfl
@[simp] theorem State.setTxs_comps (v : PerHose (Option Transaction)) (s : State) : (s.setTxs v).store.comps = s.store.comps := rfl
@[simp] theorem State.setTxs_delivery (v : PerHose (Option Transaction)) (s : State) : (s.setTxs v).store.delivery = s.store.delivery := rfl
@[simp] theorem State.setTxs_selector (v : PerHose (Option Transaction)) (s : State) : (s.setTxs v).store.selector = s.store.selector := rfl
@[simp] theorem State.setTxs_log (v : PerHose (Option Transaction)) (s : State) : (s.setTxs v).store.log = s.store.log := rfl
@[simp] theorem State.setTxs_shift (v : PerHose (Option Transaction)) (s : State) : (s.setTxs v).store.shift = s.store.shift := rfl
@[simp] theorem State.setTxs_cal (v : PerHose (Option Transaction)) (s : State) : (s.setTxs v).store.cal = s.store.cal := rfl
@[simp] theorem State.setTxs_site (v : PerHose (Option Transaction)) (s : State) : (s.setTxs v).store.site = s.store.site := rfl
@[simp] theorem State.setTxs_clock (v : PerHose (Option Transaction)) (s : State) : (s.setTxs v).clock = s.clock := rfl
@[simp] theorem State.setTxs_channels (v : PerHose (Option Transaction)) (s : State) : (s.setTxs v).channels = s.channels := rfl
@[simp] theorem State.setTxs_hoses (v : PerHose (Option Transaction)) (s : State) : (s.setTxs v).hoses = s.hoses := rfl
@[simp] theorem State.setTxs_meters (v : PerHose (Option Transaction)) (s : State) : (s.setTxs v).meters = s.meters := rfl
@[simp] theorem State.setTxs_sources (v : PerHose (Option Transaction)) (s : State) : (s.setTxs v).sources = s.sources := rfl
@[simp] theorem State.setTxs_pumps (v : PerHose (Option Transaction)) (s : State) : (s.setTxs v).pumps = s.pumps := rfl
@[simp] theorem State.setTxs_units (v : PerHose (Option Transaction)) (s : State) : (s.setTxs v).units = s.units := rfl
@[simp] theorem State.setTxs_inlet (v : PerHose (Option Transaction)) (s : State) : (s.setTxs v).inlet = s.inlet := rfl
@[simp] theorem State.setTxs_logWatch (v : PerHose (Option Transaction)) (s : State) : (s.setTxs v).logWatch = s.logWatch := rfl
@[simp] theorem State.setTxs_guard (v : PerHose (Option Transaction)) (s : State) : (s.setTxs v).guard = s.guard := rfl
@[simp] theorem State.setTxs_park (v : PerHose (Option Transaction)) (s : State) : (s.setTxs v).park = s.park := rfl
@[simp] theorem State.setTxs_link (v : PerHose (Option Transaction)) (s : State) : (s.setTxs v).link = s.link := rfl
@[simp] theorem State.setTxs_alarms (v : PerHose (Option Transaction)) (s : State) : (s.setTxs v).alarms = s.alarms := rfl
@[simp] theorem State.setTxs_inputs (v : PerHose (Option Transaction)) (s : State) : (s.setTxs v).inputs = s.inputs := rfl
@[simp] theorem State.setTxs_power (v : PerHose (Option Transaction)) (s : State) : (s.setTxs v).power = s.power := rfl
@[simp] theorem State.setTxs_handed (v : PerHose (Option Transaction)) (s : State) : (s.setTxs v).handed = s.handed := rfl
@[simp] theorem State.setTxs_draws (v : PerHose (Option Transaction)) (s : State) : (s.setTxs v).draws = s.draws := rfl
@[simp] theorem State.setTxs_pending (v : PerHose (Option Transaction)) (s : State) : (s.setTxs v).pending = s.pending := rfl
@[simp] theorem State.setTxs_line (v : PerHose (Option Transaction)) (s : State) : (s.setTxs v).line = s.line := rfl
@[simp] theorem State.setPumpConfigs_machines (v : PerComp PumpConfig) (s : State) : (s.setPumpConfigs v).store.machines = s.store.machines := rfl
@[simp] theorem State.setPumpConfigs_queue (v : PerComp PumpConfig) (s : State) : (s.setPumpConfigs v).store.queue = s.store.queue := rfl
@[simp] theorem State.setPumpConfigs_accounts (v : PerComp PumpConfig) (s : State) : (s.setPumpConfigs v).store.accounts = s.store.accounts := rfl
@[simp] theorem State.setPumpConfigs_hoseConfigs (v : PerComp PumpConfig) (s : State) : (s.setPumpConfigs v).store.hoseConfigs = s.store.hoseConfigs := rfl
@[simp] theorem State.setPumpConfigs_txs (v : PerComp PumpConfig) (s : State) : (s.setPumpConfigs v).store.txs = s.store.txs := rfl
@[simp] theorem State.setPumpConfigs_pumpConfigs (v : PerComp PumpConfig) (s : State) : (s.setPumpConfigs v).store.pumpConfigs = v := rfl
@[simp] theorem State.setPumpConfigs_comps (v : PerComp PumpConfig) (s : State) : (s.setPumpConfigs v).store.comps = s.store.comps := rfl
@[simp] theorem State.setPumpConfigs_delivery (v : PerComp PumpConfig) (s : State) : (s.setPumpConfigs v).store.delivery = s.store.delivery := rfl
@[simp] theorem State.setPumpConfigs_selector (v : PerComp PumpConfig) (s : State) : (s.setPumpConfigs v).store.selector = s.store.selector := rfl
@[simp] theorem State.setPumpConfigs_log (v : PerComp PumpConfig) (s : State) : (s.setPumpConfigs v).store.log = s.store.log := rfl
@[simp] theorem State.setPumpConfigs_shift (v : PerComp PumpConfig) (s : State) : (s.setPumpConfigs v).store.shift = s.store.shift := rfl
@[simp] theorem State.setPumpConfigs_cal (v : PerComp PumpConfig) (s : State) : (s.setPumpConfigs v).store.cal = s.store.cal := rfl
@[simp] theorem State.setPumpConfigs_site (v : PerComp PumpConfig) (s : State) : (s.setPumpConfigs v).store.site = s.store.site := rfl
@[simp] theorem State.setPumpConfigs_clock (v : PerComp PumpConfig) (s : State) : (s.setPumpConfigs v).clock = s.clock := rfl
@[simp] theorem State.setPumpConfigs_channels (v : PerComp PumpConfig) (s : State) : (s.setPumpConfigs v).channels = s.channels := rfl
@[simp] theorem State.setPumpConfigs_hoses (v : PerComp PumpConfig) (s : State) : (s.setPumpConfigs v).hoses = s.hoses := rfl
@[simp] theorem State.setPumpConfigs_meters (v : PerComp PumpConfig) (s : State) : (s.setPumpConfigs v).meters = s.meters := rfl
@[simp] theorem State.setPumpConfigs_sources (v : PerComp PumpConfig) (s : State) : (s.setPumpConfigs v).sources = s.sources := rfl
@[simp] theorem State.setPumpConfigs_pumps (v : PerComp PumpConfig) (s : State) : (s.setPumpConfigs v).pumps = s.pumps := rfl
@[simp] theorem State.setPumpConfigs_units (v : PerComp PumpConfig) (s : State) : (s.setPumpConfigs v).units = s.units := rfl
@[simp] theorem State.setPumpConfigs_inlet (v : PerComp PumpConfig) (s : State) : (s.setPumpConfigs v).inlet = s.inlet := rfl
@[simp] theorem State.setPumpConfigs_logWatch (v : PerComp PumpConfig) (s : State) : (s.setPumpConfigs v).logWatch = s.logWatch := rfl
@[simp] theorem State.setPumpConfigs_guard (v : PerComp PumpConfig) (s : State) : (s.setPumpConfigs v).guard = s.guard := rfl
@[simp] theorem State.setPumpConfigs_park (v : PerComp PumpConfig) (s : State) : (s.setPumpConfigs v).park = s.park := rfl
@[simp] theorem State.setPumpConfigs_link (v : PerComp PumpConfig) (s : State) : (s.setPumpConfigs v).link = s.link := rfl
@[simp] theorem State.setPumpConfigs_alarms (v : PerComp PumpConfig) (s : State) : (s.setPumpConfigs v).alarms = s.alarms := rfl
@[simp] theorem State.setPumpConfigs_inputs (v : PerComp PumpConfig) (s : State) : (s.setPumpConfigs v).inputs = s.inputs := rfl
@[simp] theorem State.setPumpConfigs_power (v : PerComp PumpConfig) (s : State) : (s.setPumpConfigs v).power = s.power := rfl
@[simp] theorem State.setPumpConfigs_handed (v : PerComp PumpConfig) (s : State) : (s.setPumpConfigs v).handed = s.handed := rfl
@[simp] theorem State.setPumpConfigs_draws (v : PerComp PumpConfig) (s : State) : (s.setPumpConfigs v).draws = s.draws := rfl
@[simp] theorem State.setPumpConfigs_pending (v : PerComp PumpConfig) (s : State) : (s.setPumpConfigs v).pending = s.pending := rfl
@[simp] theorem State.setPumpConfigs_line (v : PerComp PumpConfig) (s : State) : (s.setPumpConfigs v).line = s.line := rfl
@[simp] theorem State.setComps_machines (v : PerComp Compartment) (s : State) : (s.setComps v).store.machines = s.store.machines := rfl
@[simp] theorem State.setComps_queue (v : PerComp Compartment) (s : State) : (s.setComps v).store.queue = s.store.queue := rfl
@[simp] theorem State.setComps_accounts (v : PerComp Compartment) (s : State) : (s.setComps v).store.accounts = s.store.accounts := rfl
@[simp] theorem State.setComps_hoseConfigs (v : PerComp Compartment) (s : State) : (s.setComps v).store.hoseConfigs = s.store.hoseConfigs := rfl
@[simp] theorem State.setComps_txs (v : PerComp Compartment) (s : State) : (s.setComps v).store.txs = s.store.txs := rfl
@[simp] theorem State.setComps_pumpConfigs (v : PerComp Compartment) (s : State) : (s.setComps v).store.pumpConfigs = s.store.pumpConfigs := rfl
@[simp] theorem State.setComps_comps (v : PerComp Compartment) (s : State) : (s.setComps v).store.comps = v := rfl
@[simp] theorem State.setComps_delivery (v : PerComp Compartment) (s : State) : (s.setComps v).store.delivery = s.store.delivery := rfl
@[simp] theorem State.setComps_selector (v : PerComp Compartment) (s : State) : (s.setComps v).store.selector = s.store.selector := rfl
@[simp] theorem State.setComps_log (v : PerComp Compartment) (s : State) : (s.setComps v).store.log = s.store.log := rfl
@[simp] theorem State.setComps_shift (v : PerComp Compartment) (s : State) : (s.setComps v).store.shift = s.store.shift := rfl
@[simp] theorem State.setComps_cal (v : PerComp Compartment) (s : State) : (s.setComps v).store.cal = s.store.cal := rfl
@[simp] theorem State.setComps_site (v : PerComp Compartment) (s : State) : (s.setComps v).store.site = s.store.site := rfl
@[simp] theorem State.setComps_clock (v : PerComp Compartment) (s : State) : (s.setComps v).clock = s.clock := rfl
@[simp] theorem State.setComps_channels (v : PerComp Compartment) (s : State) : (s.setComps v).channels = s.channels := rfl
@[simp] theorem State.setComps_hoses (v : PerComp Compartment) (s : State) : (s.setComps v).hoses = s.hoses := rfl
@[simp] theorem State.setComps_meters (v : PerComp Compartment) (s : State) : (s.setComps v).meters = s.meters := rfl
@[simp] theorem State.setComps_sources (v : PerComp Compartment) (s : State) : (s.setComps v).sources = s.sources := rfl
@[simp] theorem State.setComps_pumps (v : PerComp Compartment) (s : State) : (s.setComps v).pumps = s.pumps := rfl
@[simp] theorem State.setComps_units (v : PerComp Compartment) (s : State) : (s.setComps v).units = s.units := rfl
@[simp] theorem State.setComps_inlet (v : PerComp Compartment) (s : State) : (s.setComps v).inlet = s.inlet := rfl
@[simp] theorem State.setComps_logWatch (v : PerComp Compartment) (s : State) : (s.setComps v).logWatch = s.logWatch := rfl
@[simp] theorem State.setComps_guard (v : PerComp Compartment) (s : State) : (s.setComps v).guard = s.guard := rfl
@[simp] theorem State.setComps_park (v : PerComp Compartment) (s : State) : (s.setComps v).park = s.park := rfl
@[simp] theorem State.setComps_link (v : PerComp Compartment) (s : State) : (s.setComps v).link = s.link := rfl
@[simp] theorem State.setComps_alarms (v : PerComp Compartment) (s : State) : (s.setComps v).alarms = s.alarms := rfl
@[simp] theorem State.setComps_inputs (v : PerComp Compartment) (s : State) : (s.setComps v).inputs = s.inputs := rfl
@[simp] theorem State.setComps_power (v : PerComp Compartment) (s : State) : (s.setComps v).power = s.power := rfl
@[simp] theorem State.setComps_handed (v : PerComp Compartment) (s : State) : (s.setComps v).handed = s.handed := rfl
@[simp] theorem State.setComps_draws (v : PerComp Compartment) (s : State) : (s.setComps v).draws = s.draws := rfl
@[simp] theorem State.setComps_pending (v : PerComp Compartment) (s : State) : (s.setComps v).pending = s.pending := rfl
@[simp] theorem State.setComps_line (v : PerComp Compartment) (s : State) : (s.setComps v).line = s.line := rfl
@[simp] theorem State.setDelivery_machines (v : Option Delivery) (s : State) : (s.setDelivery v).store.machines = s.store.machines := rfl
@[simp] theorem State.setDelivery_queue (v : Option Delivery) (s : State) : (s.setDelivery v).store.queue = s.store.queue := rfl
@[simp] theorem State.setDelivery_accounts (v : Option Delivery) (s : State) : (s.setDelivery v).store.accounts = s.store.accounts := rfl
@[simp] theorem State.setDelivery_hoseConfigs (v : Option Delivery) (s : State) : (s.setDelivery v).store.hoseConfigs = s.store.hoseConfigs := rfl
@[simp] theorem State.setDelivery_txs (v : Option Delivery) (s : State) : (s.setDelivery v).store.txs = s.store.txs := rfl
@[simp] theorem State.setDelivery_pumpConfigs (v : Option Delivery) (s : State) : (s.setDelivery v).store.pumpConfigs = s.store.pumpConfigs := rfl
@[simp] theorem State.setDelivery_comps (v : Option Delivery) (s : State) : (s.setDelivery v).store.comps = s.store.comps := rfl
@[simp] theorem State.setDelivery_delivery (v : Option Delivery) (s : State) : (s.setDelivery v).store.delivery = v := rfl
@[simp] theorem State.setDelivery_selector (v : Option Delivery) (s : State) : (s.setDelivery v).store.selector = s.store.selector := rfl
@[simp] theorem State.setDelivery_log (v : Option Delivery) (s : State) : (s.setDelivery v).store.log = s.store.log := rfl
@[simp] theorem State.setDelivery_shift (v : Option Delivery) (s : State) : (s.setDelivery v).store.shift = s.store.shift := rfl
@[simp] theorem State.setDelivery_cal (v : Option Delivery) (s : State) : (s.setDelivery v).store.cal = s.store.cal := rfl
@[simp] theorem State.setDelivery_site (v : Option Delivery) (s : State) : (s.setDelivery v).store.site = s.store.site := rfl
@[simp] theorem State.setDelivery_clock (v : Option Delivery) (s : State) : (s.setDelivery v).clock = s.clock := rfl
@[simp] theorem State.setDelivery_channels (v : Option Delivery) (s : State) : (s.setDelivery v).channels = s.channels := rfl
@[simp] theorem State.setDelivery_hoses (v : Option Delivery) (s : State) : (s.setDelivery v).hoses = s.hoses := rfl
@[simp] theorem State.setDelivery_meters (v : Option Delivery) (s : State) : (s.setDelivery v).meters = s.meters := rfl
@[simp] theorem State.setDelivery_sources (v : Option Delivery) (s : State) : (s.setDelivery v).sources = s.sources := rfl
@[simp] theorem State.setDelivery_pumps (v : Option Delivery) (s : State) : (s.setDelivery v).pumps = s.pumps := rfl
@[simp] theorem State.setDelivery_units (v : Option Delivery) (s : State) : (s.setDelivery v).units = s.units := rfl
@[simp] theorem State.setDelivery_inlet (v : Option Delivery) (s : State) : (s.setDelivery v).inlet = s.inlet := rfl
@[simp] theorem State.setDelivery_logWatch (v : Option Delivery) (s : State) : (s.setDelivery v).logWatch = s.logWatch := rfl
@[simp] theorem State.setDelivery_guard (v : Option Delivery) (s : State) : (s.setDelivery v).guard = s.guard := rfl
@[simp] theorem State.setDelivery_park (v : Option Delivery) (s : State) : (s.setDelivery v).park = s.park := rfl
@[simp] theorem State.setDelivery_link (v : Option Delivery) (s : State) : (s.setDelivery v).link = s.link := rfl
@[simp] theorem State.setDelivery_alarms (v : Option Delivery) (s : State) : (s.setDelivery v).alarms = s.alarms := rfl
@[simp] theorem State.setDelivery_inputs (v : Option Delivery) (s : State) : (s.setDelivery v).inputs = s.inputs := rfl
@[simp] theorem State.setDelivery_power (v : Option Delivery) (s : State) : (s.setDelivery v).power = s.power := rfl
@[simp] theorem State.setDelivery_handed (v : Option Delivery) (s : State) : (s.setDelivery v).handed = s.handed := rfl
@[simp] theorem State.setDelivery_draws (v : Option Delivery) (s : State) : (s.setDelivery v).draws = s.draws := rfl
@[simp] theorem State.setDelivery_pending (v : Option Delivery) (s : State) : (s.setDelivery v).pending = s.pending := rfl
@[simp] theorem State.setDelivery_line (v : Option Delivery) (s : State) : (s.setDelivery v).line = s.line := rfl
@[simp] theorem State.setSelector_machines (v : Comp) (s : State) : (s.setSelector v).store.machines = s.store.machines := rfl
@[simp] theorem State.setSelector_queue (v : Comp) (s : State) : (s.setSelector v).store.queue = s.store.queue := rfl
@[simp] theorem State.setSelector_accounts (v : Comp) (s : State) : (s.setSelector v).store.accounts = s.store.accounts := rfl
@[simp] theorem State.setSelector_hoseConfigs (v : Comp) (s : State) : (s.setSelector v).store.hoseConfigs = s.store.hoseConfigs := rfl
@[simp] theorem State.setSelector_txs (v : Comp) (s : State) : (s.setSelector v).store.txs = s.store.txs := rfl
@[simp] theorem State.setSelector_pumpConfigs (v : Comp) (s : State) : (s.setSelector v).store.pumpConfigs = s.store.pumpConfigs := rfl
@[simp] theorem State.setSelector_comps (v : Comp) (s : State) : (s.setSelector v).store.comps = s.store.comps := rfl
@[simp] theorem State.setSelector_delivery (v : Comp) (s : State) : (s.setSelector v).store.delivery = s.store.delivery := rfl
@[simp] theorem State.setSelector_selector (v : Comp) (s : State) : (s.setSelector v).store.selector = v := rfl
@[simp] theorem State.setSelector_log (v : Comp) (s : State) : (s.setSelector v).store.log = s.store.log := rfl
@[simp] theorem State.setSelector_shift (v : Comp) (s : State) : (s.setSelector v).store.shift = s.store.shift := rfl
@[simp] theorem State.setSelector_cal (v : Comp) (s : State) : (s.setSelector v).store.cal = s.store.cal := rfl
@[simp] theorem State.setSelector_site (v : Comp) (s : State) : (s.setSelector v).store.site = s.store.site := rfl
@[simp] theorem State.setSelector_clock (v : Comp) (s : State) : (s.setSelector v).clock = s.clock := rfl
@[simp] theorem State.setSelector_channels (v : Comp) (s : State) : (s.setSelector v).channels = s.channels := rfl
@[simp] theorem State.setSelector_hoses (v : Comp) (s : State) : (s.setSelector v).hoses = s.hoses := rfl
@[simp] theorem State.setSelector_meters (v : Comp) (s : State) : (s.setSelector v).meters = s.meters := rfl
@[simp] theorem State.setSelector_sources (v : Comp) (s : State) : (s.setSelector v).sources = s.sources := rfl
@[simp] theorem State.setSelector_pumps (v : Comp) (s : State) : (s.setSelector v).pumps = s.pumps := rfl
@[simp] theorem State.setSelector_units (v : Comp) (s : State) : (s.setSelector v).units = s.units := rfl
@[simp] theorem State.setSelector_inlet (v : Comp) (s : State) : (s.setSelector v).inlet = s.inlet := rfl
@[simp] theorem State.setSelector_logWatch (v : Comp) (s : State) : (s.setSelector v).logWatch = s.logWatch := rfl
@[simp] theorem State.setSelector_guard (v : Comp) (s : State) : (s.setSelector v).guard = s.guard := rfl
@[simp] theorem State.setSelector_park (v : Comp) (s : State) : (s.setSelector v).park = s.park := rfl
@[simp] theorem State.setSelector_link (v : Comp) (s : State) : (s.setSelector v).link = s.link := rfl
@[simp] theorem State.setSelector_alarms (v : Comp) (s : State) : (s.setSelector v).alarms = s.alarms := rfl
@[simp] theorem State.setSelector_inputs (v : Comp) (s : State) : (s.setSelector v).inputs = s.inputs := rfl
@[simp] theorem State.setSelector_power (v : Comp) (s : State) : (s.setSelector v).power = s.power := rfl
@[simp] theorem State.setSelector_handed (v : Comp) (s : State) : (s.setSelector v).handed = s.handed := rfl
@[simp] theorem State.setSelector_draws (v : Comp) (s : State) : (s.setSelector v).draws = s.draws := rfl
@[simp] theorem State.setSelector_pending (v : Comp) (s : State) : (s.setSelector v).pending = s.pending := rfl
@[simp] theorem State.setSelector_line (v : Comp) (s : State) : (s.setSelector v).line = s.line := rfl
@[simp] theorem State.setLog_machines (v : Log) (s : State) : (s.setLog v).store.machines = s.store.machines := rfl
@[simp] theorem State.setLog_queue (v : Log) (s : State) : (s.setLog v).store.queue = s.store.queue := rfl
@[simp] theorem State.setLog_accounts (v : Log) (s : State) : (s.setLog v).store.accounts = s.store.accounts := rfl
@[simp] theorem State.setLog_hoseConfigs (v : Log) (s : State) : (s.setLog v).store.hoseConfigs = s.store.hoseConfigs := rfl
@[simp] theorem State.setLog_txs (v : Log) (s : State) : (s.setLog v).store.txs = s.store.txs := rfl
@[simp] theorem State.setLog_pumpConfigs (v : Log) (s : State) : (s.setLog v).store.pumpConfigs = s.store.pumpConfigs := rfl
@[simp] theorem State.setLog_comps (v : Log) (s : State) : (s.setLog v).store.comps = s.store.comps := rfl
@[simp] theorem State.setLog_delivery (v : Log) (s : State) : (s.setLog v).store.delivery = s.store.delivery := rfl
@[simp] theorem State.setLog_selector (v : Log) (s : State) : (s.setLog v).store.selector = s.store.selector := rfl
@[simp] theorem State.setLog_log (v : Log) (s : State) : (s.setLog v).store.log = v := rfl
@[simp] theorem State.setLog_shift (v : Log) (s : State) : (s.setLog v).store.shift = s.store.shift := rfl
@[simp] theorem State.setLog_cal (v : Log) (s : State) : (s.setLog v).store.cal = s.store.cal := rfl
@[simp] theorem State.setLog_site (v : Log) (s : State) : (s.setLog v).store.site = s.store.site := rfl
@[simp] theorem State.setLog_clock (v : Log) (s : State) : (s.setLog v).clock = s.clock := rfl
@[simp] theorem State.setLog_channels (v : Log) (s : State) : (s.setLog v).channels = s.channels := rfl
@[simp] theorem State.setLog_hoses (v : Log) (s : State) : (s.setLog v).hoses = s.hoses := rfl
@[simp] theorem State.setLog_meters (v : Log) (s : State) : (s.setLog v).meters = s.meters := rfl
@[simp] theorem State.setLog_sources (v : Log) (s : State) : (s.setLog v).sources = s.sources := rfl
@[simp] theorem State.setLog_pumps (v : Log) (s : State) : (s.setLog v).pumps = s.pumps := rfl
@[simp] theorem State.setLog_units (v : Log) (s : State) : (s.setLog v).units = s.units := rfl
@[simp] theorem State.setLog_inlet (v : Log) (s : State) : (s.setLog v).inlet = s.inlet := rfl
@[simp] theorem State.setLog_logWatch (v : Log) (s : State) : (s.setLog v).logWatch = s.logWatch := rfl
@[simp] theorem State.setLog_guard (v : Log) (s : State) : (s.setLog v).guard = s.guard := rfl
@[simp] theorem State.setLog_park (v : Log) (s : State) : (s.setLog v).park = s.park := rfl
@[simp] theorem State.setLog_link (v : Log) (s : State) : (s.setLog v).link = s.link := rfl
@[simp] theorem State.setLog_alarms (v : Log) (s : State) : (s.setLog v).alarms = s.alarms := rfl
@[simp] theorem State.setLog_inputs (v : Log) (s : State) : (s.setLog v).inputs = s.inputs := rfl
@[simp] theorem State.setLog_power (v : Log) (s : State) : (s.setLog v).power = s.power := rfl
@[simp] theorem State.setLog_handed (v : Log) (s : State) : (s.setLog v).handed = s.handed := rfl
@[simp] theorem State.setLog_draws (v : Log) (s : State) : (s.setLog v).draws = s.draws := rfl
@[simp] theorem State.setLog_pending (v : Log) (s : State) : (s.setLog v).pending = s.pending := rfl
@[simp] theorem State.setLog_line (v : Log) (s : State) : (s.setLog v).line = s.line := rfl
@[simp] theorem State.setShift_machines (v : Shift) (s : State) : (s.setShift v).store.machines = s.store.machines := rfl
@[simp] theorem State.setShift_queue (v : Shift) (s : State) : (s.setShift v).store.queue = s.store.queue := rfl
@[simp] theorem State.setShift_accounts (v : Shift) (s : State) : (s.setShift v).store.accounts = s.store.accounts := rfl
@[simp] theorem State.setShift_hoseConfigs (v : Shift) (s : State) : (s.setShift v).store.hoseConfigs = s.store.hoseConfigs := rfl
@[simp] theorem State.setShift_txs (v : Shift) (s : State) : (s.setShift v).store.txs = s.store.txs := rfl
@[simp] theorem State.setShift_pumpConfigs (v : Shift) (s : State) : (s.setShift v).store.pumpConfigs = s.store.pumpConfigs := rfl
@[simp] theorem State.setShift_comps (v : Shift) (s : State) : (s.setShift v).store.comps = s.store.comps := rfl
@[simp] theorem State.setShift_delivery (v : Shift) (s : State) : (s.setShift v).store.delivery = s.store.delivery := rfl
@[simp] theorem State.setShift_selector (v : Shift) (s : State) : (s.setShift v).store.selector = s.store.selector := rfl
@[simp] theorem State.setShift_log (v : Shift) (s : State) : (s.setShift v).store.log = s.store.log := rfl
@[simp] theorem State.setShift_shift (v : Shift) (s : State) : (s.setShift v).store.shift = v := rfl
@[simp] theorem State.setShift_cal (v : Shift) (s : State) : (s.setShift v).store.cal = s.store.cal := rfl
@[simp] theorem State.setShift_site (v : Shift) (s : State) : (s.setShift v).store.site = s.store.site := rfl
@[simp] theorem State.setShift_clock (v : Shift) (s : State) : (s.setShift v).clock = s.clock := rfl
@[simp] theorem State.setShift_channels (v : Shift) (s : State) : (s.setShift v).channels = s.channels := rfl
@[simp] theorem State.setShift_hoses (v : Shift) (s : State) : (s.setShift v).hoses = s.hoses := rfl
@[simp] theorem State.setShift_meters (v : Shift) (s : State) : (s.setShift v).meters = s.meters := rfl
@[simp] theorem State.setShift_sources (v : Shift) (s : State) : (s.setShift v).sources = s.sources := rfl
@[simp] theorem State.setShift_pumps (v : Shift) (s : State) : (s.setShift v).pumps = s.pumps := rfl
@[simp] theorem State.setShift_units (v : Shift) (s : State) : (s.setShift v).units = s.units := rfl
@[simp] theorem State.setShift_inlet (v : Shift) (s : State) : (s.setShift v).inlet = s.inlet := rfl
@[simp] theorem State.setShift_logWatch (v : Shift) (s : State) : (s.setShift v).logWatch = s.logWatch := rfl
@[simp] theorem State.setShift_guard (v : Shift) (s : State) : (s.setShift v).guard = s.guard := rfl
@[simp] theorem State.setShift_park (v : Shift) (s : State) : (s.setShift v).park = s.park := rfl
@[simp] theorem State.setShift_link (v : Shift) (s : State) : (s.setShift v).link = s.link := rfl
@[simp] theorem State.setShift_alarms (v : Shift) (s : State) : (s.setShift v).alarms = s.alarms := rfl
@[simp] theorem State.setShift_inputs (v : Shift) (s : State) : (s.setShift v).inputs = s.inputs := rfl
@[simp] theorem State.setShift_power (v : Shift) (s : State) : (s.setShift v).power = s.power := rfl
@[simp] theorem State.setShift_handed (v : Shift) (s : State) : (s.setShift v).handed = s.handed := rfl
@[simp] theorem State.setShift_draws (v : Shift) (s : State) : (s.setShift v).draws = s.draws := rfl
@[simp] theorem State.setShift_pending (v : Shift) (s : State) : (s.setShift v).pending = s.pending := rfl
@[simp] theorem State.setShift_line (v : Shift) (s : State) : (s.setShift v).line = s.line := rfl
@[simp] theorem State.setCal_machines (v : Calibration) (s : State) : (s.setCal v).store.machines = s.store.machines := rfl
@[simp] theorem State.setCal_queue (v : Calibration) (s : State) : (s.setCal v).store.queue = s.store.queue := rfl
@[simp] theorem State.setCal_accounts (v : Calibration) (s : State) : (s.setCal v).store.accounts = s.store.accounts := rfl
@[simp] theorem State.setCal_hoseConfigs (v : Calibration) (s : State) : (s.setCal v).store.hoseConfigs = s.store.hoseConfigs := rfl
@[simp] theorem State.setCal_txs (v : Calibration) (s : State) : (s.setCal v).store.txs = s.store.txs := rfl
@[simp] theorem State.setCal_pumpConfigs (v : Calibration) (s : State) : (s.setCal v).store.pumpConfigs = s.store.pumpConfigs := rfl
@[simp] theorem State.setCal_comps (v : Calibration) (s : State) : (s.setCal v).store.comps = s.store.comps := rfl
@[simp] theorem State.setCal_delivery (v : Calibration) (s : State) : (s.setCal v).store.delivery = s.store.delivery := rfl
@[simp] theorem State.setCal_selector (v : Calibration) (s : State) : (s.setCal v).store.selector = s.store.selector := rfl
@[simp] theorem State.setCal_log (v : Calibration) (s : State) : (s.setCal v).store.log = s.store.log := rfl
@[simp] theorem State.setCal_shift (v : Calibration) (s : State) : (s.setCal v).store.shift = s.store.shift := rfl
@[simp] theorem State.setCal_cal (v : Calibration) (s : State) : (s.setCal v).store.cal = v := rfl
@[simp] theorem State.setCal_site (v : Calibration) (s : State) : (s.setCal v).store.site = s.store.site := rfl
@[simp] theorem State.setCal_clock (v : Calibration) (s : State) : (s.setCal v).clock = s.clock := rfl
@[simp] theorem State.setCal_channels (v : Calibration) (s : State) : (s.setCal v).channels = s.channels := rfl
@[simp] theorem State.setCal_hoses (v : Calibration) (s : State) : (s.setCal v).hoses = s.hoses := rfl
@[simp] theorem State.setCal_meters (v : Calibration) (s : State) : (s.setCal v).meters = s.meters := rfl
@[simp] theorem State.setCal_sources (v : Calibration) (s : State) : (s.setCal v).sources = s.sources := rfl
@[simp] theorem State.setCal_pumps (v : Calibration) (s : State) : (s.setCal v).pumps = s.pumps := rfl
@[simp] theorem State.setCal_units (v : Calibration) (s : State) : (s.setCal v).units = s.units := rfl
@[simp] theorem State.setCal_inlet (v : Calibration) (s : State) : (s.setCal v).inlet = s.inlet := rfl
@[simp] theorem State.setCal_logWatch (v : Calibration) (s : State) : (s.setCal v).logWatch = s.logWatch := rfl
@[simp] theorem State.setCal_guard (v : Calibration) (s : State) : (s.setCal v).guard = s.guard := rfl
@[simp] theorem State.setCal_park (v : Calibration) (s : State) : (s.setCal v).park = s.park := rfl
@[simp] theorem State.setCal_link (v : Calibration) (s : State) : (s.setCal v).link = s.link := rfl
@[simp] theorem State.setCal_alarms (v : Calibration) (s : State) : (s.setCal v).alarms = s.alarms := rfl
@[simp] theorem State.setCal_inputs (v : Calibration) (s : State) : (s.setCal v).inputs = s.inputs := rfl
@[simp] theorem State.setCal_power (v : Calibration) (s : State) : (s.setCal v).power = s.power := rfl
@[simp] theorem State.setCal_handed (v : Calibration) (s : State) : (s.setCal v).handed = s.handed := rfl
@[simp] theorem State.setCal_draws (v : Calibration) (s : State) : (s.setCal v).draws = s.draws := rfl
@[simp] theorem State.setCal_pending (v : Calibration) (s : State) : (s.setCal v).pending = s.pending := rfl
@[simp] theorem State.setCal_line (v : Calibration) (s : State) : (s.setCal v).line = s.line := rfl
@[simp] theorem State.setSite_machines (v : SiteConfig) (s : State) : (s.setSite v).store.machines = s.store.machines := rfl
@[simp] theorem State.setSite_queue (v : SiteConfig) (s : State) : (s.setSite v).store.queue = s.store.queue := rfl
@[simp] theorem State.setSite_accounts (v : SiteConfig) (s : State) : (s.setSite v).store.accounts = s.store.accounts := rfl
@[simp] theorem State.setSite_hoseConfigs (v : SiteConfig) (s : State) : (s.setSite v).store.hoseConfigs = s.store.hoseConfigs := rfl
@[simp] theorem State.setSite_txs (v : SiteConfig) (s : State) : (s.setSite v).store.txs = s.store.txs := rfl
@[simp] theorem State.setSite_pumpConfigs (v : SiteConfig) (s : State) : (s.setSite v).store.pumpConfigs = s.store.pumpConfigs := rfl
@[simp] theorem State.setSite_comps (v : SiteConfig) (s : State) : (s.setSite v).store.comps = s.store.comps := rfl
@[simp] theorem State.setSite_delivery (v : SiteConfig) (s : State) : (s.setSite v).store.delivery = s.store.delivery := rfl
@[simp] theorem State.setSite_selector (v : SiteConfig) (s : State) : (s.setSite v).store.selector = s.store.selector := rfl
@[simp] theorem State.setSite_log (v : SiteConfig) (s : State) : (s.setSite v).store.log = s.store.log := rfl
@[simp] theorem State.setSite_shift (v : SiteConfig) (s : State) : (s.setSite v).store.shift = s.store.shift := rfl
@[simp] theorem State.setSite_cal (v : SiteConfig) (s : State) : (s.setSite v).store.cal = s.store.cal := rfl
@[simp] theorem State.setSite_site (v : SiteConfig) (s : State) : (s.setSite v).store.site = v := rfl
@[simp] theorem State.setSite_clock (v : SiteConfig) (s : State) : (s.setSite v).clock = s.clock := rfl
@[simp] theorem State.setSite_channels (v : SiteConfig) (s : State) : (s.setSite v).channels = s.channels := rfl
@[simp] theorem State.setSite_hoses (v : SiteConfig) (s : State) : (s.setSite v).hoses = s.hoses := rfl
@[simp] theorem State.setSite_meters (v : SiteConfig) (s : State) : (s.setSite v).meters = s.meters := rfl
@[simp] theorem State.setSite_sources (v : SiteConfig) (s : State) : (s.setSite v).sources = s.sources := rfl
@[simp] theorem State.setSite_pumps (v : SiteConfig) (s : State) : (s.setSite v).pumps = s.pumps := rfl
@[simp] theorem State.setSite_units (v : SiteConfig) (s : State) : (s.setSite v).units = s.units := rfl
@[simp] theorem State.setSite_inlet (v : SiteConfig) (s : State) : (s.setSite v).inlet = s.inlet := rfl
@[simp] theorem State.setSite_logWatch (v : SiteConfig) (s : State) : (s.setSite v).logWatch = s.logWatch := rfl
@[simp] theorem State.setSite_guard (v : SiteConfig) (s : State) : (s.setSite v).guard = s.guard := rfl
@[simp] theorem State.setSite_park (v : SiteConfig) (s : State) : (s.setSite v).park = s.park := rfl
@[simp] theorem State.setSite_link (v : SiteConfig) (s : State) : (s.setSite v).link = s.link := rfl
@[simp] theorem State.setSite_alarms (v : SiteConfig) (s : State) : (s.setSite v).alarms = s.alarms := rfl
@[simp] theorem State.setSite_inputs (v : SiteConfig) (s : State) : (s.setSite v).inputs = s.inputs := rfl
@[simp] theorem State.setSite_power (v : SiteConfig) (s : State) : (s.setSite v).power = s.power := rfl
@[simp] theorem State.setSite_handed (v : SiteConfig) (s : State) : (s.setSite v).handed = s.handed := rfl
@[simp] theorem State.setSite_draws (v : SiteConfig) (s : State) : (s.setSite v).draws = s.draws := rfl
@[simp] theorem State.setSite_pending (v : SiteConfig) (s : State) : (s.setSite v).pending = s.pending := rfl
@[simp] theorem State.setSite_line (v : SiteConfig) (s : State) : (s.setSite v).line = s.line := rfl
@[simp] theorem State.setClock_store (v : Stamp) (s : State) : (s.setClock v).store = s.store := rfl
@[simp] theorem State.setClock_clock (v : Stamp) (s : State) : (s.setClock v).clock = v := rfl
@[simp] theorem State.setClock_channels (v : Stamp) (s : State) : (s.setClock v).channels = s.channels := rfl
@[simp] theorem State.setClock_hoses (v : Stamp) (s : State) : (s.setClock v).hoses = s.hoses := rfl
@[simp] theorem State.setClock_meters (v : Stamp) (s : State) : (s.setClock v).meters = s.meters := rfl
@[simp] theorem State.setClock_sources (v : Stamp) (s : State) : (s.setClock v).sources = s.sources := rfl
@[simp] theorem State.setClock_pumps (v : Stamp) (s : State) : (s.setClock v).pumps = s.pumps := rfl
@[simp] theorem State.setClock_units (v : Stamp) (s : State) : (s.setClock v).units = s.units := rfl
@[simp] theorem State.setClock_inlet (v : Stamp) (s : State) : (s.setClock v).inlet = s.inlet := rfl
@[simp] theorem State.setClock_logWatch (v : Stamp) (s : State) : (s.setClock v).logWatch = s.logWatch := rfl
@[simp] theorem State.setClock_guard (v : Stamp) (s : State) : (s.setClock v).guard = s.guard := rfl
@[simp] theorem State.setClock_park (v : Stamp) (s : State) : (s.setClock v).park = s.park := rfl
@[simp] theorem State.setClock_link (v : Stamp) (s : State) : (s.setClock v).link = s.link := rfl
@[simp] theorem State.setClock_alarms (v : Stamp) (s : State) : (s.setClock v).alarms = s.alarms := rfl
@[simp] theorem State.setClock_inputs (v : Stamp) (s : State) : (s.setClock v).inputs = s.inputs := rfl
@[simp] theorem State.setClock_power (v : Stamp) (s : State) : (s.setClock v).power = s.power := rfl
@[simp] theorem State.setClock_handed (v : Stamp) (s : State) : (s.setClock v).handed = s.handed := rfl
@[simp] theorem State.setClock_draws (v : Stamp) (s : State) : (s.setClock v).draws = s.draws := rfl
@[simp] theorem State.setClock_pending (v : Stamp) (s : State) : (s.setClock v).pending = s.pending := rfl
@[simp] theorem State.setClock_line (v : Stamp) (s : State) : (s.setClock v).line = s.line := rfl
@[simp] theorem State.setChannels_store (v : PerHose Channel) (s : State) : (s.setChannels v).store = s.store := rfl
@[simp] theorem State.setChannels_clock (v : PerHose Channel) (s : State) : (s.setChannels v).clock = s.clock := rfl
@[simp] theorem State.setChannels_channels (v : PerHose Channel) (s : State) : (s.setChannels v).channels = v := rfl
@[simp] theorem State.setChannels_hoses (v : PerHose Channel) (s : State) : (s.setChannels v).hoses = s.hoses := rfl
@[simp] theorem State.setChannels_meters (v : PerHose Channel) (s : State) : (s.setChannels v).meters = s.meters := rfl
@[simp] theorem State.setChannels_sources (v : PerHose Channel) (s : State) : (s.setChannels v).sources = s.sources := rfl
@[simp] theorem State.setChannels_pumps (v : PerHose Channel) (s : State) : (s.setChannels v).pumps = s.pumps := rfl
@[simp] theorem State.setChannels_units (v : PerHose Channel) (s : State) : (s.setChannels v).units = s.units := rfl
@[simp] theorem State.setChannels_inlet (v : PerHose Channel) (s : State) : (s.setChannels v).inlet = s.inlet := rfl
@[simp] theorem State.setChannels_logWatch (v : PerHose Channel) (s : State) : (s.setChannels v).logWatch = s.logWatch := rfl
@[simp] theorem State.setChannels_guard (v : PerHose Channel) (s : State) : (s.setChannels v).guard = s.guard := rfl
@[simp] theorem State.setChannels_park (v : PerHose Channel) (s : State) : (s.setChannels v).park = s.park := rfl
@[simp] theorem State.setChannels_link (v : PerHose Channel) (s : State) : (s.setChannels v).link = s.link := rfl
@[simp] theorem State.setChannels_alarms (v : PerHose Channel) (s : State) : (s.setChannels v).alarms = s.alarms := rfl
@[simp] theorem State.setChannels_inputs (v : PerHose Channel) (s : State) : (s.setChannels v).inputs = s.inputs := rfl
@[simp] theorem State.setChannels_power (v : PerHose Channel) (s : State) : (s.setChannels v).power = s.power := rfl
@[simp] theorem State.setChannels_handed (v : PerHose Channel) (s : State) : (s.setChannels v).handed = s.handed := rfl
@[simp] theorem State.setChannels_draws (v : PerHose Channel) (s : State) : (s.setChannels v).draws = s.draws := rfl
@[simp] theorem State.setChannels_pending (v : PerHose Channel) (s : State) : (s.setChannels v).pending = s.pending := rfl
@[simp] theorem State.setChannels_line (v : PerHose Channel) (s : State) : (s.setChannels v).line = s.line := rfl
@[simp] theorem State.setHoses_store (v : PerHose HoseCtl) (s : State) : (s.setHoses v).store = s.store := rfl
@[simp] theorem State.setHoses_clock (v : PerHose HoseCtl) (s : State) : (s.setHoses v).clock = s.clock := rfl
@[simp] theorem State.setHoses_channels (v : PerHose HoseCtl) (s : State) : (s.setHoses v).channels = s.channels := rfl
@[simp] theorem State.setHoses_hoses (v : PerHose HoseCtl) (s : State) : (s.setHoses v).hoses = v := rfl
@[simp] theorem State.setHoses_meters (v : PerHose HoseCtl) (s : State) : (s.setHoses v).meters = s.meters := rfl
@[simp] theorem State.setHoses_sources (v : PerHose HoseCtl) (s : State) : (s.setHoses v).sources = s.sources := rfl
@[simp] theorem State.setHoses_pumps (v : PerHose HoseCtl) (s : State) : (s.setHoses v).pumps = s.pumps := rfl
@[simp] theorem State.setHoses_units (v : PerHose HoseCtl) (s : State) : (s.setHoses v).units = s.units := rfl
@[simp] theorem State.setHoses_inlet (v : PerHose HoseCtl) (s : State) : (s.setHoses v).inlet = s.inlet := rfl
@[simp] theorem State.setHoses_logWatch (v : PerHose HoseCtl) (s : State) : (s.setHoses v).logWatch = s.logWatch := rfl
@[simp] theorem State.setHoses_guard (v : PerHose HoseCtl) (s : State) : (s.setHoses v).guard = s.guard := rfl
@[simp] theorem State.setHoses_park (v : PerHose HoseCtl) (s : State) : (s.setHoses v).park = s.park := rfl
@[simp] theorem State.setHoses_link (v : PerHose HoseCtl) (s : State) : (s.setHoses v).link = s.link := rfl
@[simp] theorem State.setHoses_alarms (v : PerHose HoseCtl) (s : State) : (s.setHoses v).alarms = s.alarms := rfl
@[simp] theorem State.setHoses_inputs (v : PerHose HoseCtl) (s : State) : (s.setHoses v).inputs = s.inputs := rfl
@[simp] theorem State.setHoses_power (v : PerHose HoseCtl) (s : State) : (s.setHoses v).power = s.power := rfl
@[simp] theorem State.setHoses_handed (v : PerHose HoseCtl) (s : State) : (s.setHoses v).handed = s.handed := rfl
@[simp] theorem State.setHoses_draws (v : PerHose HoseCtl) (s : State) : (s.setHoses v).draws = s.draws := rfl
@[simp] theorem State.setHoses_pending (v : PerHose HoseCtl) (s : State) : (s.setHoses v).pending = s.pending := rfl
@[simp] theorem State.setHoses_line (v : PerHose HoseCtl) (s : State) : (s.setHoses v).line = s.line := rfl
@[simp] theorem State.setMeters_store (v : PerMeter MeterCtl) (s : State) : (s.setMeters v).store = s.store := rfl
@[simp] theorem State.setMeters_clock (v : PerMeter MeterCtl) (s : State) : (s.setMeters v).clock = s.clock := rfl
@[simp] theorem State.setMeters_channels (v : PerMeter MeterCtl) (s : State) : (s.setMeters v).channels = s.channels := rfl
@[simp] theorem State.setMeters_hoses (v : PerMeter MeterCtl) (s : State) : (s.setMeters v).hoses = s.hoses := rfl
@[simp] theorem State.setMeters_meters (v : PerMeter MeterCtl) (s : State) : (s.setMeters v).meters = v := rfl
@[simp] theorem State.setMeters_sources (v : PerMeter MeterCtl) (s : State) : (s.setMeters v).sources = s.sources := rfl
@[simp] theorem State.setMeters_pumps (v : PerMeter MeterCtl) (s : State) : (s.setMeters v).pumps = s.pumps := rfl
@[simp] theorem State.setMeters_units (v : PerMeter MeterCtl) (s : State) : (s.setMeters v).units = s.units := rfl
@[simp] theorem State.setMeters_inlet (v : PerMeter MeterCtl) (s : State) : (s.setMeters v).inlet = s.inlet := rfl
@[simp] theorem State.setMeters_logWatch (v : PerMeter MeterCtl) (s : State) : (s.setMeters v).logWatch = s.logWatch := rfl
@[simp] theorem State.setMeters_guard (v : PerMeter MeterCtl) (s : State) : (s.setMeters v).guard = s.guard := rfl
@[simp] theorem State.setMeters_park (v : PerMeter MeterCtl) (s : State) : (s.setMeters v).park = s.park := rfl
@[simp] theorem State.setMeters_link (v : PerMeter MeterCtl) (s : State) : (s.setMeters v).link = s.link := rfl
@[simp] theorem State.setMeters_alarms (v : PerMeter MeterCtl) (s : State) : (s.setMeters v).alarms = s.alarms := rfl
@[simp] theorem State.setMeters_inputs (v : PerMeter MeterCtl) (s : State) : (s.setMeters v).inputs = s.inputs := rfl
@[simp] theorem State.setMeters_power (v : PerMeter MeterCtl) (s : State) : (s.setMeters v).power = s.power := rfl
@[simp] theorem State.setMeters_handed (v : PerMeter MeterCtl) (s : State) : (s.setMeters v).handed = s.handed := rfl
@[simp] theorem State.setMeters_draws (v : PerMeter MeterCtl) (s : State) : (s.setMeters v).draws = s.draws := rfl
@[simp] theorem State.setMeters_pending (v : PerMeter MeterCtl) (s : State) : (s.setMeters v).pending = s.pending := rfl
@[simp] theorem State.setMeters_line (v : PerMeter MeterCtl) (s : State) : (s.setMeters v).line = s.line := rfl
@[simp] theorem State.setSources_store (v : PerProbe Source) (s : State) : (s.setSources v).store = s.store := rfl
@[simp] theorem State.setSources_clock (v : PerProbe Source) (s : State) : (s.setSources v).clock = s.clock := rfl
@[simp] theorem State.setSources_channels (v : PerProbe Source) (s : State) : (s.setSources v).channels = s.channels := rfl
@[simp] theorem State.setSources_hoses (v : PerProbe Source) (s : State) : (s.setSources v).hoses = s.hoses := rfl
@[simp] theorem State.setSources_meters (v : PerProbe Source) (s : State) : (s.setSources v).meters = s.meters := rfl
@[simp] theorem State.setSources_sources (v : PerProbe Source) (s : State) : (s.setSources v).sources = v := rfl
@[simp] theorem State.setSources_pumps (v : PerProbe Source) (s : State) : (s.setSources v).pumps = s.pumps := rfl
@[simp] theorem State.setSources_units (v : PerProbe Source) (s : State) : (s.setSources v).units = s.units := rfl
@[simp] theorem State.setSources_inlet (v : PerProbe Source) (s : State) : (s.setSources v).inlet = s.inlet := rfl
@[simp] theorem State.setSources_logWatch (v : PerProbe Source) (s : State) : (s.setSources v).logWatch = s.logWatch := rfl
@[simp] theorem State.setSources_guard (v : PerProbe Source) (s : State) : (s.setSources v).guard = s.guard := rfl
@[simp] theorem State.setSources_park (v : PerProbe Source) (s : State) : (s.setSources v).park = s.park := rfl
@[simp] theorem State.setSources_link (v : PerProbe Source) (s : State) : (s.setSources v).link = s.link := rfl
@[simp] theorem State.setSources_alarms (v : PerProbe Source) (s : State) : (s.setSources v).alarms = s.alarms := rfl
@[simp] theorem State.setSources_inputs (v : PerProbe Source) (s : State) : (s.setSources v).inputs = s.inputs := rfl
@[simp] theorem State.setSources_power (v : PerProbe Source) (s : State) : (s.setSources v).power = s.power := rfl
@[simp] theorem State.setSources_handed (v : PerProbe Source) (s : State) : (s.setSources v).handed = s.handed := rfl
@[simp] theorem State.setSources_draws (v : PerProbe Source) (s : State) : (s.setSources v).draws = s.draws := rfl
@[simp] theorem State.setSources_pending (v : PerProbe Source) (s : State) : (s.setSources v).pending = s.pending := rfl
@[simp] theorem State.setSources_line (v : PerProbe Source) (s : State) : (s.setSources v).line = s.line := rfl
@[simp] theorem State.setPumps_store (v : PerComp Pump) (s : State) : (s.setPumps v).store = s.store := rfl
@[simp] theorem State.setPumps_clock (v : PerComp Pump) (s : State) : (s.setPumps v).clock = s.clock := rfl
@[simp] theorem State.setPumps_channels (v : PerComp Pump) (s : State) : (s.setPumps v).channels = s.channels := rfl
@[simp] theorem State.setPumps_hoses (v : PerComp Pump) (s : State) : (s.setPumps v).hoses = s.hoses := rfl
@[simp] theorem State.setPumps_meters (v : PerComp Pump) (s : State) : (s.setPumps v).meters = s.meters := rfl
@[simp] theorem State.setPumps_sources (v : PerComp Pump) (s : State) : (s.setPumps v).sources = s.sources := rfl
@[simp] theorem State.setPumps_pumps (v : PerComp Pump) (s : State) : (s.setPumps v).pumps = v := rfl
@[simp] theorem State.setPumps_units (v : PerComp Pump) (s : State) : (s.setPumps v).units = s.units := rfl
@[simp] theorem State.setPumps_inlet (v : PerComp Pump) (s : State) : (s.setPumps v).inlet = s.inlet := rfl
@[simp] theorem State.setPumps_logWatch (v : PerComp Pump) (s : State) : (s.setPumps v).logWatch = s.logWatch := rfl
@[simp] theorem State.setPumps_guard (v : PerComp Pump) (s : State) : (s.setPumps v).guard = s.guard := rfl
@[simp] theorem State.setPumps_park (v : PerComp Pump) (s : State) : (s.setPumps v).park = s.park := rfl
@[simp] theorem State.setPumps_link (v : PerComp Pump) (s : State) : (s.setPumps v).link = s.link := rfl
@[simp] theorem State.setPumps_alarms (v : PerComp Pump) (s : State) : (s.setPumps v).alarms = s.alarms := rfl
@[simp] theorem State.setPumps_inputs (v : PerComp Pump) (s : State) : (s.setPumps v).inputs = s.inputs := rfl
@[simp] theorem State.setPumps_power (v : PerComp Pump) (s : State) : (s.setPumps v).power = s.power := rfl
@[simp] theorem State.setPumps_handed (v : PerComp Pump) (s : State) : (s.setPumps v).handed = s.handed := rfl
@[simp] theorem State.setPumps_draws (v : PerComp Pump) (s : State) : (s.setPumps v).draws = s.draws := rfl
@[simp] theorem State.setPumps_pending (v : PerComp Pump) (s : State) : (s.setPumps v).pending = s.pending := rfl
@[simp] theorem State.setPumps_line (v : PerComp Pump) (s : State) : (s.setPumps v).line = s.line := rfl
@[simp] theorem State.setUnits_store (v : PerComp CompUnit) (s : State) : (s.setUnits v).store = s.store := rfl
@[simp] theorem State.setUnits_clock (v : PerComp CompUnit) (s : State) : (s.setUnits v).clock = s.clock := rfl
@[simp] theorem State.setUnits_channels (v : PerComp CompUnit) (s : State) : (s.setUnits v).channels = s.channels := rfl
@[simp] theorem State.setUnits_hoses (v : PerComp CompUnit) (s : State) : (s.setUnits v).hoses = s.hoses := rfl
@[simp] theorem State.setUnits_meters (v : PerComp CompUnit) (s : State) : (s.setUnits v).meters = s.meters := rfl
@[simp] theorem State.setUnits_sources (v : PerComp CompUnit) (s : State) : (s.setUnits v).sources = s.sources := rfl
@[simp] theorem State.setUnits_pumps (v : PerComp CompUnit) (s : State) : (s.setUnits v).pumps = s.pumps := rfl
@[simp] theorem State.setUnits_units (v : PerComp CompUnit) (s : State) : (s.setUnits v).units = v := rfl
@[simp] theorem State.setUnits_inlet (v : PerComp CompUnit) (s : State) : (s.setUnits v).inlet = s.inlet := rfl
@[simp] theorem State.setUnits_logWatch (v : PerComp CompUnit) (s : State) : (s.setUnits v).logWatch = s.logWatch := rfl
@[simp] theorem State.setUnits_guard (v : PerComp CompUnit) (s : State) : (s.setUnits v).guard = s.guard := rfl
@[simp] theorem State.setUnits_park (v : PerComp CompUnit) (s : State) : (s.setUnits v).park = s.park := rfl
@[simp] theorem State.setUnits_link (v : PerComp CompUnit) (s : State) : (s.setUnits v).link = s.link := rfl
@[simp] theorem State.setUnits_alarms (v : PerComp CompUnit) (s : State) : (s.setUnits v).alarms = s.alarms := rfl
@[simp] theorem State.setUnits_inputs (v : PerComp CompUnit) (s : State) : (s.setUnits v).inputs = s.inputs := rfl
@[simp] theorem State.setUnits_power (v : PerComp CompUnit) (s : State) : (s.setUnits v).power = s.power := rfl
@[simp] theorem State.setUnits_handed (v : PerComp CompUnit) (s : State) : (s.setUnits v).handed = s.handed := rfl
@[simp] theorem State.setUnits_draws (v : PerComp CompUnit) (s : State) : (s.setUnits v).draws = s.draws := rfl
@[simp] theorem State.setUnits_pending (v : PerComp CompUnit) (s : State) : (s.setUnits v).pending = s.pending := rfl
@[simp] theorem State.setUnits_line (v : PerComp CompUnit) (s : State) : (s.setUnits v).line = s.line := rfl
@[simp] theorem State.setInlet_store (v : Inlet) (s : State) : (s.setInlet v).store = s.store := rfl
@[simp] theorem State.setInlet_clock (v : Inlet) (s : State) : (s.setInlet v).clock = s.clock := rfl
@[simp] theorem State.setInlet_channels (v : Inlet) (s : State) : (s.setInlet v).channels = s.channels := rfl
@[simp] theorem State.setInlet_hoses (v : Inlet) (s : State) : (s.setInlet v).hoses = s.hoses := rfl
@[simp] theorem State.setInlet_meters (v : Inlet) (s : State) : (s.setInlet v).meters = s.meters := rfl
@[simp] theorem State.setInlet_sources (v : Inlet) (s : State) : (s.setInlet v).sources = s.sources := rfl
@[simp] theorem State.setInlet_pumps (v : Inlet) (s : State) : (s.setInlet v).pumps = s.pumps := rfl
@[simp] theorem State.setInlet_units (v : Inlet) (s : State) : (s.setInlet v).units = s.units := rfl
@[simp] theorem State.setInlet_inlet (v : Inlet) (s : State) : (s.setInlet v).inlet = v := rfl
@[simp] theorem State.setInlet_logWatch (v : Inlet) (s : State) : (s.setInlet v).logWatch = s.logWatch := rfl
@[simp] theorem State.setInlet_guard (v : Inlet) (s : State) : (s.setInlet v).guard = s.guard := rfl
@[simp] theorem State.setInlet_park (v : Inlet) (s : State) : (s.setInlet v).park = s.park := rfl
@[simp] theorem State.setInlet_link (v : Inlet) (s : State) : (s.setInlet v).link = s.link := rfl
@[simp] theorem State.setInlet_alarms (v : Inlet) (s : State) : (s.setInlet v).alarms = s.alarms := rfl
@[simp] theorem State.setInlet_inputs (v : Inlet) (s : State) : (s.setInlet v).inputs = s.inputs := rfl
@[simp] theorem State.setInlet_power (v : Inlet) (s : State) : (s.setInlet v).power = s.power := rfl
@[simp] theorem State.setInlet_handed (v : Inlet) (s : State) : (s.setInlet v).handed = s.handed := rfl
@[simp] theorem State.setInlet_draws (v : Inlet) (s : State) : (s.setInlet v).draws = s.draws := rfl
@[simp] theorem State.setInlet_pending (v : Inlet) (s : State) : (s.setInlet v).pending = s.pending := rfl
@[simp] theorem State.setInlet_line (v : Inlet) (s : State) : (s.setInlet v).line = s.line := rfl
@[simp] theorem State.setLogWatch_store (v : LogWatch) (s : State) : (s.setLogWatch v).store = s.store := rfl
@[simp] theorem State.setLogWatch_clock (v : LogWatch) (s : State) : (s.setLogWatch v).clock = s.clock := rfl
@[simp] theorem State.setLogWatch_channels (v : LogWatch) (s : State) : (s.setLogWatch v).channels = s.channels := rfl
@[simp] theorem State.setLogWatch_hoses (v : LogWatch) (s : State) : (s.setLogWatch v).hoses = s.hoses := rfl
@[simp] theorem State.setLogWatch_meters (v : LogWatch) (s : State) : (s.setLogWatch v).meters = s.meters := rfl
@[simp] theorem State.setLogWatch_sources (v : LogWatch) (s : State) : (s.setLogWatch v).sources = s.sources := rfl
@[simp] theorem State.setLogWatch_pumps (v : LogWatch) (s : State) : (s.setLogWatch v).pumps = s.pumps := rfl
@[simp] theorem State.setLogWatch_units (v : LogWatch) (s : State) : (s.setLogWatch v).units = s.units := rfl
@[simp] theorem State.setLogWatch_inlet (v : LogWatch) (s : State) : (s.setLogWatch v).inlet = s.inlet := rfl
@[simp] theorem State.setLogWatch_logWatch (v : LogWatch) (s : State) : (s.setLogWatch v).logWatch = v := rfl
@[simp] theorem State.setLogWatch_guard (v : LogWatch) (s : State) : (s.setLogWatch v).guard = s.guard := rfl
@[simp] theorem State.setLogWatch_park (v : LogWatch) (s : State) : (s.setLogWatch v).park = s.park := rfl
@[simp] theorem State.setLogWatch_link (v : LogWatch) (s : State) : (s.setLogWatch v).link = s.link := rfl
@[simp] theorem State.setLogWatch_alarms (v : LogWatch) (s : State) : (s.setLogWatch v).alarms = s.alarms := rfl
@[simp] theorem State.setLogWatch_inputs (v : LogWatch) (s : State) : (s.setLogWatch v).inputs = s.inputs := rfl
@[simp] theorem State.setLogWatch_power (v : LogWatch) (s : State) : (s.setLogWatch v).power = s.power := rfl
@[simp] theorem State.setLogWatch_handed (v : LogWatch) (s : State) : (s.setLogWatch v).handed = s.handed := rfl
@[simp] theorem State.setLogWatch_draws (v : LogWatch) (s : State) : (s.setLogWatch v).draws = s.draws := rfl
@[simp] theorem State.setLogWatch_pending (v : LogWatch) (s : State) : (s.setLogWatch v).pending = s.pending := rfl
@[simp] theorem State.setLogWatch_line (v : LogWatch) (s : State) : (s.setLogWatch v).line = s.line := rfl
@[simp] theorem State.setGuard_store (v : Guard) (s : State) : (s.setGuard v).store = s.store := rfl
@[simp] theorem State.setGuard_clock (v : Guard) (s : State) : (s.setGuard v).clock = s.clock := rfl
@[simp] theorem State.setGuard_channels (v : Guard) (s : State) : (s.setGuard v).channels = s.channels := rfl
@[simp] theorem State.setGuard_hoses (v : Guard) (s : State) : (s.setGuard v).hoses = s.hoses := rfl
@[simp] theorem State.setGuard_meters (v : Guard) (s : State) : (s.setGuard v).meters = s.meters := rfl
@[simp] theorem State.setGuard_sources (v : Guard) (s : State) : (s.setGuard v).sources = s.sources := rfl
@[simp] theorem State.setGuard_pumps (v : Guard) (s : State) : (s.setGuard v).pumps = s.pumps := rfl
@[simp] theorem State.setGuard_units (v : Guard) (s : State) : (s.setGuard v).units = s.units := rfl
@[simp] theorem State.setGuard_inlet (v : Guard) (s : State) : (s.setGuard v).inlet = s.inlet := rfl
@[simp] theorem State.setGuard_logWatch (v : Guard) (s : State) : (s.setGuard v).logWatch = s.logWatch := rfl
@[simp] theorem State.setGuard_guard (v : Guard) (s : State) : (s.setGuard v).guard = v := rfl
@[simp] theorem State.setGuard_park (v : Guard) (s : State) : (s.setGuard v).park = s.park := rfl
@[simp] theorem State.setGuard_link (v : Guard) (s : State) : (s.setGuard v).link = s.link := rfl
@[simp] theorem State.setGuard_alarms (v : Guard) (s : State) : (s.setGuard v).alarms = s.alarms := rfl
@[simp] theorem State.setGuard_inputs (v : Guard) (s : State) : (s.setGuard v).inputs = s.inputs := rfl
@[simp] theorem State.setGuard_power (v : Guard) (s : State) : (s.setGuard v).power = s.power := rfl
@[simp] theorem State.setGuard_handed (v : Guard) (s : State) : (s.setGuard v).handed = s.handed := rfl
@[simp] theorem State.setGuard_draws (v : Guard) (s : State) : (s.setGuard v).draws = s.draws := rfl
@[simp] theorem State.setGuard_pending (v : Guard) (s : State) : (s.setGuard v).pending = s.pending := rfl
@[simp] theorem State.setGuard_line (v : Guard) (s : State) : (s.setGuard v).line = s.line := rfl
@[simp] theorem State.setPark_store (v : Park) (s : State) : (s.setPark v).store = s.store := rfl
@[simp] theorem State.setPark_clock (v : Park) (s : State) : (s.setPark v).clock = s.clock := rfl
@[simp] theorem State.setPark_channels (v : Park) (s : State) : (s.setPark v).channels = s.channels := rfl
@[simp] theorem State.setPark_hoses (v : Park) (s : State) : (s.setPark v).hoses = s.hoses := rfl
@[simp] theorem State.setPark_meters (v : Park) (s : State) : (s.setPark v).meters = s.meters := rfl
@[simp] theorem State.setPark_sources (v : Park) (s : State) : (s.setPark v).sources = s.sources := rfl
@[simp] theorem State.setPark_pumps (v : Park) (s : State) : (s.setPark v).pumps = s.pumps := rfl
@[simp] theorem State.setPark_units (v : Park) (s : State) : (s.setPark v).units = s.units := rfl
@[simp] theorem State.setPark_inlet (v : Park) (s : State) : (s.setPark v).inlet = s.inlet := rfl
@[simp] theorem State.setPark_logWatch (v : Park) (s : State) : (s.setPark v).logWatch = s.logWatch := rfl
@[simp] theorem State.setPark_guard (v : Park) (s : State) : (s.setPark v).guard = s.guard := rfl
@[simp] theorem State.setPark_park (v : Park) (s : State) : (s.setPark v).park = v := rfl
@[simp] theorem State.setPark_link (v : Park) (s : State) : (s.setPark v).link = s.link := rfl
@[simp] theorem State.setPark_alarms (v : Park) (s : State) : (s.setPark v).alarms = s.alarms := rfl
@[simp] theorem State.setPark_inputs (v : Park) (s : State) : (s.setPark v).inputs = s.inputs := rfl
@[simp] theorem State.setPark_power (v : Park) (s : State) : (s.setPark v).power = s.power := rfl
@[simp] theorem State.setPark_handed (v : Park) (s : State) : (s.setPark v).handed = s.handed := rfl
@[simp] theorem State.setPark_draws (v : Park) (s : State) : (s.setPark v).draws = s.draws := rfl
@[simp] theorem State.setPark_pending (v : Park) (s : State) : (s.setPark v).pending = s.pending := rfl
@[simp] theorem State.setPark_line (v : Park) (s : State) : (s.setPark v).line = s.line := rfl
@[simp] theorem State.setLink_store (v : Link) (s : State) : (s.setLink v).store = s.store := rfl
@[simp] theorem State.setLink_clock (v : Link) (s : State) : (s.setLink v).clock = s.clock := rfl
@[simp] theorem State.setLink_channels (v : Link) (s : State) : (s.setLink v).channels = s.channels := rfl
@[simp] theorem State.setLink_hoses (v : Link) (s : State) : (s.setLink v).hoses = s.hoses := rfl
@[simp] theorem State.setLink_meters (v : Link) (s : State) : (s.setLink v).meters = s.meters := rfl
@[simp] theorem State.setLink_sources (v : Link) (s : State) : (s.setLink v).sources = s.sources := rfl
@[simp] theorem State.setLink_pumps (v : Link) (s : State) : (s.setLink v).pumps = s.pumps := rfl
@[simp] theorem State.setLink_units (v : Link) (s : State) : (s.setLink v).units = s.units := rfl
@[simp] theorem State.setLink_inlet (v : Link) (s : State) : (s.setLink v).inlet = s.inlet := rfl
@[simp] theorem State.setLink_logWatch (v : Link) (s : State) : (s.setLink v).logWatch = s.logWatch := rfl
@[simp] theorem State.setLink_guard (v : Link) (s : State) : (s.setLink v).guard = s.guard := rfl
@[simp] theorem State.setLink_park (v : Link) (s : State) : (s.setLink v).park = s.park := rfl
@[simp] theorem State.setLink_link (v : Link) (s : State) : (s.setLink v).link = v := rfl
@[simp] theorem State.setLink_alarms (v : Link) (s : State) : (s.setLink v).alarms = s.alarms := rfl
@[simp] theorem State.setLink_inputs (v : Link) (s : State) : (s.setLink v).inputs = s.inputs := rfl
@[simp] theorem State.setLink_power (v : Link) (s : State) : (s.setLink v).power = s.power := rfl
@[simp] theorem State.setLink_handed (v : Link) (s : State) : (s.setLink v).handed = s.handed := rfl
@[simp] theorem State.setLink_draws (v : Link) (s : State) : (s.setLink v).draws = s.draws := rfl
@[simp] theorem State.setLink_pending (v : Link) (s : State) : (s.setLink v).pending = s.pending := rfl
@[simp] theorem State.setLink_line (v : Link) (s : State) : (s.setLink v).line = s.line := rfl
@[simp] theorem State.setAlarms_store (v : Table AlarmRow) (s : State) : (s.setAlarms v).store = s.store := rfl
@[simp] theorem State.setAlarms_clock (v : Table AlarmRow) (s : State) : (s.setAlarms v).clock = s.clock := rfl
@[simp] theorem State.setAlarms_channels (v : Table AlarmRow) (s : State) : (s.setAlarms v).channels = s.channels := rfl
@[simp] theorem State.setAlarms_hoses (v : Table AlarmRow) (s : State) : (s.setAlarms v).hoses = s.hoses := rfl
@[simp] theorem State.setAlarms_meters (v : Table AlarmRow) (s : State) : (s.setAlarms v).meters = s.meters := rfl
@[simp] theorem State.setAlarms_sources (v : Table AlarmRow) (s : State) : (s.setAlarms v).sources = s.sources := rfl
@[simp] theorem State.setAlarms_pumps (v : Table AlarmRow) (s : State) : (s.setAlarms v).pumps = s.pumps := rfl
@[simp] theorem State.setAlarms_units (v : Table AlarmRow) (s : State) : (s.setAlarms v).units = s.units := rfl
@[simp] theorem State.setAlarms_inlet (v : Table AlarmRow) (s : State) : (s.setAlarms v).inlet = s.inlet := rfl
@[simp] theorem State.setAlarms_logWatch (v : Table AlarmRow) (s : State) : (s.setAlarms v).logWatch = s.logWatch := rfl
@[simp] theorem State.setAlarms_guard (v : Table AlarmRow) (s : State) : (s.setAlarms v).guard = s.guard := rfl
@[simp] theorem State.setAlarms_park (v : Table AlarmRow) (s : State) : (s.setAlarms v).park = s.park := rfl
@[simp] theorem State.setAlarms_link (v : Table AlarmRow) (s : State) : (s.setAlarms v).link = s.link := rfl
@[simp] theorem State.setAlarms_alarms (v : Table AlarmRow) (s : State) : (s.setAlarms v).alarms = v := rfl
@[simp] theorem State.setAlarms_inputs (v : Table AlarmRow) (s : State) : (s.setAlarms v).inputs = s.inputs := rfl
@[simp] theorem State.setAlarms_power (v : Table AlarmRow) (s : State) : (s.setAlarms v).power = s.power := rfl
@[simp] theorem State.setAlarms_handed (v : Table AlarmRow) (s : State) : (s.setAlarms v).handed = s.handed := rfl
@[simp] theorem State.setAlarms_draws (v : Table AlarmRow) (s : State) : (s.setAlarms v).draws = s.draws := rfl
@[simp] theorem State.setAlarms_pending (v : Table AlarmRow) (s : State) : (s.setAlarms v).pending = s.pending := rfl
@[simp] theorem State.setAlarms_line (v : Table AlarmRow) (s : State) : (s.setAlarms v).line = s.line := rfl
@[simp] theorem State.setInputs_store (v : Inputs) (s : State) : (s.setInputs v).store = s.store := rfl
@[simp] theorem State.setInputs_clock (v : Inputs) (s : State) : (s.setInputs v).clock = s.clock := rfl
@[simp] theorem State.setInputs_channels (v : Inputs) (s : State) : (s.setInputs v).channels = s.channels := rfl
@[simp] theorem State.setInputs_hoses (v : Inputs) (s : State) : (s.setInputs v).hoses = s.hoses := rfl
@[simp] theorem State.setInputs_meters (v : Inputs) (s : State) : (s.setInputs v).meters = s.meters := rfl
@[simp] theorem State.setInputs_sources (v : Inputs) (s : State) : (s.setInputs v).sources = s.sources := rfl
@[simp] theorem State.setInputs_pumps (v : Inputs) (s : State) : (s.setInputs v).pumps = s.pumps := rfl
@[simp] theorem State.setInputs_units (v : Inputs) (s : State) : (s.setInputs v).units = s.units := rfl
@[simp] theorem State.setInputs_inlet (v : Inputs) (s : State) : (s.setInputs v).inlet = s.inlet := rfl
@[simp] theorem State.setInputs_logWatch (v : Inputs) (s : State) : (s.setInputs v).logWatch = s.logWatch := rfl
@[simp] theorem State.setInputs_guard (v : Inputs) (s : State) : (s.setInputs v).guard = s.guard := rfl
@[simp] theorem State.setInputs_park (v : Inputs) (s : State) : (s.setInputs v).park = s.park := rfl
@[simp] theorem State.setInputs_link (v : Inputs) (s : State) : (s.setInputs v).link = s.link := rfl
@[simp] theorem State.setInputs_alarms (v : Inputs) (s : State) : (s.setInputs v).alarms = s.alarms := rfl
@[simp] theorem State.setInputs_inputs (v : Inputs) (s : State) : (s.setInputs v).inputs = v := rfl
@[simp] theorem State.setInputs_power (v : Inputs) (s : State) : (s.setInputs v).power = s.power := rfl
@[simp] theorem State.setInputs_handed (v : Inputs) (s : State) : (s.setInputs v).handed = s.handed := rfl
@[simp] theorem State.setInputs_draws (v : Inputs) (s : State) : (s.setInputs v).draws = s.draws := rfl
@[simp] theorem State.setInputs_pending (v : Inputs) (s : State) : (s.setInputs v).pending = s.pending := rfl
@[simp] theorem State.setInputs_line (v : Inputs) (s : State) : (s.setInputs v).line = s.line := rfl
@[simp] theorem State.setPower_store (v : Power) (s : State) : (s.setPower v).store = s.store := rfl
@[simp] theorem State.setPower_clock (v : Power) (s : State) : (s.setPower v).clock = s.clock := rfl
@[simp] theorem State.setPower_channels (v : Power) (s : State) : (s.setPower v).channels = s.channels := rfl
@[simp] theorem State.setPower_hoses (v : Power) (s : State) : (s.setPower v).hoses = s.hoses := rfl
@[simp] theorem State.setPower_meters (v : Power) (s : State) : (s.setPower v).meters = s.meters := rfl
@[simp] theorem State.setPower_sources (v : Power) (s : State) : (s.setPower v).sources = s.sources := rfl
@[simp] theorem State.setPower_pumps (v : Power) (s : State) : (s.setPower v).pumps = s.pumps := rfl
@[simp] theorem State.setPower_units (v : Power) (s : State) : (s.setPower v).units = s.units := rfl
@[simp] theorem State.setPower_inlet (v : Power) (s : State) : (s.setPower v).inlet = s.inlet := rfl
@[simp] theorem State.setPower_logWatch (v : Power) (s : State) : (s.setPower v).logWatch = s.logWatch := rfl
@[simp] theorem State.setPower_guard (v : Power) (s : State) : (s.setPower v).guard = s.guard := rfl
@[simp] theorem State.setPower_park (v : Power) (s : State) : (s.setPower v).park = s.park := rfl
@[simp] theorem State.setPower_link (v : Power) (s : State) : (s.setPower v).link = s.link := rfl
@[simp] theorem State.setPower_alarms (v : Power) (s : State) : (s.setPower v).alarms = s.alarms := rfl
@[simp] theorem State.setPower_inputs (v : Power) (s : State) : (s.setPower v).inputs = s.inputs := rfl
@[simp] theorem State.setPower_power (v : Power) (s : State) : (s.setPower v).power = v := rfl
@[simp] theorem State.setPower_handed (v : Power) (s : State) : (s.setPower v).handed = s.handed := rfl
@[simp] theorem State.setPower_draws (v : Power) (s : State) : (s.setPower v).draws = s.draws := rfl
@[simp] theorem State.setPower_pending (v : Power) (s : State) : (s.setPower v).pending = s.pending := rfl
@[simp] theorem State.setPower_line (v : Power) (s : State) : (s.setPower v).line = s.line := rfl
@[simp] theorem State.setHanded_store (v : List Handed) (s : State) : (s.setHanded v).store = s.store := rfl
@[simp] theorem State.setHanded_clock (v : List Handed) (s : State) : (s.setHanded v).clock = s.clock := rfl
@[simp] theorem State.setHanded_channels (v : List Handed) (s : State) : (s.setHanded v).channels = s.channels := rfl
@[simp] theorem State.setHanded_hoses (v : List Handed) (s : State) : (s.setHanded v).hoses = s.hoses := rfl
@[simp] theorem State.setHanded_meters (v : List Handed) (s : State) : (s.setHanded v).meters = s.meters := rfl
@[simp] theorem State.setHanded_sources (v : List Handed) (s : State) : (s.setHanded v).sources = s.sources := rfl
@[simp] theorem State.setHanded_pumps (v : List Handed) (s : State) : (s.setHanded v).pumps = s.pumps := rfl
@[simp] theorem State.setHanded_units (v : List Handed) (s : State) : (s.setHanded v).units = s.units := rfl
@[simp] theorem State.setHanded_inlet (v : List Handed) (s : State) : (s.setHanded v).inlet = s.inlet := rfl
@[simp] theorem State.setHanded_logWatch (v : List Handed) (s : State) : (s.setHanded v).logWatch = s.logWatch := rfl
@[simp] theorem State.setHanded_guard (v : List Handed) (s : State) : (s.setHanded v).guard = s.guard := rfl
@[simp] theorem State.setHanded_park (v : List Handed) (s : State) : (s.setHanded v).park = s.park := rfl
@[simp] theorem State.setHanded_link (v : List Handed) (s : State) : (s.setHanded v).link = s.link := rfl
@[simp] theorem State.setHanded_alarms (v : List Handed) (s : State) : (s.setHanded v).alarms = s.alarms := rfl
@[simp] theorem State.setHanded_inputs (v : List Handed) (s : State) : (s.setHanded v).inputs = s.inputs := rfl
@[simp] theorem State.setHanded_power (v : List Handed) (s : State) : (s.setHanded v).power = s.power := rfl
@[simp] theorem State.setHanded_handed (v : List Handed) (s : State) : (s.setHanded v).handed = v := rfl
@[simp] theorem State.setHanded_draws (v : List Handed) (s : State) : (s.setHanded v).draws = s.draws := rfl
@[simp] theorem State.setHanded_pending (v : List Handed) (s : State) : (s.setHanded v).pending = s.pending := rfl
@[simp] theorem State.setHanded_line (v : List Handed) (s : State) : (s.setHanded v).line = s.line := rfl
@[simp] theorem State.setDraws_store (v : Nat) (s : State) : (s.setDraws v).store = s.store := rfl
@[simp] theorem State.setDraws_clock (v : Nat) (s : State) : (s.setDraws v).clock = s.clock := rfl
@[simp] theorem State.setDraws_channels (v : Nat) (s : State) : (s.setDraws v).channels = s.channels := rfl
@[simp] theorem State.setDraws_hoses (v : Nat) (s : State) : (s.setDraws v).hoses = s.hoses := rfl
@[simp] theorem State.setDraws_meters (v : Nat) (s : State) : (s.setDraws v).meters = s.meters := rfl
@[simp] theorem State.setDraws_sources (v : Nat) (s : State) : (s.setDraws v).sources = s.sources := rfl
@[simp] theorem State.setDraws_pumps (v : Nat) (s : State) : (s.setDraws v).pumps = s.pumps := rfl
@[simp] theorem State.setDraws_units (v : Nat) (s : State) : (s.setDraws v).units = s.units := rfl
@[simp] theorem State.setDraws_inlet (v : Nat) (s : State) : (s.setDraws v).inlet = s.inlet := rfl
@[simp] theorem State.setDraws_logWatch (v : Nat) (s : State) : (s.setDraws v).logWatch = s.logWatch := rfl
@[simp] theorem State.setDraws_guard (v : Nat) (s : State) : (s.setDraws v).guard = s.guard := rfl
@[simp] theorem State.setDraws_park (v : Nat) (s : State) : (s.setDraws v).park = s.park := rfl
@[simp] theorem State.setDraws_link (v : Nat) (s : State) : (s.setDraws v).link = s.link := rfl
@[simp] theorem State.setDraws_alarms (v : Nat) (s : State) : (s.setDraws v).alarms = s.alarms := rfl
@[simp] theorem State.setDraws_inputs (v : Nat) (s : State) : (s.setDraws v).inputs = s.inputs := rfl
@[simp] theorem State.setDraws_power (v : Nat) (s : State) : (s.setDraws v).power = s.power := rfl
@[simp] theorem State.setDraws_handed (v : Nat) (s : State) : (s.setDraws v).handed = s.handed := rfl
@[simp] theorem State.setDraws_draws (v : Nat) (s : State) : (s.setDraws v).draws = v := rfl
@[simp] theorem State.setDraws_pending (v : Nat) (s : State) : (s.setDraws v).pending = s.pending := rfl
@[simp] theorem State.setDraws_line (v : Nat) (s : State) : (s.setDraws v).line = s.line := rfl
@[simp] theorem State.setPending_store (v : List Instr) (s : State) : (s.setPending v).store = s.store := rfl
@[simp] theorem State.setPending_clock (v : List Instr) (s : State) : (s.setPending v).clock = s.clock := rfl
@[simp] theorem State.setPending_channels (v : List Instr) (s : State) : (s.setPending v).channels = s.channels := rfl
@[simp] theorem State.setPending_hoses (v : List Instr) (s : State) : (s.setPending v).hoses = s.hoses := rfl
@[simp] theorem State.setPending_meters (v : List Instr) (s : State) : (s.setPending v).meters = s.meters := rfl
@[simp] theorem State.setPending_sources (v : List Instr) (s : State) : (s.setPending v).sources = s.sources := rfl
@[simp] theorem State.setPending_pumps (v : List Instr) (s : State) : (s.setPending v).pumps = s.pumps := rfl
@[simp] theorem State.setPending_units (v : List Instr) (s : State) : (s.setPending v).units = s.units := rfl
@[simp] theorem State.setPending_inlet (v : List Instr) (s : State) : (s.setPending v).inlet = s.inlet := rfl
@[simp] theorem State.setPending_logWatch (v : List Instr) (s : State) : (s.setPending v).logWatch = s.logWatch := rfl
@[simp] theorem State.setPending_guard (v : List Instr) (s : State) : (s.setPending v).guard = s.guard := rfl
@[simp] theorem State.setPending_park (v : List Instr) (s : State) : (s.setPending v).park = s.park := rfl
@[simp] theorem State.setPending_link (v : List Instr) (s : State) : (s.setPending v).link = s.link := rfl
@[simp] theorem State.setPending_alarms (v : List Instr) (s : State) : (s.setPending v).alarms = s.alarms := rfl
@[simp] theorem State.setPending_inputs (v : List Instr) (s : State) : (s.setPending v).inputs = s.inputs := rfl
@[simp] theorem State.setPending_power (v : List Instr) (s : State) : (s.setPending v).power = s.power := rfl
@[simp] theorem State.setPending_handed (v : List Instr) (s : State) : (s.setPending v).handed = s.handed := rfl
@[simp] theorem State.setPending_draws (v : List Instr) (s : State) : (s.setPending v).draws = s.draws := rfl
@[simp] theorem State.setPending_pending (v : List Instr) (s : State) : (s.setPending v).pending = v := rfl
@[simp] theorem State.setPending_line (v : List Instr) (s : State) : (s.setPending v).line = s.line := rfl
@[simp] theorem State.setLine_store (v : List LineByte) (s : State) : (s.setLine v).store = s.store := rfl
@[simp] theorem State.setLine_clock (v : List LineByte) (s : State) : (s.setLine v).clock = s.clock := rfl
@[simp] theorem State.setLine_channels (v : List LineByte) (s : State) : (s.setLine v).channels = s.channels := rfl
@[simp] theorem State.setLine_hoses (v : List LineByte) (s : State) : (s.setLine v).hoses = s.hoses := rfl
@[simp] theorem State.setLine_meters (v : List LineByte) (s : State) : (s.setLine v).meters = s.meters := rfl
@[simp] theorem State.setLine_sources (v : List LineByte) (s : State) : (s.setLine v).sources = s.sources := rfl
@[simp] theorem State.setLine_pumps (v : List LineByte) (s : State) : (s.setLine v).pumps = s.pumps := rfl
@[simp] theorem State.setLine_units (v : List LineByte) (s : State) : (s.setLine v).units = s.units := rfl
@[simp] theorem State.setLine_inlet (v : List LineByte) (s : State) : (s.setLine v).inlet = s.inlet := rfl
@[simp] theorem State.setLine_logWatch (v : List LineByte) (s : State) : (s.setLine v).logWatch = s.logWatch := rfl
@[simp] theorem State.setLine_guard (v : List LineByte) (s : State) : (s.setLine v).guard = s.guard := rfl
@[simp] theorem State.setLine_park (v : List LineByte) (s : State) : (s.setLine v).park = s.park := rfl
@[simp] theorem State.setLine_link (v : List LineByte) (s : State) : (s.setLine v).link = s.link := rfl
@[simp] theorem State.setLine_alarms (v : List LineByte) (s : State) : (s.setLine v).alarms = s.alarms := rfl
@[simp] theorem State.setLine_inputs (v : List LineByte) (s : State) : (s.setLine v).inputs = s.inputs := rfl
@[simp] theorem State.setLine_power (v : List LineByte) (s : State) : (s.setLine v).power = s.power := rfl
@[simp] theorem State.setLine_handed (v : List LineByte) (s : State) : (s.setLine v).handed = s.handed := rfl
@[simp] theorem State.setLine_draws (v : List LineByte) (s : State) : (s.setLine v).draws = s.draws := rfl
@[simp] theorem State.setLine_pending (v : List LineByte) (s : State) : (s.setLine v).pending = s.pending := rfl
@[simp] theorem State.setLine_line (v : List LineByte) (s : State) : (s.setLine v).line = v := rfl

end Sys2Proof.Machine
end

