-- ==== Sys2Proof/Laws/Containers.lean ====
section
/-! SUPPORT. Read after write for the containers (one value a hose, compartment, meter, probe or product)
and for the tables. -/

namespace Sys2Proof

@[simp] theorem PerHose.get_set_self {α : Type} (x : PerHose α) (i : Hose) (a : α) :
    (x.set i a).get i = a := by
  cases i <;> rfl

theorem PerHose.get_set_ne {α : Type} (x : PerHose α) {i j : Hose} (a : α) (h : j ≠ i) :
    (x.set i a).get j = x.get j := by
  cases i <;> cases j <;> first | rfl | exact absurd rfl h

theorem PerHose.get_set {α : Type} (x : PerHose α) (i j : Hose) (a : α) :
    (x.set i a).get j = if j = i then a else x.get j := by
  cases i <;> cases j <;> rfl

@[simp] theorem PerHose.set_set {α : Type} (x : PerHose α) (i : Hose) (a b : α) :
    (x.set i a).set i b = x.set i b := by
  cases i <;> rfl

@[simp] theorem PerHose.set_get {α : Type} (x : PerHose α) (i : Hose) : x.set i (x.get i) = x := by
  cases i <;> rfl

@[simp] theorem PerHose.get_all {α : Type} (a : α) (i : Hose) : (PerHose.all a).get i = a := by
  cases i <;> rfl

@[simp] theorem PerComp.get_set_self {α : Type} (x : PerComp α) (i : Comp) (a : α) :
    (x.set i a).get i = a := by
  cases i <;> rfl

theorem PerComp.get_set_ne {α : Type} (x : PerComp α) {i j : Comp} (a : α) (h : j ≠ i) :
    (x.set i a).get j = x.get j := by
  cases i <;> cases j <;> first | rfl | exact absurd rfl h

theorem PerComp.get_set {α : Type} (x : PerComp α) (i j : Comp) (a : α) :
    (x.set i a).get j = if j = i then a else x.get j := by
  cases i <;> cases j <;> rfl

@[simp] theorem PerComp.set_set {α : Type} (x : PerComp α) (i : Comp) (a b : α) :
    (x.set i a).set i b = x.set i b := by
  cases i <;> rfl

@[simp] theorem PerComp.set_get {α : Type} (x : PerComp α) (i : Comp) : x.set i (x.get i) = x := by
  cases i <;> rfl

@[simp] theorem PerComp.get_all {α : Type} (a : α) (i : Comp) : (PerComp.all a).get i = a := by
  cases i <;> rfl

@[simp] theorem PerProduct.get_set_self {α : Type} (x : PerProduct α) (i : Product) (a : α) :
    (x.set i a).get i = a := by
  cases i <;> rfl

theorem PerProduct.get_set_ne {α : Type} (x : PerProduct α) {i j : Product} (a : α) (h : j ≠ i) :
    (x.set i a).get j = x.get j := by
  cases i <;> cases j <;> first | rfl | exact absurd rfl h

theorem PerProduct.get_set {α : Type} (x : PerProduct α) (i j : Product) (a : α) :
    (x.set i a).get j = if j = i then a else x.get j := by
  cases i <;> cases j <;> rfl

@[simp] theorem PerProduct.set_set {α : Type} (x : PerProduct α) (i : Product) (a b : α) :
    (x.set i a).set i b = x.set i b := by
  cases i <;> rfl

@[simp] theorem PerProduct.set_get {α : Type} (x : PerProduct α) (i : Product) : x.set i (x.get i) = x := by
  cases i <;> rfl

@[simp] theorem PerProduct.get_all {α : Type} (a : α) (i : Product) : (PerProduct.all a).get i = a := by
  cases i <;> rfl

@[simp] theorem PerMeter.get_set_self {α : Type} (x : PerMeter α) (i : Meter) (a : α) :
    (x.set i a).get i = a := by
  cases i <;> rfl

theorem PerMeter.get_set_ne {α : Type} (x : PerMeter α) {i j : Meter} (a : α) (h : j ≠ i) :
    (x.set i a).get j = x.get j := by
  cases i <;> cases j <;> first | rfl | exact absurd rfl h

theorem PerMeter.get_set {α : Type} (x : PerMeter α) (i j : Meter) (a : α) :
    (x.set i a).get j = if j = i then a else x.get j := by
  cases i <;> cases j <;> rfl

@[simp] theorem PerMeter.set_set {α : Type} (x : PerMeter α) (i : Meter) (a b : α) :
    (x.set i a).set i b = x.set i b := by
  cases i <;> rfl

@[simp] theorem PerMeter.set_get {α : Type} (x : PerMeter α) (i : Meter) : x.set i (x.get i) = x := by
  cases i <;> rfl

@[simp] theorem PerMeter.get_all {α : Type} (a : α) (i : Meter) : (PerMeter.all a).get i = a := by
  cases i <;> rfl

@[simp] theorem PerProbe.get_set_self {α : Type} (x : PerProbe α) (i : Probe) (a : α) :
    (x.set i a).get i = a := by
  cases i <;> rfl

theorem PerProbe.get_set_ne {α : Type} (x : PerProbe α) {i j : Probe} (a : α) (h : j ≠ i) :
    (x.set i a).get j = x.get j := by
  cases i <;> cases j <;> first | rfl | exact absurd rfl h

theorem PerProbe.get_set {α : Type} (x : PerProbe α) (i j : Probe) (a : α) :
    (x.set i a).get j = if j = i then a else x.get j := by
  cases i <;> cases j <;> rfl

@[simp] theorem PerProbe.set_set {α : Type} (x : PerProbe α) (i : Probe) (a b : α) :
    (x.set i a).set i b = x.set i b := by
  cases i <;> rfl

@[simp] theorem PerProbe.set_get {α : Type} (x : PerProbe α) (i : Probe) : x.set i (x.get i) = x := by
  cases i <;> rfl

@[simp] theorem PerProbe.get_all {α : Type} (a : α) (i : Probe) : (PerProbe.all a).get i = a := by
  cases i <;> rfl

end Sys2Proof

namespace Sys2Proof.Machine

@[simp] theorem tableFind_tablePut_self {α : Type} (t : Table α) (k : Nat) (a : α) :
    tableFind (tablePut t k a) k = some a := by
  induction t with
  | nil => simp [tablePut, tableFind]
  | cons e t ih =>
    obtain ⟨j, b⟩ := e
    simp only [tablePut]
    split
    · simp [tableFind]
    · split
      · simp [tableFind]
      · rename_i h
        simp [tableFind, Ne.symm h, ih]

theorem tableFind_tablePut_ne {α : Type} (t : Table α) {j k : Nat} (a : α) (h : j ≠ k) :
    tableFind (tablePut t k a) j = tableFind t j := by
  induction t with
  | nil => simp [tablePut, tableFind, Ne.symm h]
  | cons e t ih =>
    obtain ⟨i, b⟩ := e
    simp only [tablePut]
    split
    · simp [tableFind, Ne.symm h]
    · split
      · rename_i hk
        subst hk
        simp [tableFind, Ne.symm h]
      · simp [tableFind, ih]

@[simp] theorem tableFind_tableErase_self {α : Type} (t : Table α) (k : Nat) :
    tableFind (tableErase t k) k = none := by
  induction t with
  | nil => rfl
  | cons e t ih =>
    obtain ⟨j, b⟩ := e
    by_cases h : j = k
    · subst h
      simpa [tableErase] using ih
    · simpa [tableErase, tableFind, h] using ih

theorem tableFind_tableErase_ne {α : Type} (t : Table α) {j k : Nat} (h : j ≠ k) :
    tableFind (tableErase t k) j = tableFind t j := by
  induction t with
  | nil => rfl
  | cons e t ih =>
    obtain ⟨i, b⟩ := e
    by_cases hi : i = k
    · subst hi
      simpa [tableErase, tableFind, Ne.symm h] using ih
    · have e : tableErase ((i, b) :: t) k = (i, b) :: tableErase t k := by simp [tableErase, hi]
      rw [e]
      simp only [tableFind, ih]

/-- A row found in a table is in the list. -/
theorem mem_of_tableFind {α : Type} {t : Table α} {k : Nat} {a : α} (h : tableFind t k = some a) :
    (k, a) ∈ t := by
  induction t with
  | nil => simp [tableFind] at h
  | cons e t ih =>
    obtain ⟨j, b⟩ := e
    simp only [tableFind] at h
    split at h
    · rename_i hj
      subst hj
      simp_all
    · exact List.mem_cons_of_mem _ (ih h)

/-- A row of a table after a put is the new row or was there before. -/
theorem mem_tablePut {α : Type} {t : Table α} {j k : Nat} {a b : α} (h : (j, b) ∈ tablePut t k a) :
    (j = k ∧ b = a) ∨ (j, b) ∈ t := by
  induction t with
  | nil => simp_all [tablePut]
  | cons e t ih =>
    obtain ⟨i, c⟩ := e
    simp only [tablePut] at h
    split at h
    · simp only [List.mem_cons, Prod.mk.injEq] at h ⊢
      tauto
    · split at h
      · simp only [List.mem_cons, Prod.mk.injEq] at h ⊢
        tauto
      · simp only [List.mem_cons, Prod.mk.injEq] at h ⊢
        rcases h with h | h
        · exact .inr (.inl h)
        · rcases ih h with g | g
          · exact .inl g
          · exact .inr (.inr g)

end Sys2Proof.Machine
end

