-- ==== Sys2Proof/Laws/Frames.lean ====
section
/-! SUPPORT. What each setter leaves unchanged, and how frames compose. -/

namespace Sys2Proof.Machine

theorem OnlyIn.refl (ps : List Part) (s : State) : OnlyIn ps s s := by
  intro p _; cases p <;> rfl

theorem Part.same_trans {s t u : State} {p : Part} (h : p.same s t) (g : p.same t u) : p.same s u := by
  cases p <;> exact Eq.trans g h

theorem OnlyIn.mono {ps qs : List Part} {s t : State} (h : OnlyIn ps s t) (sub : ps ⊆ qs) :
    OnlyIn qs s t :=
  fun p hp => h p fun m => hp (sub m)

theorem OnlyIn.trans {ps : List Part} {s t u : State} (h : OnlyIn ps s t) (g : OnlyIn ps t u) :
    OnlyIn ps s u :=
  fun p hp => Part.same_trans (h p hp) (g p hp)

/-- Compose a frame with one whose parts are among the same list. -/
theorem OnlyIn.then {ps qs : List Part} {s t u : State} (h : OnlyIn ps s t) (g : OnlyIn qs t u)
    (sub : qs ⊆ ps) : OnlyIn ps s u :=
  h.trans (g.mono sub)

theorem OnlyIn.ite {ps : List Part} {s t u : State} {p : Prop} [Decidable p] (h : OnlyIn ps s t)
    (g : OnlyIn ps s u) : OnlyIn ps s (if p then t else u) := by
  split <;> assumption

theorem only_setMachines (v : Table MachineEntry) (s : State) : OnlyIn [.machines] s (s.setMachines v) := by
  intro p hp; cases p <;> first | rfl | simp at hp

theorem only_setQueue (v : List Update) (s : State) : OnlyIn [.queue] s (s.setQueue v) := by
  intro p hp; cases p <;> first | rfl | simp at hp

theorem only_setAccounts (v : Table Account) (s : State) : OnlyIn [.accounts] s (s.setAccounts v) := by
  intro p hp; cases p <;> first | rfl | simp at hp

theorem only_setHoseConfigs (v : PerHose HoseConfig) (s : State) : OnlyIn [.hoseConfigs] s (s.setHoseConfigs v) := by
  intro p hp; cases p <;> first | rfl | simp at hp

theorem only_setTxs (v : PerHose (Option Transaction)) (s : State) : OnlyIn [.txs] s (s.setTxs v) := by
  intro p hp; cases p <;> first | rfl | simp at hp

theorem only_setPumpConfigs (v : PerComp PumpConfig) (s : State) : OnlyIn [.pumpConfigs] s (s.setPumpConfigs v) := by
  intro p hp; cases p <;> first | rfl | simp at hp

theorem only_setComps (v : PerComp Compartment) (s : State) : OnlyIn [.comps] s (s.setComps v) := by
  intro p hp; cases p <;> first | rfl | simp at hp

theorem only_setDelivery (v : Option Delivery) (s : State) : OnlyIn [.delivery] s (s.setDelivery v) := by
  intro p hp; cases p <;> first | rfl | simp at hp

theorem only_setSelector (v : Comp) (s : State) : OnlyIn [.selector] s (s.setSelector v) := by
  intro p hp; cases p <;> first | rfl | simp at hp

theorem only_setLog (v : Log) (s : State) : OnlyIn [.log] s (s.setLog v) := by
  intro p hp; cases p <;> first | rfl | simp at hp

theorem only_setShift (v : Shift) (s : State) : OnlyIn [.shift] s (s.setShift v) := by
  intro p hp; cases p <;> first | rfl | simp at hp

theorem only_setCal (v : Calibration) (s : State) : OnlyIn [.cal] s (s.setCal v) := by
  intro p hp; cases p <;> first | rfl | simp at hp

theorem only_setSite (v : SiteConfig) (s : State) : OnlyIn [.site] s (s.setSite v) := by
  intro p hp; cases p <;> first | rfl | simp at hp

theorem only_setClock (v : Stamp) (s : State) : OnlyIn [.clock] s (s.setClock v) := by
  intro p hp; cases p <;> first | rfl | simp at hp

theorem only_setChannels (v : PerHose Channel) (s : State) : OnlyIn [.channels] s (s.setChannels v) := by
  intro p hp; cases p <;> first | rfl | simp at hp

theorem only_setHoses (v : PerHose HoseCtl) (s : State) : OnlyIn [.hoses] s (s.setHoses v) := by
  intro p hp; cases p <;> first | rfl | simp at hp

theorem only_setMeters (v : PerMeter MeterCtl) (s : State) : OnlyIn [.meters] s (s.setMeters v) := by
  intro p hp; cases p <;> first | rfl | simp at hp

theorem only_setSources (v : PerProbe Source) (s : State) : OnlyIn [.sources] s (s.setSources v) := by
  intro p hp; cases p <;> first | rfl | simp at hp

theorem only_setPumps (v : PerComp Pump) (s : State) : OnlyIn [.pumps] s (s.setPumps v) := by
  intro p hp; cases p <;> first | rfl | simp at hp

theorem only_setUnits (v : PerComp CompUnit) (s : State) : OnlyIn [.units] s (s.setUnits v) := by
  intro p hp; cases p <;> first | rfl | simp at hp

theorem only_setInlet (v : Inlet) (s : State) : OnlyIn [.inlet] s (s.setInlet v) := by
  intro p hp; cases p <;> first | rfl | simp at hp

theorem only_setLogWatch (v : LogWatch) (s : State) : OnlyIn [.logWatch] s (s.setLogWatch v) := by
  intro p hp; cases p <;> first | rfl | simp at hp

theorem only_setGuard (v : Guard) (s : State) : OnlyIn [.guard] s (s.setGuard v) := by
  intro p hp; cases p <;> first | rfl | simp at hp

theorem only_setPark (v : Park) (s : State) : OnlyIn [.park] s (s.setPark v) := by
  intro p hp; cases p <;> first | rfl | simp at hp

theorem only_setLink (v : Link) (s : State) : OnlyIn [.link] s (s.setLink v) := by
  intro p hp; cases p <;> first | rfl | simp at hp

theorem only_setAlarms (v : Table AlarmRow) (s : State) : OnlyIn [.alarms] s (s.setAlarms v) := by
  intro p hp; cases p <;> first | rfl | simp at hp

theorem only_setInputs (v : Inputs) (s : State) : OnlyIn [.inputs] s (s.setInputs v) := by
  intro p hp; cases p <;> first | rfl | simp at hp

theorem only_setPower (v : Power) (s : State) : OnlyIn [.power] s (s.setPower v) := by
  intro p hp; cases p <;> first | rfl | simp at hp

theorem only_setHanded (v : List Handed) (s : State) : OnlyIn [.handed] s (s.setHanded v) := by
  intro p hp; cases p <;> first | rfl | simp at hp

theorem only_setDraws (v : Nat) (s : State) : OnlyIn [.draws] s (s.setDraws v) := by
  intro p hp; cases p <;> first | rfl | simp at hp

theorem only_setPending (v : List Instr) (s : State) : OnlyIn [.pending] s (s.setPending v) := by
  intro p hp; cases p <;> first | rfl | simp at hp

theorem only_setLine (v : List LineByte) (s : State) : OnlyIn [.line] s (s.setLine v) := by
  intro p hp; cases p <;> first | rfl | simp at hp

end Sys2Proof.Machine
end

