-- ==== Sys2Proof/Laws/Holds.lean ====
section
/-! SUPPORT. What the end of a hold does (R42, R45): once over `endHold`, and then for a hose that leaves
AWAITING. -/

namespace Sys2Proof.Machine

/-- R45: everything that the end of a hold can do: nothing, or the update that waits is applied. -/
theorem endHold_cases (k : Nat) (s : State) :
    endHold k s = s ∧ (held s k = true ∨ pendingUpdate s k = none) ∨
      ∃ u, held s k = false ∧ pendingUpdate s k = some u ∧ endHold k s = applyUpdate u s := by
  unfold endHold
  cases hh : held s k with
  | true => exact .inl ⟨if_pos rfl, .inl rfl⟩
  | false => cases hu : pendingUpdate s k with
    | none => exact .inl ⟨by simp, .inr rfl⟩
    | some u => exact .inr ⟨u, rfl, rfl, by simp⟩

/-- R43: the update that waits for an entry names it. -/
theorem entry_of_pendingUpdate {s : State} {k : Nat} {u : Update} (h : pendingUpdate s k = some u) :
    u.entry = k := by simpa using List.find?_some h

/-- R45: an applied update changes its entry alone, to its contents or to EMPTY, and leaves the queue. -/
theorem applyUpdate_machine_ne (u : Update) (s : State) {j : Nat} (h : j ≠ u.entry) :
    (applyUpdate u s).machine j = s.machine j := by
  unfold applyUpdate applyContents writeEntry deleteEntry
  cases u.contents with
  | none => simp [State.machine, tableFind_tableErase_ne _ h]
  | some f => cases s.machine u.entry <;> simp [State.machine, tableFind_tablePut_ne _ _ h]

theorem applyUpdate_delete {u : Update} (s : State) (h : u.contents = none) :
    (applyUpdate u s).machine u.entry = none := by
  simp [applyUpdate, applyContents, h, deleteEntry, State.machine]

theorem applyUpdate_write {u : Update} {f : MachineFields} {m : MachineEntry} (s : State)
    (h : u.contents = some f) (hm : s.machine u.entry = some m) :
    (applyUpdate u s).machine u.entry = some { m with fields := f } := by
  rw [State.machine] at hm
  simp [applyUpdate, applyContents, h, writeEntry, hm, State.machine]

@[simp] theorem applyUpdate_queue (u : Update) (s : State) :
    (applyUpdate u s).store.queue = s.store.queue.filter fun v => decide (v.entry ≠ u.entry) := by
  simp [applyUpdate]

/-- R42: an entry is held exactly where a hose names it in a holding state. -/
theorem held_iff (s : State) (k : Nat) : held s k = true ↔ ∃ h, holding s h = some k := by
  have all : ∀ h : Hose, h ∈ allHoses := by intro h; cases h <;> decide
  constructor
  · intro h
    cases hl : holders s k with
    | nil => simp [held, hl] at h
    | cons g l =>
      have hg : g ∈ holders s k := by simp [hl]
      exact ⟨g, by simpa [holders] using (List.mem_filter.mp hg).2⟩
  · rintro ⟨h, hh⟩
    have hg : h ∈ holders s k := List.mem_filter.mpr ⟨all h, by simpa using hh⟩
    cases hl : holders s k with
    | nil => simp [hl] at hg
    | cons g l => simp [held, hl]

/-- R42: a hose that moves to a state outside the holding ones holds nothing there, and the hold of every other
hose stands. -/
theorem holding_moveHose (h g : Hose) (st : HoseState) (s : State) (hs : st.isFilling = false)
    (ha : st.isAwaiting = false) :
    holding (moveHose h st s) g = if g = h then none else holding s g := by
  by_cases e : g = h
  · subst e
    cases st <;> simp_all [holding, moveHose, State.hose, HoseState.isFilling, HoseState.isAwaiting]
  · simp [holding, moveHose, State.hose, State.tx, PerHose.get_set_ne, e]

/-- R42, R45: a hose that leaves AWAITING for a state outside the holding ones ends its hold on its entry. -/
theorem holdEnded_of_moveHose (h : Hose) (k : Nat) (st : HoseState) (s : State)
    (hs : st.isFilling = false) (ha : st.isAwaiting = false) :
    HoldEnded h k s (endHold k (moveHose h st s)) := by
  have hold := fun g => holding_moveHose h g st s hs ha
  have others : held (moveHose h st s) k = true ↔ ∃ g, g ≠ h ∧ holding s g = some k := by
    simp only [held_iff, hold]
    constructor
    · rintro ⟨g, hg⟩
      by_cases e : g = h
      · simp [e] at hg
      · exact ⟨g, e, by simpa [e] using hg⟩
    · rintro ⟨g, e, hg⟩
      exact ⟨g, by simpa [e] using hg⟩
  have pend : pendingUpdate (moveHose h st s) k = pendingUpdate s k := rfl
  obtain ⟨he, hc⟩ | ⟨u, hh, hu, he⟩ := endHold_cases k (moveHose h st s)
  · rw [he]
    refine ⟨fun u hn hp => ?_, fun _ => ⟨rfl, rfl⟩⟩
    obtain hc | hc := hc
    · obtain ⟨g, e, hg⟩ := others.mp hc
      exact absurd hg (hn g e)
    · rw [pend, hp] at hc; cases hc
  · rw [he]
    have hk : u.entry = k := entry_of_pendingUpdate hu
    refine ⟨fun v _ hp => ?_, ?_⟩
    · have hv : v = u := by rw [pend, hp] at hu; exact (Option.some.inj hu)
      subst hv; subst hk
      exact ⟨applyUpdate_queue _ _, fun j hj => applyUpdate_machine_ne _ _ hj, applyUpdate_delete _,
        fun f m hf hm => applyUpdate_write _ hf hm⟩
    · rintro (hn | hp)
      · rw [others.mpr hn] at hh; cases hh
      · rw [pend, hp] at hu; cases hu

/-- R59, R70: a waiting hose that is refused ends its hold. -/
theorem refuseHose_ends {h : Hose} {k : Nat} {id : TagId} (r : Reason) {s : State}
    (hw : (s.hose h).state = .awaiting k id) : HoldEnded h k s (refuseHose h r s) := by
  unfold refuseHose endAwaitHold
  rw [hw]
  exact holdEnded_of_moveHose h k _ s rfl rfl

/-- R64: a waiting hose whose nozzle is hung ends its hold. -/
theorem idleHose_ends {h : Hose} {k : Nat} {id : TagId} {s : State}
    (hw : (s.hose h).state = .awaiting k id) : HoldEnded h k s (idleHose h s) := by
  unfold idleHose endAwaitHold
  rw [hw]
  exact holdEnded_of_moveHose h k _ s rfl rfl

end Sys2Proof.Machine
end

