-- ==== Sys2Proof/Laws/PerInstr.lean ====
section
/-! SUPPORT. One lemma for each command: the family `RequestRow` of LAWS.json. -/

namespace Sys2Proof.Laws.RequestRow

open Sys2Proof.Machine

/-- R184, R189: a command has a telegram exactly when it is a host request, and the row that the telegram's
message code, sequence tag and body name is the command itself. -/
def Statement (i : Instr) : Prop :=
  (requestForm i).isSome = isRequest i ∧
    ∀ r, requestForm i = some r → i.wf = true → requestRow r.1 r.2.1 r.2.2 = i

theorem siteStatus (tag : SeqTag) (body : List Septet) : Statement (.siteStatus tag body) :=
  ⟨rfl, fun _ h _ => by cases h; rfl⟩

theorem alarms (tag : SeqTag) (body : List Septet) : Statement (.alarms tag body) :=
  ⟨rfl, fun _ h _ => by cases h; rfl⟩

theorem linkCounters (tag : SeqTag) (body : List Septet) : Statement (.linkCounters tag body) :=
  ⟨rfl, fun _ h _ => by cases h; rfl⟩

theorem settingsRead (tag : SeqTag) (body : List Septet) : Statement (.settingsRead tag body) :=
  ⟨rfl, fun _ h _ => by cases h; rfl⟩

theorem settingsWrite (tag : SeqTag) (body : List Septet) : Statement (.settingsWrite tag body) :=
  ⟨rfl, fun _ h _ => by cases h; rfl⟩

theorem restart (tag : SeqTag) (body : List Septet) : Statement (.restart tag body) :=
  ⟨rfl, fun _ h _ => by cases h; rfl⟩

theorem tagChannelRead (tag : SeqTag) (body : List Septet) : Statement (.tagChannelRead tag body) :=
  ⟨rfl, fun _ h _ => by cases h; rfl⟩

theorem machineRead (tag : SeqTag) (body : List Septet) : Statement (.machineRead tag body) :=
  ⟨rfl, fun _ h _ => by cases h; rfl⟩

theorem machineWrite (tag : SeqTag) (body : List Septet) : Statement (.machineWrite tag body) :=
  ⟨rfl, fun _ h _ => by cases h; rfl⟩

theorem machineDelete (tag : SeqTag) (body : List Septet) : Statement (.machineDelete tag body) :=
  ⟨rfl, fun _ h _ => by cases h; rfl⟩

theorem machineFind (tag : SeqTag) (body : List Septet) : Statement (.machineFind tag body) :=
  ⟨rfl, fun _ h _ => by cases h; rfl⟩

theorem machineList (tag : SeqTag) (body : List Septet) : Statement (.machineList tag body) :=
  ⟨rfl, fun _ h _ => by cases h; rfl⟩

theorem accountRead (tag : SeqTag) (body : List Septet) : Statement (.accountRead tag body) :=
  ⟨rfl, fun _ h _ => by cases h; rfl⟩

theorem accountWrite (tag : SeqTag) (body : List Septet) : Statement (.accountWrite tag body) :=
  ⟨rfl, fun _ h _ => by cases h; rfl⟩

theorem accountDelete (tag : SeqTag) (body : List Septet) : Statement (.accountDelete tag body) :=
  ⟨rfl, fun _ h _ => by cases h; rfl⟩

theorem approve (tag : SeqTag) (body : List Septet) : Statement (.approve tag body) :=
  ⟨rfl, fun _ h _ => by cases h; rfl⟩

theorem decline (tag : SeqTag) (body : List Septet) : Statement (.decline tag body) :=
  ⟨rfl, fun _ h _ => by cases h; rfl⟩

theorem authorise (tag : SeqTag) (body : List Septet) : Statement (.authorise tag body) :=
  ⟨rfl, fun _ h _ => by cases h; rfl⟩

theorem hoseStatus (tag : SeqTag) (body : List Septet) : Statement (.hoseStatus tag body) :=
  ⟨rfl, fun _ h _ => by cases h; rfl⟩

theorem stop (tag : SeqTag) (body : List Septet) : Statement (.stop tag body) :=
  ⟨rfl, fun _ h _ => by cases h; rfl⟩

theorem hoseEnable (tag : SeqTag) (body : List Septet) : Statement (.hoseEnable tag body) :=
  ⟨rfl, fun _ h _ => by cases h; rfl⟩

theorem hoseDisable (tag : SeqTag) (body : List Septet) : Statement (.hoseDisable tag body) :=
  ⟨rfl, fun _ h _ => by cases h; rfl⟩

theorem hoseSettingsRead (tag : SeqTag) (body : List Septet) : Statement (.hoseSettingsRead tag body) :=
  ⟨rfl, fun _ h _ => by cases h; rfl⟩

theorem hoseSettingsWrite (tag : SeqTag) (body : List Septet) : Statement (.hoseSettingsWrite tag body) :=
  ⟨rfl, fun _ h _ => by cases h; rfl⟩

theorem equipmentStatus (tag : SeqTag) (body : List Septet) : Statement (.equipmentStatus tag body) :=
  ⟨rfl, fun _ h _ => by cases h; rfl⟩

theorem pumpSettingsRead (tag : SeqTag) (body : List Septet) : Statement (.pumpSettingsRead tag body) :=
  ⟨rfl, fun _ h _ => by cases h; rfl⟩

theorem pumpSettingsWrite (tag : SeqTag) (body : List Septet) : Statement (.pumpSettingsWrite tag body) :=
  ⟨rfl, fun _ h _ => by cases h; rfl⟩

theorem inhibitClear (tag : SeqTag) (body : List Septet) : Statement (.inhibitClear tag body) :=
  ⟨rfl, fun _ h _ => by cases h; rfl⟩

theorem stockStatus (tag : SeqTag) (body : List Septet) : Statement (.stockStatus tag body) :=
  ⟨rfl, fun _ h _ => by cases h; rfl⟩

theorem tankSetupRead (tag : SeqTag) (body : List Septet) : Statement (.tankSetupRead tag body) :=
  ⟨rfl, fun _ h _ => by cases h; rfl⟩

theorem tankSetupWrite (tag : SeqTag) (body : List Septet) : Statement (.tankSetupWrite tag body) :=
  ⟨rfl, fun _ h _ => by cases h; rfl⟩

theorem strappingRead (tag : SeqTag) (body : List Septet) : Statement (.strappingRead tag body) :=
  ⟨rfl, fun _ h _ => by cases h; rfl⟩

theorem strappingWrite (tag : SeqTag) (body : List Septet) : Statement (.strappingWrite tag body) := by
  refine ⟨rfl, fun _ h w => ?_⟩
  cases h
  match body, w with
  | [], _ => rfl
  | [_], _ => rfl
  | _ :: flag :: _, w =>
    have hf : ¬ flag.toNat = 0 := by
      simpa [Instr.wf, lastPart, BitVec.toNat_eq] using And.right (by simpa [Instr.wf, lastPart] using w)
    show (if flag.toNat = 0 then _ else _) = _
    rw [if_neg hf]

theorem strappingWritePart (tag : SeqTag) (part : Septet) (fragment : List Septet) :
    Statement (.strappingWritePart tag part fragment) :=
  ⟨rfl, fun _ h _ => by cases h; rfl⟩

theorem gauge (tag : SeqTag) (body : List Septet) : Statement (.gauge tag body) :=
  ⟨rfl, fun _ h _ => by cases h; rfl⟩

theorem gaugeRead (tag : SeqTag) (body : List Septet) : Statement (.gaugeRead tag body) :=
  ⟨rfl, fun _ h _ => by cases h; rfl⟩

theorem bookAdjust (tag : SeqTag) (body : List Septet) : Statement (.bookAdjust tag body) :=
  ⟨rfl, fun _ h _ => by cases h; rfl⟩

theorem deliveryStatus (tag : SeqTag) (body : List Septet) : Statement (.deliveryStatus tag body) :=
  ⟨rfl, fun _ h _ => by cases h; rfl⟩

theorem deliveryOpen (tag : SeqTag) (body : List Septet) : Statement (.deliveryOpen tag body) :=
  ⟨rfl, fun _ h _ => by cases h; rfl⟩

theorem deliveryClose (tag : SeqTag) (body : List Septet) : Statement (.deliveryClose tag body) :=
  ⟨rfl, fun _ h _ => by cases h; rfl⟩

theorem logStatus (tag : SeqTag) (body : List Septet) : Statement (.logStatus tag body) :=
  ⟨rfl, fun _ h _ => by cases h; rfl⟩

theorem logRead (tag : SeqTag) (body : List Septet) : Statement (.logRead tag body) :=
  ⟨rfl, fun _ h _ => by cases h; rfl⟩

theorem logConfirm (tag : SeqTag) (body : List Septet) : Statement (.logConfirm tag body) :=
  ⟨rfl, fun _ h _ => by cases h; rfl⟩

theorem logRewind (tag : SeqTag) (body : List Septet) : Statement (.logRewind tag body) :=
  ⟨rfl, fun _ h _ => by cases h; rfl⟩

theorem clockSet (tag : SeqTag) (body : List Septet) : Statement (.clockSet tag body) :=
  ⟨rfl, fun _ h _ => by cases h; rfl⟩

theorem shiftClose (tag : SeqTag) (body : List Septet) : Statement (.shiftClose tag body) :=
  ⟨rfl, fun _ h _ => by cases h; rfl⟩

theorem shiftTotals (tag : SeqTag) (body : List Septet) : Statement (.shiftTotals tag body) :=
  ⟨rfl, fun _ h _ => by cases h; rfl⟩

theorem calRead (tag : SeqTag) (body : List Septet) : Statement (.calRead tag body) :=
  ⟨rfl, fun _ h _ => by cases h; rfl⟩

theorem calOpen (tag : SeqTag) (body : List Septet) : Statement (.calOpen tag body) :=
  ⟨rfl, fun _ h _ => by cases h; rfl⟩

theorem calWrite (tag : SeqTag) (body : List Septet) : Statement (.calWrite tag body) :=
  ⟨rfl, fun _ h _ => by cases h; rfl⟩

theorem calClose (tag : SeqTag) (body : List Septet) : Statement (.calClose tag body) :=
  ⟨rfl, fun _ h _ => by cases h; rfl⟩

theorem auditRead (tag : SeqTag) (body : List Septet) : Statement (.auditRead tag body) :=
  ⟨rfl, fun _ h _ => by cases h; rfl⟩

theorem parkStatus (tag : SeqTag) (body : List Septet) : Statement (.parkStatus tag body) :=
  ⟨rfl, fun _ h _ => by cases h; rfl⟩

theorem park (tag : SeqTag) (body : List Septet) : Statement (.park tag body) :=
  ⟨rfl, fun _ h _ => by cases h; rfl⟩

theorem unknown (tag : SeqTag) (code : Septet) : Statement (.unknown tag code) :=
  ⟨rfl, fun _ h => nomatch h⟩

theorem check (tag : SeqTag) (code : Septet) : Statement (.check tag code) :=
  ⟨rfl, fun _ h => nomatch h⟩

theorem overlap : Statement .overlap :=
  ⟨rfl, fun _ h => nomatch h⟩

theorem brokenFrame (kind : BrokenFrame) : Statement (.brokenFrame kind) :=
  ⟨rfl, fun _ h => nomatch h⟩

theorem byteError : Statement .byteError :=
  ⟨rfl, fun _ h => nomatch h⟩

theorem waking (tag : SeqTag) (code : Septet) : Statement (.waking tag code) :=
  ⟨rfl, fun _ h => nomatch h⟩

theorem nozzleLift (h : Hose) : Statement (.nozzleLift h) :=
  ⟨rfl, fun _ h => nomatch h⟩

theorem nozzleHang (h : Hose) : Statement (.nozzleHang h) :=
  ⟨rfl, fun _ h => nomatch h⟩

theorem meterPulse (m : Meter) : Statement (.meterPulse m) :=
  ⟨rfl, fun _ h => nomatch h⟩

theorem tempReading (p : Probe) (reading : Int) : Statement (.tempReading p reading) :=
  ⟨rfl, fun _ h => nomatch h⟩

theorem tempFaultIndication (p : Probe) : Statement (.tempFaultIndication p) :=
  ⟨rfl, fun _ h => nomatch h⟩

theorem levelReading (c : Comp) (level : Nat) : Statement (.levelReading c level) :=
  ⟨rfl, fun _ h => nomatch h⟩

theorem levelFaultIndication (c : Comp) : Statement (.levelFaultIndication c) :=
  ⟨rfl, fun _ h => nomatch h⟩

theorem valid (ch : Hose) (id : TagId) : Statement (.valid ch id) :=
  ⟨rfl, fun _ h => nomatch h⟩

theorem inverted (ch : Hose) (id : TagId) : Statement (.inverted ch id) :=
  ⟨rfl, fun _ h => nomatch h⟩

theorem checkBad (ch : Hose) : Statement (.checkBad ch) :=
  ⟨rfl, fun _ h => nomatch h⟩

theorem badStart (ch : Hose) : Statement (.badStart ch) :=
  ⟨rfl, fun _ h => nomatch h⟩

theorem confirmed (h : Hose) (id : TagId) : Statement (.confirmed h id) :=
  ⟨rfl, fun _ h => nomatch h⟩

theorem lost (h : Hose) : Statement (.lost h) :=
  ⟨rfl, fun _ h => nomatch h⟩

theorem changed (h : Hose) (id : TagId) : Statement (.changed h id) :=
  ⟨rfl, fun _ h => nomatch h⟩

theorem emergencyStopActive : Statement .emergencyStopActive :=
  ⟨rfl, fun _ h => nomatch h⟩

theorem emergencyStopInactive : Statement .emergencyStopInactive :=
  ⟨rfl, fun _ h => nomatch h⟩

theorem overfillSwitchActive (c : Comp) : Statement (.overfillSwitchActive c) :=
  ⟨rfl, fun _ h => nomatch h⟩

theorem overfillSwitchInactive (c : Comp) : Statement (.overfillSwitchInactive c) :=
  ⟨rfl, fun _ h => nomatch h⟩

theorem sealSwitchOpen : Statement .sealSwitchOpen :=
  ⟨rfl, fun _ h => nomatch h⟩

theorem sealSwitchClosed : Statement .sealSwitchClosed :=
  ⟨rfl, fun _ h => nomatch h⟩

theorem storeDisturbance (set : CalSet) : Statement (.storeDisturbance set) :=
  ⟨rfl, fun _ h => nomatch h⟩

theorem startUp : Statement .startUp :=
  ⟨rfl, fun _ h => nomatch h⟩

theorem intervalEnd (m : Meter) : Statement (.intervalEnd m) :=
  ⟨rfl, fun _ h => nomatch h⟩

theorem sourceHoldTimerExpiry (p : Probe) : Statement (.sourceHoldTimerExpiry p) :=
  ⟨rfl, fun _ h => nomatch h⟩

theorem channelHoldTimerExpiry (ch : Hose) : Statement (.channelHoldTimerExpiry ch) :=
  ⟨rfl, fun _ h => nomatch h⟩

theorem identifyTimerExpiry (h : Hose) : Statement (.identifyTimerExpiry h) :=
  ⟨rfl, fun _ h => nomatch h⟩

theorem approvalTimerExpiry (h : Hose) : Statement (.approvalTimerExpiry h) :=
  ⟨rfl, fun _ h => nomatch h⟩

theorem noFlowTimerExpiry (h : Hose) : Statement (.noFlowTimerExpiry h) :=
  ⟨rfl, fun _ h => nomatch h⟩

theorem resumeGraceTimerExpiry (h : Hose) : Statement (.resumeGraceTimerExpiry h) :=
  ⟨rfl, fun _ h => nomatch h⟩

theorem hoseDrainQuietExpiry (h : Hose) : Statement (.hoseDrainQuietExpiry h) :=
  ⟨rfl, fun _ h => nomatch h⟩

theorem hoseDrainCapExpiry (h : Hose) : Statement (.hoseDrainCapExpiry h) :=
  ⟨rfl, fun _ h => nomatch h⟩

theorem deliveryDrainQuietExpiry : Statement .deliveryDrainQuietExpiry :=
  ⟨rfl, fun _ h => nomatch h⟩

theorem deliveryDrainCapExpiry : Statement .deliveryDrainCapExpiry :=
  ⟨rfl, fun _ h => nomatch h⟩

theorem maxRunReached (c : Comp) : Statement (.maxRunReached c) :=
  ⟨rfl, fun _ h => nomatch h⟩

theorem restTimerExpiry (c : Comp) : Statement (.restTimerExpiry c) :=
  ⟨rfl, fun _ h => nomatch h⟩

theorem windowTimerExpiry : Statement .windowTimerExpiry :=
  ⟨rfl, fun _ h => nomatch h⟩

theorem checkTimerExpiry : Statement .checkTimerExpiry :=
  ⟨rfl, fun _ h => nomatch h⟩

theorem watchdogExpiry (order : HoseOrder) : Statement (.watchdogExpiry order) :=
  ⟨rfl, fun _ h => nomatch h⟩

theorem watchTimerExpiry : Statement .watchTimerExpiry :=
  ⟨rfl, fun _ h => nomatch h⟩

theorem confirmTimerExpiry : Statement .confirmTimerExpiry :=
  ⟨rfl, fun _ h => nomatch h⟩

theorem siteClockTick : Statement .siteClockTick :=
  ⟨rfl, fun _ h => nomatch h⟩

theorem preGaugeResult (c : Comp) (r : GaugeResult) : Statement (.preGaugeResult c r) :=
  ⟨rfl, fun _ h => nomatch h⟩

theorem postGaugeResult (c : Comp) (r : GaugeResult) : Statement (.postGaugeResult c r) :=
  ⟨rfl, fun _ h => nomatch h⟩

theorem parkBaselineResult (c : Comp) (r : GaugeResult) : Statement (.parkBaselineResult c r) :=
  ⟨rfl, fun _ h => nomatch h⟩

theorem parkWatchResult (c : Comp) (r : GaugeResult) : Statement (.parkWatchResult c r) :=
  ⟨rfl, fun _ h => nomatch h⟩

theorem answerSent : Statement .answerSent :=
  ⟨rfl, fun _ h => nomatch h⟩

theorem lossOfPower : Statement .lossOfPower :=
  ⟨rfl, fun _ h => nomatch h⟩

end Sys2Proof.Laws.RequestRow
end

