-- ==== Sys2Proof/Laws/Touches.lean ====
section
/-! SUPPORT. For each shared operation, one lemma that says which parts of the state it can change: a
later proof reads an unchanged part off it and does not unfold the operation. -/

namespace Sys2Proof.Machine

/-! ## Ops -/

theorem raiseAlarm_touches (a : Alarm) (s : State) : OnlyIn [.alarms] s (raiseAlarm a s) :=
  only_setAlarms _ _

theorem handOver_touches (e : Handed) (s : State) : OnlyIn [.handed] s (handOver e s) :=
  only_setHanded _ _

theorem takeHanded_touches (e : Handed) (s : State) : OnlyIn [.handed] s (takeHanded e s) :=
  only_setHanded _ _

theorem onMachine_touches (k : Nat) (f : MachineEntry → MachineEntry) (s : State) :
    OnlyIn [.machines] s (s.onMachine k f) := by
  unfold State.onMachine; split
  · exact only_setMachines _ _
  · exact .refl _ _

theorem onAccount_touches (k : Nat) (f : Account → Account) (s : State) :
    OnlyIn [.accounts] s (s.onAccount k f) := by
  unfold State.onAccount; split
  · exact only_setAccounts _ _
  · exact .refl _ _

/-! ## Metering -/

theorem enterDefault_touches (p : Probe) (s : State) :
    OnlyIn [.sources, .alarms] s (enterDefault p s) :=
  ((only_setSources _ s).mono (by decide)).then (raiseAlarm_touches _ _) (by decide)

theorem takeReading_touches (p : Probe) (i : Int) (s : State) :
    OnlyIn [.sources, .alarms] s (takeReading p i s) := by
  unfold takeReading
  exact .ite (((only_setSources _ s).mono (by decide)).then (raiseAlarm_touches _ _) (by decide))
    ((only_setSources _ s).mono (by decide))

theorem takeFault_touches (p : Probe) (s : State) : OnlyIn [.sources, .alarms] s (takeFault p s) := by
  unfold takeFault; split
  all_goals first
    | exact (only_setSources _ s).mono (by decide)
    | exact enterDefault_touches p s

theorem drawFactor_touches (m : Meter) (s : State) : OnlyIn [.draws] s (drawFactor m s) := by
  unfold drawFactor; split
  · exact .refl _ _
  · exact only_setDraws _ _

theorem addToInterval_touches (m : Meter) (f : Nat) (s : State) :
    OnlyIn [.meters] s (addToInterval m f s) := only_setMeters _ _

theorem startInterval_touches (m : Meter) (s : State) : OnlyIn [.meters] s (startInterval m s) :=
  only_setMeters _ _

theorem stopInterval_touches (m : Meter) (s : State) : OnlyIn [.meters] s (stopInterval m s) :=
  only_setMeters _ _

theorem endInterval_touches (m : Meter) (s : State) :
    OnlyIn [.meters, .draws] s (endInterval m s) := by
  unfold endInterval; dsimp only; split
  · exact (only_setMeters _ s).mono (by decide)
  · exact ((only_setMeters _ s).mono (by decide)).then (only_setDraws _ _) (by decide)

theorem recomputeHose_touches (h : Hose) (s : State) : OnlyIn [.txs] s (recomputeHose h s) := by
  unfold recomputeHose; split
  · exact only_setTxs _ _
  · exact .refl _ _

theorem recomputeVcf_touches (m : Meter) (s : State) :
    OnlyIn [.txs, .delivery] s (recomputeVcf m s) := by
  unfold recomputeVcf; split
  · exact (recomputeHose_touches _ _).mono (by decide)
  · exact (recomputeHose_touches _ _).mono (by decide)
  · exact (recomputeHose_touches _ _).mono (by decide)
  · split
    · exact (only_setDelivery _ _).mono (by decide)
    · exact .refl _ _

/-! ## Channels and the registry -/

theorem channelOff_touches (h : Hose) (s : State) : OnlyIn [.channels] s (channelOff h s) :=
  only_setChannels _ _

theorem channelOn_touches (h : Hose) (s : State) : OnlyIn [.channels] s (channelOn h s) :=
  only_setChannels _ _

theorem report_touches (h : Hose) (r : Option TagReport) (s : State) :
    OnlyIn [.handed] s (report h r s) := by
  unfold report; split
  · exact handOver_touches _ _
  · exact .refl _ _

theorem writeEntry_touches (k : Nat) (f : MachineFields) (s : State) :
    OnlyIn [.machines] s (writeEntry k f s) := by
  unfold writeEntry; split <;> exact only_setMachines _ _

theorem applyContents_touches (u : Update) (s : State) :
    OnlyIn [.machines] s (applyContents u s) := by
  unfold applyContents; split
  · exact writeEntry_touches _ _ _
  · exact only_setMachines _ _

theorem applyUpdate_touches (u : Update) (s : State) :
    OnlyIn [.machines, .queue] s (applyUpdate u s) :=
  ((applyContents_touches u s).mono (by decide)).then (only_setQueue _ _) (by decide)

theorem endHold_touches (k : Nat) (s : State) : OnlyIn [.machines, .queue] s (endHold k s) := by
  unfold endHold; split
  · exact .refl _ _
  · split
    · exact applyUpdate_touches _ _
    · exact .refl _ _

theorem applyAll_touches (l : List Update) (s : State) :
    OnlyIn [.machines] s (l.foldl (fun s u => applyContents u s) s) := by
  induction l generalizing s with
  | nil => exact .refl _ _
  | cons u l ih => exact (applyContents_touches u s).trans (ih _)

theorem applyQueue_touches (s : State) : OnlyIn [.machines, .queue] s (applyQueue s) :=
  ((applyAll_touches _ s).mono (by decide)).then (only_setQueue _ _) (by decide)

theorem writeOrQueue_touches (u : Update) (s : State) :
    OnlyIn [.machines, .queue] s (writeOrQueue u s) := by
  unfold writeOrQueue
  exact .ite ((only_setQueue _ _).mono (by decide)) ((applyContents_touches u s).mono (by decide))

/-! ## The log -/

theorem watchLog_touches (s : State) : OnlyIn [.logWatch, .alarms] s (watchLog s) := by
  unfold watchLog; split
  · exact .ite (((only_setLogWatch _ s).mono (by decide)).then (raiseAlarm_touches _ _) (by decide))
      (.refl _ _)
  · exact .ite ((only_setLogWatch _ s).mono (by decide)) (.refl _ _)

theorem takeCommitment_touches (s : State) :
    OnlyIn [.log, .logWatch, .alarms] s (takeCommitment s) :=
  ((only_setLog _ s).mono (by decide)).then (watchLog_touches _) (by decide)

theorem releaseCommitment_touches (s : State) :
    OnlyIn [.log, .logWatch, .alarms] s (releaseCommitment s) :=
  ((only_setLog _ s).mono (by decide)).then (watchLog_touches _) (by decide)

theorem writeRecord_touches (b : RecordBody) (s : State) :
    OnlyIn [.log, .logWatch, .alarms] s (writeRecord b s) :=
  ((only_setLog _ s).mono (by decide)).then (watchLog_touches _) (by decide)

/-! ## Compartments and gauging -/

theorem watchStock_touches (c : Comp) (s : State) :
    OnlyIn [.units, .alarms] s (watchStock c s) := by
  unfold watchStock; dsimp only; split
  · exact .ite (((only_setUnits _ s).mono (by decide)).then (raiseAlarm_touches _ _) (by decide))
      (.refl _ _)
  · exact .ite (.refl _ _) ((only_setUnits _ s).mono (by decide))

theorem setStale_touches (c : Comp) (s : State) : OnlyIn [.comps] s (setStale c s) :=
  only_setComps _ _

theorem afterBookChange_touches (c : Comp) (s : State) :
    OnlyIn [.comps, .units, .alarms] s (afterBookChange c s) :=
  ((setStale_touches c s).mono (by decide)).then (watchStock_touches _ _) (by decide)

theorem evalPump_touches (c : Comp) (s : State) : OnlyIn [.pumps] s (evalPump c s) := by
  unfold evalPump; split
  · exact .ite (only_setPumps _ _) (.refl _ _)
  · exact .ite (.refl _ _) (only_setPumps _ _)
  · exact .refl _ _

theorem setRun_touches (c : Comp) (r : Run) (s : State) : OnlyIn [.units] s (setRun c r s) :=
  only_setUnits _ _

theorem evalRest_touches (c : Comp) (s : State) : OnlyIn [.units] s (evalRest c s) := by
  unfold evalRest; split
  · exact .refl _ _
  · exact .ite (setRun_touches _ _ _) (.refl _ _)
  · exact .ite (.refl _ _) (setRun_touches _ _ _)

theorem settle_touches (c : Comp) (s : State) : OnlyIn [.pumps, .units] s (settle c s) :=
  ((evalPump_touches c s).mono (by decide)).then (evalRest_touches c _) (by decide)

theorem requestRun_touches (c : Comp) (k : Requester) (s : State) :
    OnlyIn [.units] s (requestRun c k s) := by
  unfold requestRun; split
  · exact (setRun_touches _ _ _).trans (evalRest_touches _ _)
  · exact .ite (.refl _ _) (setRun_touches _ _ _)
  · exact .ite (.refl _ _) (setRun_touches _ _ _)

theorem withdraw_touches (c : Comp) (k : Requester) (s : State) :
    OnlyIn [.units] s (withdraw c k s) := by
  unfold withdraw; split
  · exact .refl _ _
  · exact setRun_touches _ _ _
  · exact setRun_touches _ _ _

theorem cancelRequest_touches (c : Comp) (k : Requester) (s : State) :
    OnlyIn [.units, .handed] s (cancelRequest c k s) :=
  ((withdraw_touches c k s).mono (by decide)).then (only_setHanded _ _) (by decide)

/-- R135, R178: after a cancellation no result of the run waits for the requester. -/
theorem cancelRequest_handed (c : Comp) (k : Requester) (s : State) :
    (cancelRequest c k s).handed = s.handed.filter fun e => !e.isResult c k := by
  unfold cancelRequest
  rw [State.setHanded_handed, (withdraw_touches c k s) .handed (by decide)]

theorem handResults_touches (c : Comp) (r : GaugeResult) (reqs : List Requester) (s : State) :
    OnlyIn [.handed] s (handResults c r reqs s) := by
  unfold handResults
  induction reqs generalizing s with
  | nil => exact .refl _ _
  | cons k l ih => exact OnlyIn.trans (.ite (.refl _ _) (handOver_touches _ _)) (ih _)

theorem completeRun_touches (c : Comp) (reqs : List Requester) (n sum : Nat) (s : State) :
    OnlyIn [.comps, .units, .handed] s (completeRun c reqs n sum s) :=
  (((only_setComps _ s).mono (by decide)).then (setRun_touches _ _ _) (by decide)).then
    (handResults_touches _ _ _ _) (by decide)

theorem failRun_touches (c : Comp) (reqs : List Requester) (s : State) :
    OnlyIn [.comps, .units, .alarms, .handed] s (failRun c reqs s) :=
  ((((only_setComps _ s).mono (by decide)).then (raiseAlarm_touches _ _) (by decide)).then
    (setRun_touches _ _ _) (by decide)).then (handResults_touches _ _ _ _) (by decide)

theorem sampleRun_touches (c : Comp) (level : Nat) (s : State) :
    OnlyIn [.comps, .units, .handed] s (sampleRun c level s) := by
  unfold sampleRun; split
  · exact .ite (completeRun_touches _ _ _ _ _) ((setRun_touches _ _ _).mono (by decide))
  · exact .refl _ _
  · exact .refl _ _

theorem faultRun_touches (c : Comp) (s : State) :
    OnlyIn [.comps, .units, .alarms, .handed] s (faultRun c s) := by
  unfold faultRun; split
  · exact failRun_touches _ _ _
  · exact .refl _ _
  · exact .refl _ _

theorem setLevel_touches (c : Comp) (l : Option Nat) (s : State) :
    OnlyIn [.units] s (setLevel c l s) := only_setUnits _ _

/-! ## Hoses -/

theorem moveHose_touches (h : Hose) (st : HoseState) (s : State) :
    OnlyIn [.hoses] s (moveHose h st s) := only_setHoses _ _

theorem endAwaitHold_touches (st : HoseState) (s : State) :
    OnlyIn [.machines, .queue] s (endAwaitHold st s) := by
  unfold endAwaitHold; split
  all_goals first | exact endHold_touches _ _ | exact .refl _ _

theorem refuseHose_touches (h : Hose) (r : Reason) (s : State) :
    OnlyIn [.hoses, .machines, .queue] s (refuseHose h r s) :=
  ((moveHose_touches _ _ s).mono (by decide)).then (endAwaitHold_touches _ _) (by decide)

theorem idleHose_touches (h : Hose) (s : State) :
    OnlyIn [.hoses, .machines, .queue] s (idleHose h s) :=
  ((moveHose_touches _ _ s).mono (by decide)).then (endAwaitHold_touches _ _) (by decide)

theorem enterDraining_touches (h : Hose) (s : State) : OnlyIn [.hoses] s (enterDraining h s) :=
  only_setHoses _ _

theorem stopFill_touches (h : Hose) (cause : StopCause) (s : State) :
    OnlyIn [.hoses, .txs, .meters, .pumps, .units] s (stopFill h cause s) := by
  have base : OnlyIn [.hoses, .txs, .meters, .pumps, .units] s
      (enterDraining h (s.putTx h ((s.tx h).map (Transaction.stopWith cause)))) :=
    ((only_setTxs _ s).mono (by decide)).then (enterDraining_touches _ _) (by decide)
  unfold stopFill; dsimp only; split
  · exact base.then (settle_touches _ _) (by decide)
  · exact (base.then (startInterval_touches _ _) (by decide)).then (settle_touches _ _) (by decide)
  all_goals exact .refl _ _

/-- The parts that a stop or a refusal of a hose can change. -/
abbrev strikeParts : List Part := [.hoses, .txs, .meters, .pumps, .units, .machines, .queue]

theorem strike_touches (cause : StopCause) (r : Reason) (h : Hose) (s : State) :
    OnlyIn strikeParts s (strike cause r h s) := by
  unfold strike; split
  all_goals first
    | exact (stopFill_touches _ _ _).mono (by decide)
    | exact (refuseHose_touches _ _ _).mono (by decide)
    | exact .refl _ _

theorem strikeAll_touches (cause : StopCause) (r : Reason) (hs : List Hose) (s : State) :
    OnlyIn strikeParts s (strikeAll cause r hs s) := by
  unfold strikeAll
  induction hs generalizing s with
  | nil => exact .refl _ _
  | cons h l ih => exact (strike_touches _ _ _ _).trans (ih _)

theorem inhibit_touches (c : Comp) (cause : InhibitCause) (s : State) :
    OnlyIn (.comps :: strikeParts) s (inhibit c cause s) := by
  unfold inhibit
  refine .ite (.refl _ _) ?_
  exact ((((only_setComps _ s).mono (by decide)).then (evalPump_touches _ _) (by decide)).then
    (strikeAll_touches _ _ _ _) (by decide)).then (evalRest_touches _ _) (by decide)

theorem enterFault_touches (s : State) :
    OnlyIn (.guard :: .alarms :: strikeParts) s (enterFault s) :=
  (((only_setGuard _ s).mono (by decide)).then (raiseAlarm_touches _ _) (by decide)).then
    (strikeAll_touches _ _ _ _) (by decide)

theorem integrityCheck_touches (s : State) :
    OnlyIn (.guard :: .alarms :: strikeParts) s (integrityCheck s) := by
  unfold integrityCheck
  exact .ite (.refl _ _) (enterFault_touches _)

theorem evalStage_touches (h : Hose) (s : State) :
    OnlyIn [.hoses, .txs, .meters, .pumps, .units] s (evalStage h s) := by
  unfold evalStage; split
  · exact .refl _ _
  · exact .ite (stopFill_touches _ _ _) ((only_setHoses _ _).mono (by decide))

theorem countHosePulse_touches (h : Hose) (s : State) :
    OnlyIn [.txs, .meters, .draws] s (countHosePulse h s) :=
  (((drawFactor_touches _ s).mono (by decide)).then (addToInterval_touches _ _ _) (by decide)).then
    (only_setTxs _ _) (by decide)

/-- The parts that a pulse on a hose meter can change. -/
abbrev pulseParts : List Part :=
  [.hoses, .txs, .meters, .pumps, .units, .machines, .queue, .comps, .alarms, .draws]

theorem overrun_touches (h : Hose) (s : State) : OnlyIn pulseParts s (overrun h s) :=
  (((((only_setTxs _ s).mono (by decide)).then (stopFill_touches _ _ _) (by decide)).then
    (raiseAlarm_touches _ _) (by decide)).then (inhibit_touches _ _ _) (by decide)).then
    (only_setTxs _ _) (by decide)

theorem pulseFlowing_touches (h : Hose) (s : State) : OnlyIn pulseParts s (pulseFlowing h s) := by
  have base : OnlyIn pulseParts s (countHosePulse h s) :=
    (countHosePulse_touches h s).mono (by decide)
  unfold pulseFlowing; dsimp only
  exact (base.then (only_setHoses _ _) (by decide)).trans
    (.ite (overrun_touches _ _) ((evalStage_touches _ _).mono (by decide)))

theorem pulseDraining_touches (h : Hose) (s : State) : OnlyIn pulseParts s (pulseDraining h s) := by
  have base : OnlyIn pulseParts s (countHosePulse h s) :=
    (countHosePulse_touches h s).mono (by decide)
  unfold pulseDraining; dsimp only
  exact (base.trans (.ite (overrun_touches _ _) (.refl _ _))).then (only_setHoses _ _) (by decide)

theorem countStray_touches (m : Meter) (s : State) : OnlyIn [.meters] s (countStray m s) :=
  only_setMeters _ _

theorem strayPulse_touches (h : Hose) (s : State) : OnlyIn pulseParts s (strayPulse h s) :=
  (((countStray_touches _ s).mono (by decide)).then (raiseAlarm_touches _ _) (by decide)).then
    (inhibit_touches _ _ _) (by decide)

theorem hosePulse_touches (h : Hose) (s : State) : OnlyIn pulseParts s (hosePulse h s) := by
  unfold hosePulse; split
  all_goals first
    | exact pulseFlowing_touches _ _
    | exact pulseDraining_touches _ _
    | exact strayPulse_touches _ _

/-- The parts that a grant can change. -/
abbrev grantParts : List Part :=
  [.hoses, .txs, .meters, .pumps, .units, .machines, .queue, .accounts, .comps, .log, .logWatch, .alarms]

theorem reserve_touches (h : Hose) (k a r : Nat) (s : State) :
    OnlyIn [.machines, .accounts, .comps] s (reserve h k a r s) :=
  (((onMachine_touches _ _ s).mono (by decide)).then (onAccount_touches _ _ _) (by decide)).then
    (only_setComps _ _) (by decide)

theorem openFill_touches (g : GrantRequest) (m : MachineEntry) (s : State) :
    OnlyIn grantParts s (openFill g m s) :=
  (((((((reserve_touches _ _ _ _ s).mono (by decide)).then (takeCommitment_touches _) (by decide)).then
    (only_setTxs _ _) (by decide)).then (startInterval_touches _ _) (by decide)).then
    (only_setHoses _ _) (by decide)).then (evalStage_touches _ _) (by decide)).then
    (settle_touches _ _) (by decide)

theorem grant_touches (g : GrantRequest) (s : State) : OnlyIn grantParts s (grant g s) := by
  unfold grant; split
  · exact .refl _ _
  · split
    · exact (refuseHose_touches _ _ _).mono (by decide)
    · exact openFill_touches _ _ _

theorem countFill_touches (c : Comp) (s : State) : OnlyIn [.shift] s (countFill c s) :=
  only_setShift _ _

/-- The parts that a close can charge. -/
abbrev chargeParts : List Part :=
  [.machines, .accounts, .comps, .units, .log, .logWatch, .alarms, .shift]

theorem chargeFill_touches (h : Hose) (tx : Transaction) (s : State) :
    OnlyIn chargeParts s (chargeFill h tx s) := by
  unfold chargeFill; dsimp only
  refine OnlyIn.then (OnlyIn.then (OnlyIn.then (OnlyIn.trans ?_ (.ite (.refl _ _) ?_))
    (writeRecord_touches _ _) (by decide)) (countFill_touches _ _) (by decide))
    (onMachine_touches _ _ _) (by decide)
  · exact (((onMachine_touches _ _ s).mono (by decide)).then (onAccount_touches _ _ _)
      (by decide)).then (only_setComps _ _) (by decide)
  · exact (afterBookChange_touches _ _).mono (by decide)

theorem closeFill_touches (h : Hose) (s : State) :
    OnlyIn (.hoses :: .txs :: .meters :: .pumps :: .queue :: chargeParts) s (closeFill h s) := by
  unfold closeFill; split
  · exact .refl _ _
  · dsimp only
    exact ((((((chargeFill_touches _ _ s).mono (by decide)).then (only_setTxs _ _) (by decide)).then
      (only_setHoses _ _) (by decide)).then (endHold_touches _ _) (by decide)).then
      (stopInterval_touches _ _) (by decide)).then (settle_touches _ _) (by decide)

/-! ## Deliveries -/

theorem drainDelivery_touches (d : Delivery) (s : State) :
    OnlyIn [.delivery, .inlet, .units] s (drainDelivery d s) :=
  (((only_setDelivery _ s).mono (by decide)).then (only_setInlet _ _) (by decide)).then
    (evalRest_touches _ _) (by decide)

theorem closeInlet_touches (cause : DeliveryCause) (s : State) :
    OnlyIn [.delivery, .inlet, .units] s (closeInlet cause s) := by
  unfold closeInlet; repeat' split
  all_goals first | exact drainDelivery_touches _ _ | exact .refl _ _

theorem levelAlarm_touches (c : Comp) (cause : DeliveryCause) (s : State) :
    OnlyIn [.alarms] s (levelAlarm c cause s) := by
  unfold levelAlarm
  exact .ite (raiseAlarm_touches _ _) (.refl _ _)

theorem enterReceiving_touches (d : Delivery) (s : State) :
    OnlyIn [.delivery, .inlet, .units, .meters, .alarms] s (enterReceiving d s) := by
  have base : OnlyIn [.delivery, .inlet, .units, .meters, .alarms] s (startInterval .m4 s) :=
    (startInterval_touches _ s).mono (by decide)
  unfold enterReceiving; dsimp only; split
  · exact (base.then (levelAlarm_touches _ _ _) (by decide)).then (drainDelivery_touches _ _)
      (by decide)
  · exact ((base.then (only_setDelivery _ _) (by decide)).then (only_setInlet _ _) (by decide)).then
      (evalRest_touches _ _) (by decide)

theorem countInletPulse_touches (d : Delivery) (s : State) :
    OnlyIn [.delivery, .meters, .draws] s (countInletPulse d s) :=
  (((drawFactor_touches _ s).mono (by decide)).then (addToInterval_touches _ _ _) (by decide)).then
    (only_setDelivery _ _) (by decide)

theorem strayInletPulse_touches (s : State) : OnlyIn [.alarms, .meters] s (strayInletPulse s) :=
  ((countStray_touches _ s).mono (by decide)).then (raiseAlarm_touches _ _) (by decide)

theorem inletPulse_touches (s : State) :
    OnlyIn [.delivery, .inlet, .meters, .alarms, .draws] s (inletPulse s) := by
  unfold inletPulse; repeat' split
  all_goals first
    | exact (countInletPulse_touches _ _).mono (by decide)
    | exact (strayInletPulse_touches _).mono (by decide)
    | exact ((countInletPulse_touches _ _).mono (by decide)).then (only_setInlet _ _) (by decide)

theorem offerLevel_touches (c : Comp) (s : State) :
    OnlyIn [.delivery, .inlet, .units, .alarms] s (offerLevel c s) := by
  unfold offerLevel; split
  · exact .refl _ _
  · split
    · split
      · exact .ite (((raiseAlarm_touches _ s).mono (by decide)).then (closeInlet_touches _ _)
          (by decide)) (.refl _ _)
      · exact ((only_setDelivery _ s).mono (by decide)).then (closeInlet_touches _ _) (by decide)
    · exact .refl _ _

theorem creditDelivery_touches (d : Delivery) (s : State) :
    OnlyIn [.delivery, .inlet, .units, .meters, .comps, .alarms] s (creditDelivery d s) :=
  (((((stopInterval_touches _ s).mono (by decide)).then (only_setComps _ _) (by decide)).then
    (only_setDelivery _ _) (by decide)).then (only_setInlet _ _) (by decide)).then
    (afterBookChange_touches _ _) (by decide)

theorem endDeliveryDrain_touches (d : Delivery) (s : State) :
    OnlyIn [.delivery, .inlet, .units, .meters, .comps, .alarms] s (endDeliveryDrain d s) :=
  ((creditDelivery_touches d s).then (evalRest_touches _ _) (by decide)).then
    (requestRun_touches _ _ _) (by decide)

theorem recordDelivery_touches (d : Delivery) (post : Option DeliveryGauge) (s : State) :
    OnlyIn [.delivery, .log, .logWatch, .alarms] s (recordDelivery d post s) :=
  ((writeRecord_touches _ s).mono (by decide)).then (only_setDelivery _ _) (by decide)

theorem cancelDelivery_touches (s : State) :
    OnlyIn [.delivery, .log, .logWatch, .alarms] s (cancelDelivery s) :=
  ((releaseCommitment_touches s).mono (by decide)).then (only_setDelivery _ _) (by decide)

/-! ## Parking -/

theorem wake_touches (o : ParkOutcome) (s : State) : OnlyIn [.park] s (wake o s) := only_setPark _ _

theorem withdrawBaseline_touches (c : Comp) (s : State) :
    OnlyIn [.units, .handed] s (withdrawBaseline c s) := by
  unfold withdrawBaseline
  exact .ite (cancelRequest_touches _ _ _) (.refl _ _)

theorem cancelPark_touches (o : ParkOutcome) (s : State) :
    OnlyIn [.park, .units, .handed] s (cancelPark o s) :=
  (((withdrawBaseline_touches _ s).mono (by decide)).then (withdrawBaseline_touches _ _)
    (by decide)).then (only_setPark _ _) (by decide)

theorem disturbPark_touches (a b : ParkOutcome) (s : State) :
    OnlyIn [.park, .units, .handed] s (disturbPark a b s) := by
  unfold disturbPark; split
  · exact .refl _ _
  · exact cancelPark_touches _ _
  · exact (wake_touches _ _).mono (by decide)
  · exact (wake_touches _ _).mono (by decide)

theorem enterParked_touches (s : State) :
    OnlyIn [.channels, .link, .park] s (enterParked s) :=
  (((((channelOff_touches _ s).mono (by decide)).then (channelOff_touches _ _) (by decide)).then
    (channelOff_touches _ _) (by decide)).then (only_setLink _ _) (by decide)).then
    (only_setPark _ _) (by decide)

theorem finishParking_touches (s : State) :
    OnlyIn [.channels, .link, .park] s (finishParking s) := by
  unfold finishParking
  exact .ite (.refl _ _) (.ite (enterParked_touches _) ((only_setPark _ _).mono (by decide)))

theorem takeBaseline_touches (c : Comp) (r : GaugeResult) (s : State) :
    OnlyIn [.channels, .link, .park] s (takeBaseline c r s) :=
  ((only_setPark _ s).mono (by decide)).then (finishParking_touches _) (by decide)

theorem wakeIfParked_touches (o : ParkOutcome) (s : State) :
    OnlyIn [.park] s (wakeIfParked o s) := by
  unfold wakeIfParked; split
  all_goals first | exact wake_touches _ _ | exact .refl _ _

theorem takeWatch_touches (c : Comp) (r : GaugeResult) (s : State) :
    OnlyIn [.park, .alarms] s (takeWatch c r s) := by
  unfold takeWatch; repeat' split
  all_goals first
    | exact .refl _ _
    | exact (wakeIfParked_touches _ _).mono (by decide)
    | exact ((raiseAlarm_touches _ s).mono (by decide)).then (wakeIfParked_touches _ _) (by decide)

theorem requestWatch_touches (c : Comp) (s : State) : OnlyIn [.units] s (requestWatch c s) := by
  unfold requestWatch
  exact .ite (requestRun_touches _ _ _) (.refl _ _)

theorem beginPark_touches (s : State) : OnlyIn [.park, .units] s (beginPark s) :=
  (((only_setPark _ s).mono (by decide)).then (requestRun_touches _ _ _) (by decide)).then
    (requestRun_touches _ _ _) (by decide)

/-! ## The lookup, pause and resume -/

theorem identified_touches (h : Hose) (k : Nat) (id : TagId) (m : MachineEntry) (s : State) :
    OnlyIn grantParts s (identified h k id m s) := by
  unfold identified; repeat' split
  all_goals first
    | exact grant_touches _ _
    | exact (only_setHoses _ _).mono (by decide)
    | exact (refuseHose_touches _ _ _).mono (by decide)

theorem lookup_touches (h : Hose) (id : TagId) (s : State) :
    OnlyIn grantParts s (lookup h id s) := by
  unfold lookup testEntry; repeat' split
  all_goals first
    | exact identified_touches _ _ _ _ _
    | exact (refuseHose_touches _ _ _).mono (by decide)

theorem authorise_touches (h : Hose) (k : Nat) (p : Option Int) (m : MachineEntry) (s : State) :
    OnlyIn grantParts s (authorise h k p m s) := by
  unfold authorise; repeat' split
  all_goals first
    | exact grant_touches _ _
    | exact (refuseHose_touches _ _ _).mono (by decide)

theorem pauseFill_touches (h : Hose) (s : State) :
    OnlyIn [.hoses, .txs, .meters, .pumps, .units] s (pauseFill h s) :=
  (((only_setHoses _ s).mono (by decide)).then (stopInterval_touches _ _) (by decide)).then
    (settle_touches _ _) (by decide)

theorem resumeFill_touches (h : Hose) (tx : Transaction) (s : State) :
    OnlyIn [.hoses, .txs, .meters, .pumps, .units] s (resumeFill h tx s) :=
  (((((only_setTxs _ s).mono (by decide)).then (only_setHoses _ _) (by decide)).then
    (startInterval_touches _ _) (by decide)).then (evalStage_touches _ _) (by decide)).then
    (settle_touches _ _) (by decide)

end Sys2Proof.Machine
end

