-- ==== Sys2Proof/Laws/Requests.lean ====
section
/-! SUPPORT. The site link: what a ready part does with a request, in one equation each. -/

namespace Sys2Proof.Machine

/-- A ready part hands a request on in the heard state. -/
theorem takeFrame_ready {s : State} (h : Ready s) (tag : SeqTag) (code : Septet)
    (handle : State → State) : takeFrame tag code handle s = handle (heard s) := by
  obtain ⟨hp, hs, ha | ha⟩ := h <;> simp [takeFrame, hp, hs, ha] <;> rfl

/-- A request that parses and passes its owner's checks is answered. -/
theorem takeRequest_ok {α : Type} {s s' : State} (h : Ready s) {tag : SeqTag} {code : Nat}
    {parse : List Septet → Option α} {body : List Septet} {owner : α → State → Owned} {a : α}
    {fields : List Field} (hp : parse body = some a) (ho : owner a (heard s) = .ok (s', fields)) :
    takeRequest tag code parse body owner s =
      replied (.answer tag (BitVec.ofNat 7 code) fields) s' := by
  simp only [takeRequest, takeFrame_ready h, handleRequest, hp, ho]; rfl

/-- A request that parses and fails a check is refused, and nothing but the link changes. -/
theorem takeRequest_error {α : Type} {s : State} (h : Ready s) {tag : SeqTag} {code : Nat}
    {parse : List Septet → Option α} {body : List Septet} {owner : α → State → Owned} {a : α}
    {r : RefusalCode} (hp : parse body = some a) (ho : owner a (heard s) = .error r) :
    takeRequest tag code parse body owner s =
      replied (.refusal tag r (BitVec.ofNat 7 code)) (heard s) := by
  simp only [takeRequest, takeFrame_ready h, handleRequest, hp, ho]; rfl

/-- A request whose body does not parse is refused with FORMAT and counted. -/
theorem takeRequest_format {α : Type} {s : State} (h : Ready s) {tag : SeqTag} {code : Nat}
    {parse : List Septet → Option α} {body : List Septet} {owner : α → State → Owned}
    (hp : parse body = none) :
    takeRequest tag code parse body owner s =
      replied (.refusal tag .format (BitVec.ofNat 7 code)) (countLink .addUnknownFormat (heard s)) := by
  simp only [takeRequest, takeFrame_ready h, handleRequest, hp]; rfl

/-- R185: a byte at a powered part that ends no frame changes the assembly alone. -/
theorem takeByte_silent {s : State} {b : LineByte} {a : Assembly} (h : s.powered = true)
    (hb : byteCommand s s.link.assembly b = (a, none)) : takeByte b s = .next (setAssembly a s) := by
  simp only [takeByte, h, hb]; rfl

/-- R185 to R187: a byte at a powered part that ends a frame is the command that the frame is. -/
theorem takeByte_command {s : State} {b : LineByte} {a : Assembly} {i : Instr} (h : s.powered = true)
    (hb : byteCommand s s.link.assembly b = (a, some i)) : takeByte b s = exec i s := by
  simp only [takeByte, h, hb]; rfl

/-- Everything that a byte can do: nothing, a change of the assembly, or a command. -/
theorem takeByte_cases (b : LineByte) (s : State) :
    takeByte b s = .next s ∨ (∃ a, takeByte b s = .next (setAssembly a s)) ∨
      ∃ a i, byteCommand s s.link.assembly b = (a, some i) ∧ takeByte b s = exec i s := by
  cases h : s.powered
  · exact .inl (by simp only [takeByte, h]; rfl)
  · match hb : byteCommand s s.link.assembly b with
    | (a, none) => exact .inr (.inl ⟨a, takeByte_silent h hb⟩)
    | (a, some i) => exact .inr (.inr ⟨a, i, rfl, takeByte_command h hb⟩)

/-- Everything that a step can do: the command at the front of the queue, the next byte of the line, or
nothing. -/
theorem step_cases (s : State) :
    (∃ i rest, s.pending = i :: rest ∧ step s = exec i (s.setPending rest)) ∨
      (∃ b rest, s.pending = [] ∧ s.line = b :: rest ∧ step s = takeByte b (s.setLine rest)) ∨
      (s.pending = [] ∧ s.line = [] ∧ step s = .next s) := by
  match hp : s.pending, hl : s.line with
  | i :: rest, _ => exact .inl ⟨i, rest, rfl, by simp only [step, hp]⟩
  | [], b :: rest => exact .inr (.inl ⟨b, rest, rfl, rfl, by simp only [step, hp, hl]⟩)
  | [], [] => exact .inr (.inr ⟨rfl, rfl, by simp only [step, hp, hl]⟩)

/-- R168: everything that CAL WRITE can do, in the order of its checks. -/
theorem ownCalWrite_cases (o : Option (CalItem × CalValue)) (s : State) :
    (∃ r, calWriteBar s = some r ∧ ownCalWrite o s = .error r) ∨
    (calWriteBar s = none ∧ o = none ∧ ownCalWrite o s = .error .range) ∨
    (∃ item v, calWriteBar s = none ∧ o = some (item, v) ∧
      ((valueValid item v = false ∧ ownCalWrite o s = .error .range) ∨
       (valueValid item v = true ∧ itemInUse s item = true ∧ ownCalWrite o s = .error .busy) ∨
       (valueValid item v = true ∧ itemInUse s item = false ∧
         ∃ fields, ownCalWrite o s = .ok (writeItem item v s, fields)))) := by
  match hb : calWriteBar s, o with
  | some r, _ => exact .inl ⟨r, rfl, by simp [ownCalWrite, hb]⟩
  | none, none => exact .inr (.inl ⟨rfl, rfl, by simp [ownCalWrite, hb]⟩)
  | none, some (item, v) =>
    refine .inr (.inr ⟨item, v, rfl, rfl, ?_⟩)
    cases hv : valueValid item v <;> cases hu : itemInUse s item <;> simp [ownCalWrite, hb, hv, hu]

/-- Hearing a frame changes the link alone. -/
theorem heard_touches (s : State) : OnlyIn [.link] s (heard s) := only_setLink _ _

/-- Replying changes the link alone. -/
theorem replied_touches (r : Reply) (s : State) : OnlyIn [.link] s (replied r s) := only_setLink _ _

end Sys2Proof.Machine
end

