-- ==== Sys2Proof/Laws/Watches.lean ====
section
/-! SUPPORT. What the two watches do once evaluated (R117, R150), each said once, and what they leave. -/

namespace Sys2Proof.Machine

/-- R117: an evaluation of the low-stock watch. -/
theorem watchStock_watched (c : Comp) (s : State) : LowStockWatched c s (watchStock c s) := by
  unfold LowStockWatched
  by_cases ha : (s.unit c).armed = true <;> by_cases hb : (s.comp c).book ≤ ((s.comp c).lowStock : Int)
  · have h : watchStock c s = raiseAlarm (.lowStock c) (s.putUnit c { s.unit c with armed := false }) := by
      simp [watchStock, ha, hb]
    rw [h]
    clear h
    cases c <;> simp_all [raiseAlarm, State.setAlarms, State.putUnit, State.setUnits, State.unit, State.comp,
      PerComp.get, PerComp.set] <;> exact decide_eq_false (Int.not_lt.mpr hb)
  · have h : watchStock c s = s := by simp [watchStock, ha, hb]
    simp [h, ha, hb, Int.not_le.mp hb]
  · have h : watchStock c s = s := by simp [watchStock, ha, hb]
    simp_all
  · have h : watchStock c s = s.putUnit c { s.unit c with armed := true } := by simp [watchStock, ha, hb]
    rw [h]
    cases c <;> simp_all [State.putUnit, State.setUnits, State.unit, State.comp, PerComp.get, PerComp.set]

/-- R150: an evaluation of the near-full watch. -/
theorem watchLog_watched (s : State) : LogWatched s (watchLog s) := by
  unfold LogWatched watchLog freeSlots Config.logSlots
  generalize hn : 1024 - s.store.log.records.length - s.store.log.commitments = n
  by_cases ha : s.logWatch.armed = true <;> by_cases hb : n ≤ 32 <;>
    simp [ha, hb, hn, raiseAlarm, Nat.not_lt.mpr, Nat.not_le.mp]

/-- R117: an evaluation of the low-stock watch changes its flag and its alarm, and nothing else. -/
theorem watchStock_onlyIn (c : Comp) (s : State) : OnlyIn [.units, .alarms] s (watchStock c s) := by
  intro p hp
  unfold watchStock
  dsimp only
  split <;> split <;> cases p <;> first | rfl | simp at hp

/-- R150: an evaluation of the near-full watch changes its flag and its alarm, and nothing else. -/
theorem watchLog_onlyIn (s : State) : OnlyIn [.logWatch, .alarms] s (watchLog s) := by
  intro p hp
  unfold watchLog
  split <;> split <;> cases p <;> first | rfl | simp at hp

end Sys2Proof.Machine
end

