-- ==== Sys2Proof/Tests/Slice0.lean ====
section
/-! SUPPORT. Tests of the model, one step each, with results worked out by hand from the rules; the
refusals of ill-formed commands; and for every obligation with hypotheses a state that meets them. -/

namespace Sys2Proof.Tests

open Sys2Proof Sys2Proof.Machine

/-! ## States to test with -/

/-- The part as shipped, powered and at rest. -/
abbrev shipped : State := State.reset

/-- An account without budgets, at 200 cents a litre. -/
def testAccount : Account := ⟨⟨false, [65], ⟨2000, 2000⟩, ⟨none, none⟩⟩, ⟨0, 0⟩, ⟨0, 0⟩, 0⟩

/-- An entry with tag 5 for DIESEL on account 0, permitted offline. -/
def testEntry : MachineEntry :=
  ⟨⟨false, [77], ⟨some 5, none⟩, 0, ⟨none, none⟩, ⟨none, none⟩, true⟩, ⟨0, 0⟩, ⟨0, 0⟩, none⟩

/-- A part with the test entry as entry 0, the test account as account 0, and 1,000 L in C1. -/
def stocked : State :=
  ((shipped.setMachines [(0, testEntry)]).setAccounts [(0, testAccount)]).putComp .c1
    { shipped.comp .c1 with book := 1000000, opening := 1000000 }

/-- `s` with a hose in a state. -/
def inState (h : Hose) (st : HoseState) (s : State) : State := s.putHose h { s.hose h with state := st }

/-- `s` with the link ONLINE. -/
def online (s : State) : State := s.setLink { s.link with online := true }

/-- A transaction of the test entry with a limit of 10 L and a reservation of 10.5 L. -/
def testTx : Transaction :=
  { machine := 0, tag := some 5, account := 0, rate := 2000, limit := 10000, reservation := 10500,
    start := ⟨0, true⟩, offline := false, manual := false,
    volume := ⟨0, 0, 0, 1000000, 1500, false, false⟩, pauses := 0, cause := none, drainCut := false,
    overrunNoted := false }

/-- A fill of `tx` at hose H1 in a state, with the no-flow timer running, paused by `frozen`. -/
def filling (st : HoseState) (tx : Transaction) : State :=
  (stocked.putTx .h1 (some tx)).putHose .h1 { stocked.hose .h1 with
    state := st
    noFlow := if st = .paused then .frozen 7 else .running 45
    grace := if st = .paused then .running 10 else .stopped
    quiet := if st = .draining then .running 2 else .stopped
    cap := if st = .draining then .running 15 else .stopped }

/-- `s` with H1's nozzle lifted. -/
def lifted (s : State) : State := s.setInputs { s.inputs with lifted := s.inputs.lifted.set .h1 true }

/-- A delivery into C1 in a state. -/
def testDelivery (st : DeliveryState) : Delivery :=
  { state := st, comp := .c1, docket := [68], declared := some 5000, preGauge := some ⟨100, 50, false⟩,
    start := some 0, finish := none, unset := true, volume := ⟨0, 0, 0, 1000000, 1500, false, false⟩,
    final := if st = .postGauge then some (0, 0) else none, cause := none, drainCut := false,
    levelFault := false }

/-- The shipped part with the test delivery in a state, and both drain timers running. -/
def delivering (st : DeliveryState) : State :=
  (shipped.setDelivery (some (testDelivery st))).setInlet ⟨false, .running 2, .running 15⟩

/-- A good reading of a gauging run. -/
def testReading : GaugeReading := ⟨⟨0, true⟩, 100, 75000, 75000, false⟩

/-- A park in a state, with a baseline of 80 L in C1 that is watched, and both timers running. -/
def parkedAs (st : ParkState) : State :=
  shipped.setPark { shipped.park with
    state := st, baselines := ⟨some ⟨80000, 100, ⟨0, true⟩⟩, none⟩, awaited := ⟨true, false⟩,
    watched := ⟨true, false⟩, watch := .running 1, confirm := .running 1 }

/-- The shipped part with all 1,024 slots of the log committed. -/
def logFull : State := stocked.setLog { stocked.store.log with commitments := 1024 }

/-- A SENT and an UNSENT record. -/
def testRecords : List Record :=
  [⟨1, true, 1, .adjust ⟨.c1, false, 0, ⟨0, true⟩, 0, 5, none⟩⟩,
   ⟨2, false, 1, .adjust ⟨.c1, false, 0, ⟨0, true⟩, 5, 6, none⟩⟩]

/-- The shipped part with the two records in its log. -/
def logged : State := shipped.setLog ⟨testRecords, 0, 3⟩

/-- The shipped part with the seal OPEN and the calibration window OPEN. -/
def windowed : State :=
  (shipped.setInputs { shipped.inputs with sealOpen := true }).setGuard
    { shipped.guard with window := .running 120 }

/-! ## Commands that the line and the bowser cannot present -/

theorem test_wf_refuses_a_long_body :
    (Instr.siteStatus 0 (List.replicate 100 0)).wf = false ∧
      (Instr.siteStatus 0 (List.replicate 99 0)).wf = true := by decide
theorem test_wf_refuses_a_clear_flag_in_a_last_part :
    (Instr.strappingWrite 0 [1, 0, 5]).wf = false ∧ (Instr.strappingWrite 0 [1, 1, 5]).wf = true := by
  decide
theorem test_wf_refuses_a_long_fragment :
    (Instr.strappingWritePart 0 1 (List.replicate 98 0)).wf = false ∧
      (Instr.strappingWritePart 0 1 (List.replicate 97 0)).wf = true := by decide
theorem test_wf_refuses_a_known_code_as_unknown :
    (Instr.unknown 0 105).wf = false ∧ (Instr.unknown 0 106).wf = true := by decide
theorem test_wf_refuses_a_lead_with_bit_7_clear :
    (Instr.brokenFrame (.newLead 127)).wf = false ∧ (Instr.brokenFrame (.newLead 128)).wf = true := by
  decide
theorem test_wf_refuses_a_level_beyond_the_probe :
    (Instr.levelReading .c1 40001).wf = false ∧ (Instr.levelReading .c1 40000).wf = true := by decide
theorem test_wf_refuses_a_mean_beyond_the_probe :
    (Instr.preGaugeResult .c1 (.ok { testReading with level := 40001 })).wf = false ∧
      (Instr.postGaugeResult .c1 (.ok { testReading with level := 40001 })).wf = false ∧
      (Instr.parkBaselineResult .c1 (.ok { testReading with level := 40001 })).wf = false ∧
      (Instr.parkWatchResult .c1 (.ok { testReading with level := 40001 })).wf = false := by decide
theorem test_wf_refuses_a_fifth_band :
    (Instr.storeDisturbance { shippedSet with
      bands := ⟨List.replicate 5 ⟨0, 500⟩, [], [], []⟩ }).wf = false ∧
    (Instr.storeDisturbance { shippedSet with
      bands := ⟨List.replicate 4 ⟨0, 500⟩, [], [], []⟩, alpha := ⟨2001, 0⟩ }).wf = true := by decide

/-! ## The line -/

/-- The lead 133 is class 0 with sequence tag 5, the body is the one byte 1, and 133 + 1 + 1 with the check
126 × 128 + 121 is 16384. -/
theorem test_frame_brings_site_status :
    bytesCommand shipped [133, 1, 1, 126, 121] = (.hunt, some (.siteStatus 5 [])) := by decide
/-- The same frame with a low check byte of 120. -/
theorem test_frame_with_a_wrong_check :
    bytesCommand shipped [133, 1, 1, 126, 120] = (.hunt, some (.check 5 1)) := by decide
theorem test_frame_at_a_parked_part :
    bytesCommand (parkedAs .parked) [133, 1, 1, 126, 121] = (.hunt, some (.waking 5 1)) := by decide
theorem test_length_byte_of_zero_breaks_the_frame :
    bytesCommand shipped [133, 0] = (.hunt, some (.brokenFrame .badLength)) := by decide
/-- Lead 128 with code 127: 128 + 1 + 127 + 126 × 128 = 16384. -/
theorem test_frame_of_no_known_code :
    bytesCommand shipped [128, 1, 127, 126, 0] = (.hunt, some (.unknown 0 127)) := by decide
/-- The refusal UNKNOWN (2) of code 127: class 2, 160 + 2 + 2 + 127 + 125 × 128 + 93 = 16384. -/
theorem test_refusal_telegram :
    (Reply.refusal 0 .unknown 127).telegram = [160, 2, 2, 127, 125, 93] := by decide
/-- Section 12, the example: the refusal CHECK of code 1 with sequence tag 5. -/
theorem test_worked_check_refusal :
    ((Reply.refusal 5 .check 1).telegram.take 4) = [165, 2, 1, 1] := by decide
theorem test_volume_field_is_twos_complement : Field.bytes (.volume (-1)) = [127, 127, 127, 127, 127] := by
  decide
theorem test_idle_step : step shipped = .next shipped := rfl
/-- The first byte of a frame is kept as its lead, and a byte with bit 7 clear is discarded in HUNT. -/
theorem test_first_byte_is_kept_as_the_lead :
    step (shipped.setLine [133, 1]) = .next ((setAssembly (.length 133) shipped).setLine [1]) ∧
      step (shipped.setLine [1, 133]) = .next (shipped.setLine [133]) := ⟨rfl, rfl⟩
/-- Section 12, the example: the five bytes of SITE STATUS, one step each. -/
theorem test_five_bytes_run_site_status :
    steps 5 (shipped.setLine [133, 1, 1, 126, 121]) = exec (.siteStatus 5 []) shipped := rfl
/-- R184: an EMPTY account is its index, EMPTY (0), and an absent group for each of its ten other fields. -/
theorem test_empty_account_has_ten_absent_fields :
    fieldBytes (accountReadFields 7 shipped) = [7, 0, 0, 0, 0, 0, 0, 0, 0, 0, 0, 0] := by decide
/-- R49, R184: an EMPTY entry is its index, EMPTY (0), 3 + 6 + 4 absent fields and no last fill, no holder, a
clear pending flag and no pending kind or contents. -/
theorem test_empty_entry_has_an_absent_group_for_each_field :
    fieldBytes (machineReadFields 1 shipped) = [0, 1] ++ List.replicate 19 0 := by decide
/-- R145, R184: the selector of a part as shipped, C1, is 0; the valve is CLOSED (1). -/
theorem test_selector_is_numbered_from_0 : (deliveryFields shipped).take 3 = [.code 0, .code 0, .code 1] := by
  decide
/-- Section 10.2, R184: the seal switch is CLOSED (0) or OPEN (1). -/
theorem test_seal_is_numbered_as_listed :
    (calReadFields (.alpha .c2) windowed)[4]? = some (.code 1) ∧
      (calReadFields (.alpha .c2) shipped)[4]? = some (.code 0) := ⟨rfl, rfl⟩
/-- R168: a selector that names no item is refused with LOCKED while the window is CLOSED, then with FULL at the
limit of the audit counter, and otherwise with RANGE. -/
theorem test_unknown_selector_meets_the_checks_in_order :
    exec (.calWrite 0 [9]) shipped = .next (refused 0 .locked 98 shipped) ∧
      ownCalWrite none (windowed.setCal { windowed.store.cal with audits := 65535 }) = .error .full ∧
      exec (.calWrite 0 [9]) windowed = .next (refused 0 .range 98 windowed) := ⟨rfl, rfl, rfl⟩

/-! ## One command each -/

/-- Ten millilitres a pulse at a VCF of 1,000,000 ppm. -/
theorem test_pulse_counts_ten_millilitres :
    (match exec (.meterPulse .m1) (filling .flowing testTx) with
      | .next t => (t.tx .h1).map fun tx => (tx.volume.gross, tx.volume.net)
      | _ => none) = some (10000, 10000) := by decide
/-- Section 1.6: P1 at 3250 and α = 830; section 1.7: P2 at 1835 and α = 400. -/
theorem test_worked_vcfs : vcfOf 830 3250 = 985475 ∧ vcfOf 400 1835 = 998660 := by decide
/-- Section 1.6: four pulses of 10,000 µL at 985,475 ppm. -/
theorem test_worked_four_pulses :
    let v := countVolume 10000 (countVolume 10000 (countVolume 10000 (countVolume 10000
      ⟨0, 0, 0, 985475, 3250, false, false⟩)))
    (v.gross, v.net, v.remainder) = (40000, 39419, 0) := by decide
/-- Section 1.7: the first pulse after the interval end. -/
theorem test_worked_pulse_after_a_vcf_change :
    let v := countVolume 1000 ⟨312000, 311625, 600000, 998660, 1835, false, false⟩
    (v.gross, v.net, v.remainder) = (313000, 312624, 260000) := by decide
/-- Section 1.3, the example: 300, 250 and 249 pulses. -/
theorem test_worked_bands :
    (flowRate 312000, flowRate 250000, flowRate 249000) = (187, 150, 149) ∧
      selectBand 187 1 [⟨0, 1040⟩, ⟨150, 1000⟩] none = some 2 ∧
      selectBand 150 1 [⟨0, 1040⟩, ⟨150, 1000⟩] none = some 2 ∧
      selectBand 149 1 [⟨0, 1040⟩, ⟨150, 1000⟩] none = some 1 := by decide
/-- Section 1.9, the table. -/
theorem test_worked_charges :
    (chargeOf 47316 1845, chargeOf 1 5000, chargeOf 1 4999, chargeOf 279500 1845) =
      (8730, 1, 0, 51568) := by decide
/-- Section 4.9: entry 117 at H1, with a preset of 500,000 mL and without. -/
theorem test_worked_grant :
    let m := { testEntry with
      fields := { testEntry.fields with maxFill := ⟨some 350000, none⟩, allowance := ⟨some 400000, none⟩ }
      used := ⟨120000, 0⟩ }
    let s := stocked.putComp .c1 { stocked.comp .c1 with
      book := 8400000, reserveLevel := 500000, reservations := 2100000 }
    limitOf ⟨.h1, 0, some 5, none, false⟩ m s = 279500 ∧
      limitOf ⟨.h1, 0, some 5, some 500000, false⟩ m s = 279500 := by decide
/-- Chapter 08, the example: the post-gauge of the delivery. -/
theorem test_worked_post_gauge :
    strapGross [⟨10000, 6900000⟩, ⟨20000, 15200000⟩] 19700 = (14951000, false) ∧
      netOf 14951000 (vcfOf 830 3000) = 14764860 := by decide
theorem test_lift_begins_identification :
    (match exec (.nozzleLift .h1) stocked with
      | .next t => (t.hose .h1).state
      | _ => .blocked) = .identifying := by decide
theorem test_confirmed_tag_opens_an_offline_fill :
    (match exec (.confirmed .h1 5) (inState .h1 .identifying stocked) with
      | .next t => (t.hose .h1).state
      | _ => .blocked) = .flowing := by decide
theorem test_confirmed_tag_of_the_other_product :
    (match exec (.confirmed .h3 5) (inState .h3 .identifying stocked) with
      | .next t => (t.hose .h3).state
      | _ => .blocked) = .refused .wrongProduct := by decide
theorem test_stray_pulse_inhibits :
    (match exec (.meterPulse .m3) stocked with
      | .next t => (t.comp .c2).inhibit
      | _ => none) = some ⟨.strayPulse .m3, ⟨0, true⟩⟩ := by decide
theorem test_emergency_raises_row_29 :
    (match exec .emergencyStopActive shipped with
      | .next t => tableFind t.alarms 29
      | _ => none) = some ⟨1, ⟨0, true⟩⟩ := by decide
theorem test_tick_advances_the_clock :
    (match exec .siteClockTick shipped with
      | .next t => t.clock
      | _ => ⟨0, false⟩) = ⟨1, true⟩ := by decide
theorem test_third_valid_frame_confirms :
    (match exec (.valid .h1 5) (shipped.putChannel .h1 { Channel.started with state := .acquiring 5 2 }) with
      | .next t => (t.channel .h1).state
      | _ => .off) = .confirmed 5 none := by decide
theorem test_start_up_closes_an_interrupted_fill :
    (closeOperations (losePower (filling .flowing testTx))).store.log.records.map Record.seq = [1] := by
  decide

/-- R146: a delivery lost in POST_GAUGE, whose own times were taken with the clock set, is recorded at start-up with
its clock-unset flag set. -/
theorem test_delivery_lost_in_post_gauge_is_recorded_unset :
    let d := { testDelivery .postGauge with finish := some 9, unset := false, cause := some .closed }
    (closeOperations (losePower (shipped.setDelivery (some d)))).store.log.records.map
      (fun r => match r.body with
        | .delivery r => some (r.unset, r.finish, r.cause)
        | _ => none) = [some (true, 9, .closed)] := by decide

/-- `s` with results handed over and not yet taken: of a baseline and of a pre-gauge of C1, and of a baseline of C2. -/
def withResults (s : State) : State :=
  s.setHanded [.result .parkBaseline .c1 .failed, .result .preDelivery .c1 .failed,
    .result .parkBaseline .c2 .failed]

/-- R178: with the baseline of C1 awaited, a lift and the emergency stop leave no result of it to be taken, and no
other event is dropped. -/
theorem test_park_cancelled_drops_the_baseline_not_taken :
    [Instr.nozzleLift .h1, .emergencyStopActive].map (fun c =>
      match exec c (withResults (parkedAs .parking)) with
      | .next t => some (t.handed, t.park.state, t.park.awaited)
      | _ => none) =
    List.replicate 2 (some ([.result .preDelivery .c1 .failed, .result .parkBaseline .c2 .failed],
      .active, ⟨false, false⟩)) := by decide

/-- R135: a DELIVERY CLOSE in PRE_GAUGE leaves no result of the pre-gauge to be taken. -/
theorem test_delivery_cancelled_drops_the_pre_gauge_not_taken :
    (match exec (.deliveryClose 1 []) (withResults (delivering .preGauge)) with
      | .next t => some (t.handed, t.store.delivery)
      | _ => none) =
    some ([.result .parkBaseline .c1 .failed, .result .parkBaseline .c2 .failed], none) := by decide

/-! ## States that meet the hypotheses of the obligations -/

theorem witness_ready : Ready shipped ∧ Ready (parkedAs .parking) := by unfold Ready; decide

theorem witness_stepTakesTheFrontCommand :
    (shipped.setPending [.overlap, .byteError]).pending = .overlap :: [.byteError] ∧
      (shipped.setLine [133, 1]).pending = [] ∧ (shipped.setLine [133, 1]).line = 133 :: [1] ∧
      shipped.pending = [] ∧ shipped.line = [] := ⟨rfl, rfl, rfl, rfl, rfl⟩

theorem witness_settingsWriteReplacesTheSettings :
    parseSettingsWrite (fieldBytes [.count 60, .volume 10000, .count2 240, .volume 500000]) =
      some ⟨60, 10000, 240, 500000⟩ ∧
    parseSettingsWrite (fieldBytes [.count 0, .volume 1000000, .count2 10, .volume 5000]) =
      some ⟨0, 1000000, 10, 5000⟩ ∧
    parseSettingsWrite (fieldBytes [.count 61, .volume 9999, .count2 241, .volume 4999]) =
      some ⟨61, 9999, 241, 4999⟩ ∧
    ((60 ∈ [0, 5, 15, 30, 60] ∧ (10000 : Int) ≤ 10000 ∧ 10 ≤ 240 ∧ (500000 : Int) ≤ 500000) ∧
      ¬ (61 ∈ [0, 5, 15, 30, 60])) := by decide

theorem witness_restartFollowsItsAnswer :
    ((∀ h, (shipped.hose h).state.resting = true) ∧ shipped.store.delivery = none) ∧
    Ready (delivering .postGauge) ∧ (delivering .postGauge).store.delivery ≠ none ∧
    (replied (.answer 0 6 []) (shipped.setPower .restarting)).link.sending = some (.answer 0 6 []) ∧
    (replied (.answer 0 6 []) shipped).power = .on ∧
    (shipped.setPower .restarting).power ≠ .on ∧ (losePower shipped).power = .off ∧
    rowKind (.meterPulse .m4) = .running ∧ rowKind (.strappingWritePart 0 1 []) = .request ∧
    rowKind .byteError = .line :=
  ⟨⟨by intro h; cases h <;> rfl, rfl⟩, by unfold Ready; decide, by decide, rfl, rfl, by decide, rfl, rfl,
    rfl, rfl⟩

/-- A part without power in whose store are a fill, a delivery, which no fill of its compartment goes with while
the part has power, and an update. -/
def interrupted (st : DeliveryState) : State :=
  losePower (((filling .flowing testTx).setDelivery (some { testDelivery st with comp := .c2 })).setQueue
    [⟨0, none⟩, ⟨3, some testEntry.fields⟩])

theorem witness_powerLossAndStartUpKeepTheStore :
    (interrupted .preGauge).tx .h1 = some testTx ∧ (interrupted .preGauge).tx .h2 = none ∧
    (interrupted .preGauge).store.delivery = some { testDelivery .preGauge with comp := .c2 } ∧
    (interrupted .receiving).store.delivery.map Delivery.state = some .receiving ∧
    (interrupted .postGauge).store.delivery.map Delivery.final = some (some (0, 0)) ∧
    (interrupted .preGauge).store.queue.map Update.entry = [0, 3] ∧
    (∀ h, stocked.tx h = none) ∧ stocked.store.delivery = none ∧ stocked.store.queue = [] ∧
    stocked.machine 0 = some testEntry :=
  ⟨by decide, by decide, by decide, by decide, by decide, by decide, by intro h; cases h <;> rfl, rfl, rfl, rfl⟩

theorem witness_faultyFramesAreCounted :
    shipped.power ≠ .off ∧ shipped.link.sending = none ∧
      (replied (.refusal 0 .unknown 127) shipped).link.sending ≠ none ∧
      (shipped.setPower .restarting).power = .restarting ∧ isRequest (.calWrite 0 []) = true ∧
      (parkedAs .parked).park.state = .parked := by decide

theorem witness_parkedPartWakesByFrames :
    (parkedAs .parked).power = .on ∧ (parkedAs .parked).link.sending = none ∧
      (parkedAs .parked).park.state = .parked ∧ isRequest (.siteStatus 0 []) = true ∧
      (parkedAs .waking).park.state = .waking ∧ (parkedAs .waking).link.sending = none := by decide

theorem witness_refusedRequestsLeaveTheState :
    isRequest (.restart 0 []) = true ∧ Ready (delivering .preGauge) ∧
      exec (.restart 0 []) (delivering .preGauge) = .next (refused 0 .state 6 (delivering .preGauge)) ∧
      requestForm (.gauge 0 []) = some (61, 0, []) ∧ bodyParses 61 [] = false ∧
      requestForm (.siteStatus 0 [0]) = some (1, 0, [0]) ∧ bodyParses 1 [0] = false ∧
      requestForm (.approve 0 [1, 2]) = some (32, 0, [1, 2]) ∧ bodyParses 32 [1, 2] = false ∧
      requestForm (.strappingWrite 0 [1]) = some (60, 0, [1]) ∧ bodyParses 60 [1] = false ∧
      joinPart 60 1 [1, 1] shipped.link.longRequest = some ⟨60, 2, [1, 1]⟩ ∧
      parseStrapping [1, 1] = none :=
  ⟨rfl, by unfold Ready; decide, rfl, rfl, rfl, rfl, rfl, rfl, rfl, rfl, rfl, rfl, rfl⟩

theorem witness_fieldsAreReadBack :
    127 < 128 ^ 1 ∧ 34359738367 < 128 ^ 5 ∧ (List.replicate 127 (0 : Septet)).length ≤ 127 :=
  ⟨by decide, by decide, by simp⟩

theorem witness_telegramsBringTheirRequest :
    requestForm (.strappingWritePart 3 1 [9]) = some (60, 3, [1, 0, 9]) ∧
      (Instr.strappingWritePart 3 1 [9]).wf = true ∧ requestForm (.park 15 []) = some (105, 15, []) ∧
      (Instr.park 15 []).wf = true ∧ shipped.link.sending = none ∧ shipped.park.state ≠ .parked ∧
      shipped.power ≠ .off ∧ shipped.link.assembly = .hunt ∧ shipped.pending = [] ∧
      (shipped.setLine (telegramOf 0 15 [105] ++ [5])).line = telegramOf 0 15 [105] ++ [5] ∧
      (setAssembly (.length 128) shipped).link.assembly = .length 128 ∧
      (setAssembly (.body 128 1 []) shipped).link.assembly = .body 128 1 [] ∧
      (setAssembly (.checkHigh 128 [1]) shipped).link.assembly = .checkHigh 128 [1] ∧
      (setAssembly (.checkLow 128 [1] 126) shipped).link.assembly = .checkLow 128 [1] 126 := by
  decide

theorem witness_longAnswersAreCutIntoParts :
    partCount [] = 1 ∧ partCount (List.replicate 95 0) = 1 ∧ partCount (List.replicate 96 0) = 2 :=
  ⟨rfl, rfl, rfl⟩

theorem witness_hoseAndCompartmentReadsAnswer :
    (1 : Septet).toNat = hoseNumber .h1 ∧ (3 : Septet).toNat = hoseNumber .h3 ∧
      (0 : Septet).toNat = 0 ∧ 3 < (4 : Septet).toNat ∧
    (1 : Septet).toNat = compNumber .c1 ∧ (2 : Septet).toNat = compNumber .c2 ∧
      2 < (3 : Septet).toNat := by decide

/-- A queue with a pending write of tag 6. -/
def queued : State :=
  stocked.setQueue [⟨3, some { testEntry.fields with tags := ⟨none, some 6⟩ }⟩]

theorem witness_registryReadsAnswer :
    parseTag (fieldBytes [.tag 5]) = some 5 ∧ 5 < 2 ^ 40 ∧
    findTag queued.store.machines (BitVec.ofNat 40 5) = some (0, .diesel) ∧
    findTag queued.store.machines (BitVec.ofNat 40 6) = none ∧
    findPendingTag queued.store.queue (BitVec.ofNat 40 6) = some (3, .fluid) ∧
    findTag shipped.store.machines (BitVec.ofNat 40 6) = none ∧
    findPendingTag shipped.store.queue (BitVec.ofNat 40 6) = none ∧
    parseTag [32, 0, 0, 0, 0, 0] = some (2 ^ 40) ∧
    parseCount2 [3, 127] = some 511 ∧ parseCount2 [4, 0] = some 512 ∧
    parseCount [63] = some 63 ∧ parseCount [64] = some 64 ∧
    stocked.account 0 = some testAccount ∧ stocked.account 63 = none ∧
    parseMachineRead [3, 127] = some (511, none) ∧ parseMachineRead [0, 0, 1] = some (0, some 1) ∧
    answerPart [] 1 = .ok [.count 1, .count 1, .count2 0, .raw []] ∧ answerPart [] 2 = .error .range ∧
    parseStrappingRead [2, 1] = some (compNumber .c2, some 1) := by decide

/-- The contents of a MACHINE WRITE of entry 511 with tag 9. -/
def testWrite : MachineOperands :=
  ⟨511, 1, [66], some 9, none, 0, none, none, none, none, 1⟩

/-- The fill of entry 0 by H1, and entry 511 held by H1 in AWAITING. -/
def awaiting : State := online (inState .h1 (.awaiting 511 9) stocked)

theorem witness_registryWritesApplyOrQueue :
    parseMachineWrite (fieldBytes [.count2 511, .count 1, .text [66], .present, .tag 9, .absent, .count 0,
      .absent, .absent, .absent, .absent, .count 1]) = some testWrite ∧
    testWrite.inRange = true ∧ sameTags testWrite.fields = false ∧
    stocked.account testWrite.account ≠ none ∧ duplicateTag stocked 511 testWrite.fields = false ∧
    queueBusy stocked 511 = false ∧ held stocked 511 = false ∧
    duplicateTag awaiting 511 testWrite.fields = false ∧ awaiting.account 0 ≠ none ∧
    queueBusy awaiting 511 = false ∧ held awaiting 511 = true ∧
    parseCount2 [0, 0] = some 0 ∧ stocked.machine 0 ≠ none ∧ queueBusy stocked 0 = false ∧
    held stocked 0 = false ∧ (filling .flowing testTx).machine 0 ≠ none ∧
    queueBusy (filling .flowing testTx) 0 = false ∧ held (filling .flowing testTx) 0 = true ∧
    ([⟨1, none⟩, ⟨2, none⟩].map Update.entry).Nodup := by decide

/-- The operands of an ACCOUNT WRITE of account 63. -/
def testAccountWrite : AccountOperands := ⟨63, 1, [65], 99999, 0, some 1000000000, none⟩

theorem witness_accountWritesApplyAtOnce :
    parseAccountWrite (fieldBytes [.count 63, .count 1, .text [65], .wide 99999, .wide 0, .present,
      .volume 1000000000, .absent]) = some testAccountWrite ∧ testAccountWrite.inRange = true ∧
    parseCount [63] = some 63 ∧ parseCount [0] = some 0 ∧ stocked.account 63 = none ∧
    stocked.account 0 = some testAccount ∧ accountNamed stocked 0 = true ∧
    (stocked.setMachines []).account 0 = some testAccount ∧
    accountNamed (stocked.setMachines []) 0 = false ∧ testAccount.reserved = ⟨0, 0⟩ := by decide

theorem witness_registryKeepsItsLaws :
    ∃ t, step (stocked.setPending [.overlap]) = .next t ∧ QueueLaw stocked ∧ HoldLaw stocked ∧
      TagLaw stocked := by
  refine ⟨_, rfl, ⟨by decide, fun _ u hu => absurd hu List.not_mem_nil, by decide⟩, ?_, ?_⟩
  · intro g h k _ _ hg
    cases g <;> cases hg
  · rintro j k id (⟨m, hm, -⟩ | ⟨u, hu, -⟩) (⟨n, hn, -⟩ | ⟨v, hv, -⟩)
    · have hj : (j, m) = (0, testEntry) := List.mem_singleton.mp hm
      have hk : (k, n) = (0, testEntry) := List.mem_singleton.mp hn
      rw [(Prod.mk.inj hj).1, (Prod.mk.inj hk).1]
    · exact absurd hv (List.not_mem_nil)
    · exact absurd hu (List.not_mem_nil)
    · exact absurd hu (List.not_mem_nil)

theorem witness_liftStartsIdentification :
    stocked.power = .on ∧ stocked.inputs.lifted.get .h1 = false ∧ (stocked.hose .h1).state = .idle ∧
    siteCondition .h1 stocked = none ∧ stocked.park.state = .active ∧
    siteCondition .h1 (delivering .preGauge) = some .deliveryOpen ∧
    (delivering .preGauge).inputs.lifted.get .h1 = false ∧
    (parkedAs .parking).park.state = .parking ∧ (parkedAs .parked).park.state = .parked ∧
    (inState .h1 .blocked stocked).inputs.lifted.get .h1 = false ∧
    ((inState .h1 .blocked stocked).hose .h1).state ≠ .idle := by decide

theorem witness_liftStartsIdentification_conditions :
    (shipped.setInputs { shipped.inputs with emergency := true }).inputs.emergency = true ∧
    (shipped.setGuard { shipped.guard with fault := true }).guard.fault = true ∧
    (delivering .preGauge).store.delivery.map Delivery.comp = some (compOf .h1) ∧
    shipped.store.delivery.map Delivery.comp ≠ some (compOf .h1) ∧
    ((shipped.putComp .c1 { shipped.comp .c1 with
      inhibit := some ⟨.overrun .h1, ⟨0, true⟩⟩ }).comp .c1).inhibit ≠ none ∧
    (shipped.putPump .c1 (.resting 30)).pump (compOf .h1) = .resting 30 ∧
    (∀ n, shipped.pump (compOf .h1) ≠ .resting n) :=
  ⟨rfl, rfl, by decide, by decide, by decide, rfl, fun n h => by cases h⟩

/-- H1 in IDENTIFYING over `s`, with its timer running. -/
def identifying (s : State) : State :=
  s.putHose .h1 { s.hose .h1 with state := .identifying, identify := .running 120 }

/-- H1 in AWAITING with entry 0 and tag 5 over `s`, ONLINE, with its timer running. -/
def waiting (s : State) : State :=
  online (s.putHose .h1 { s.hose .h1 with state := .awaiting 0 5, approval := .running 60 })

/-- The stocked part with changed fields of entry 0. -/
def withEntry (f : MachineFields) : State := stocked.setMachines [(0, { testEntry with fields := f })]

theorem witness_confirmedTagIsLookedUp :
    (identifying stocked).power = .on ∧ ((identifying stocked).hose .h1).state = .identifying ∧
    findTag (identifying stocked).store.machines 6 = none ∧
    findTag (identifying stocked).store.machines 5 = some (0, .diesel) ∧
    (identifying stocked).machine 0 = some testEntry ∧ Product.diesel ≠ productOf .h3 ∧
    Product.diesel = productOf .h1 ∧ testEntry.fields.suspended = false ∧
    (withEntry { testEntry.fields with suspended := true }).machine 0 =
      some { testEntry with fields := { testEntry.fields with suspended := true } } ∧
    (identifying stocked).account 0 = some testAccount ∧ testAccount.fields.suspended = false ∧
    (stocked.setAccounts [(0, { testAccount with
      fields := { testAccount.fields with suspended := true } })]).account 0 =
        some { testAccount with fields := { testAccount.fields with suspended := true } } ∧
    heldByOther (inState .h2 (.awaiting 0 5) (identifying stocked)) .h1 0 = true ∧
    heldByOther (identifying stocked) .h1 0 = false ∧ (identifying stocked).link.online = false ∧
    (withEntry { testEntry.fields with offline := false }).link.online = false ∧
    (online (identifying stocked)).link.online = true ∧
    (stocked.putConfig .h1 { HoseConfig.shipped with approval := true }).link.online = false ∧
    ((stocked.putConfig .h1 { HoseConfig.shipped with approval := true }).config .h1).approval = true := by
  decide

/-- Book 1,000 L of C1 less the allowance of 500 mL is the least of the bounds. -/
theorem witness_limitIsTheLeastBound :
    limitOf ⟨.h1, 0, some 5, none, false⟩ testEntry stocked = 999500 ∧
    limitOf ⟨.h1, 0, some 5, some 1, false⟩ testEntry stocked = 1 ∧
    limitOf ⟨.h1, 0, some 5, none, true⟩ testEntry stocked = 200000 := by decide

/-- An empty C1 leaves a limit below zero; APPROVE and AUTHORISE reach FLOWING. -/
theorem witness_limitIsTheLeastBound_answers :
    limitOf ⟨.h1, 0, some 5, none, false⟩ testEntry shipped ≤ 0 ∧
    0 < (shipped.config .h1).minimumGrant ∧ Ready (waiting stocked) ∧
    (match exec (.approve 0 [1, 0]) (waiting stocked) with
      | .next t => (t.hose .h1).state
      | _ => .idle) = .flowing ∧
    Ready (online (identifying stocked)) ∧
    (match exec (.authorise 0 [1, 0, 0, 0]) (online (identifying stocked)) with
      | .next t => (t.hose .h1).state
      | _ => .idle) = .flowing := by
  unfold Ready; decide

theorem witness_grantsOpenFills :
    findTag (identifying stocked).store.machines 5 = some (0, productOf .h1) ∧
    (identifying stocked).machine 0 = some testEntry ∧
    entryRefusal .h1 0 testEntry (identifying stocked) = none ∧
    (online (identifying stocked)).link.online = true ∧
    ((online (identifying stocked)).config .h1).approval = false ∧
    grantRefusal ⟨.h1, 0, some 5, none, false⟩ testEntry (online (identifying stocked)) = none ∧
    0 < limitOf ⟨.h1, 0, some 5, none, false⟩ testEntry (online (identifying stocked)) ∧
    (identifying stocked).link.online = false ∧ testEntry.fields.offline = true ∧
    grantRefusal ⟨.h1, 0, some 5, none, true⟩ testEntry (identifying stocked) = none ∧
    0 < limitOf ⟨.h1, 0, some 5, none, true⟩ testEntry (identifying stocked) := by decide

theorem witness_grantsOpenFills_requests :
    Ready (waiting stocked) ∧ parseApprove [1, 0] = some (hoseNumber .h1, none) ∧
    parseApprove (fieldBytes [.count 1, .present, .volume 2000000]) =
      some (hoseNumber .h1, some 2000000) ∧
    ((waiting stocked).hose .h1).state = .awaiting 0 5 ∧
    grantRefusal ⟨.h1, 0, some 5, some 2000000, false⟩ testEntry (waiting stocked) = none ∧
    0 < limitOf ⟨.h1, 0, some 5, some 2000000, false⟩ testEntry (waiting stocked) ∧
    parseAuthorise [1, 0, 0, 0] = some (hoseNumber .h1, 0, none) ∧
    Ready (online (identifying stocked)) ∧ otherProductOnly .h1 testEntry = false ∧
    entryRefusal .h1 0 testEntry (online (identifying stocked)) = none ∧
    grantRefusal ⟨.h1, 0, none, none, false⟩ testEntry (online (identifying stocked)) = none ∧
    0 < limitOf ⟨.h1, 0, none, none, false⟩ testEntry (online (identifying stocked)) := by
  unfold Ready; decide

/-- `waiting` over a part whose book of C1 is `n` mL. -/
def waitingWith (n : Int) (m : MachineEntry) (a : Account) : State :=
  waiting (((stocked.setMachines [(0, m)]).setAccounts [(0, a)]).putComp .c1
    { stocked.comp .c1 with book := n })

theorem witness_grantsAreRefusedByTheirFirstCheck :
    Ready (waiting logFull) ∧ (waiting logFull).machine 0 = some testEntry ∧
    siteCondition .h1 (waiting logFull) = none ∧ canCommit (waiting logFull) = false ∧
    siteCondition .h1 (waiting (stocked.setGuard { stocked.guard with fault := true })) =
      some .metrology ∧
    siteCondition .h1 (waiting stocked) = none ∧ canCommit (waiting stocked) = true ∧
    limitOf ⟨.h1, 0, some 5, none, false⟩ testEntry (waitingWith 1499 testEntry testAccount) < 1000 ∧
    available ((waitingWith 1499 testEntry testAccount).comp .c1) < 1500 ∧
    limitOf ⟨.h1, 0, some 5, none, false⟩ testEntry (waitingWith 1500 testEntry { testAccount with
      fields := { testAccount.fields with budget := ⟨some 1499, none⟩ } }) < 1000 ∧
    1500 ≤ available ((waitingWith 1500 testEntry testAccount).comp .c1) ∧
    accountHeadroom { testAccount with
      fields := { testAccount.fields with budget := ⟨some 1499, none⟩ } } .diesel = some 1499 ∧
    accountHeadroom testAccount .diesel = none ∧
    machineHeadroom { testEntry with
      fields := { testEntry.fields with allowance := ⟨some 1499, none⟩ } } .diesel = some 1499 ∧
    limitOf ⟨.h1, 0, some 5, none, false⟩ { testEntry with
      fields := { testEntry.fields with allowance := ⟨some 1499, none⟩ } } (waiting stocked) < 1000 ∧
    limitOf ⟨.h1, 0, some 5, some 999, false⟩ testEntry (waiting stocked) < 1000 ∧
    (1000 : Int) ≤ limitOf ⟨.h1, 0, some 5, some 1000, false⟩ testEntry (waiting stocked) ∧
    machineHeadroom testEntry .diesel = none := by unfold Ready; decide

/-- A full log refuses an APPROVE, a report and an AUTHORISE, whose own tests come before. -/
theorem witness_grantsAreRefusedByTheirFirstCheck_requests :
    (waiting logFull).machine 0 = some testEntry ∧ parseApprove [1, 0] = some (hoseNumber .h1, none) ∧
    ((waiting logFull).hose .h1).state = .awaiting 0 5 ∧
    grantRefusal ⟨.h1, 0, some 5, none, false⟩ testEntry (waiting logFull) = some .logFull ∧
    (identifying logFull).power = .on ∧ ((identifying logFull).hose .h1).state = .identifying ∧
    findTag (identifying logFull).store.machines 5 = some (0, productOf .h1) ∧
    entryRefusal .h1 0 testEntry (identifying logFull) = none ∧ (identifying logFull).link.online = false ∧
    testEntry.fields.offline = true ∧
    grantRefusal ⟨.h1, 0, some 5, none, true⟩ testEntry (identifying logFull) = some .logFull ∧
    (online (identifying logFull)).link.online = true ∧
    ((online (identifying logFull)).config .h1).approval = false ∧
    grantRefusal ⟨.h1, 0, some 5, none, false⟩ testEntry (online (identifying logFull)) = some .logFull ∧
    parseAuthorise [1, 0, 0, 0] = some (hoseNumber .h1, 0, none) ∧ Ready (online (identifying logFull)) ∧
    grantRefusal ⟨.h1, 0, none, none, false⟩ testEntry (online (identifying logFull)) = some .logFull := by
  unfold Ready; decide

/-- The four tests of AUTHORISE: an entry with a tag for the other product only, a SUSPENDED entry and account, and
an entry that the other DIESEL hose holds. -/
theorem witness_grantsAreRefusedByTheirFirstCheck_tests :
    ({ testEntry.fields with tags := ⟨none, some 6⟩ } : MachineFields).tags.get (productOf .h1) = none ∧
    ({ testEntry.fields with tags := ⟨none, some 6⟩ } : MachineFields).tags.get .fluid ≠ none ∧
    testEntry.fields.tags.get (productOf .h1) ≠ none ∧
    (withEntry { testEntry.fields with suspended := true }).machine 0 =
      some { testEntry with fields := { testEntry.fields with suspended := true } } ∧
    testEntry.fields.suspended = false ∧ stocked.account testEntry.fields.account = some testAccount ∧
    testAccount.fields.suspended = false ∧
    ({ testAccount.fields with suspended := true } : AccountFields).suspended = true ∧
    heldByOther (inState .h2 (.awaiting 0 5) (online (identifying stocked))) .h1 0 = true ∧
    heldByOther (online (identifying stocked)) .h1 0 = false := by decide

theorem witness_waitingHosesAreRefused :
    Ready (waiting stocked) ∧ (1 : Septet).toNat = hoseNumber .h1 ∧
    ((waiting stocked).hose .h1).state = .awaiting 0 5 ∧
    ((identifying stocked).hose .h1).state.isAwaiting = false ∧ Ready (identifying stocked) ∧
    ((identifying stocked).hose .h1).identify = .running 120 ∧
    ((waiting stocked).hose .h1).approval = .running 60 := by unfold Ready; decide

/-- R43: a queue with an update for an entry that a waiting hose holds. -/
theorem witness_registryKeepsItsLaws_held :
    QueueLaw (waiting (stocked.setQueue [⟨0, none⟩])) :=
  ⟨by decide, fun _ u hu => by rw [List.mem_singleton.mp hu]; decide, by decide⟩

/-- A last hold with a delete and with a write that waits, and a hold that is not the last. -/
theorem witness_waitingHosesAreRefused_updates :
    Ready (waiting (stocked.setQueue [⟨0, none⟩])) ∧
    (∀ g, g ≠ Hose.h1 → holding (waiting stocked) g ≠ some 0) ∧
    pendingUpdate (waiting (stocked.setQueue [⟨0, none⟩])) 0 = some ⟨0, none⟩ ∧
    pendingUpdate (waiting (stocked.setQueue [⟨0, some testEntry.fields⟩])) 0 =
      some ⟨0, some testEntry.fields⟩ ∧
    holding (inState .h2 (.awaiting 0 5) (waiting stocked)) .h2 = some 0 ∧
    pendingUpdate (waiting stocked) 0 = none :=
  ⟨by unfold Ready; decide, by intro g hg; cases g <;> first | exact absurd rfl hg | decide, by decide,
    by decide, by decide, by decide⟩

/-- Two hoses wait at once: one whose entry is permitted offline and one whose entry is not. -/
theorem witness_watchdogDropsTheLink_two :
    let s := inState .h3 (.awaiting 1 6) (waiting (stocked.setMachines
      [(0, testEntry), (1, { testEntry with fields := { testEntry.fields with offline := false } })]))
    hosesInOrder .o213 = [.h2, .h1, .h3] ∧ s.power = .on ∧
    (s.hose .h1).state = .awaiting 0 5 ∧ (s.hose .h3).state = .awaiting 1 6 ∧
    (s.machine 0).map (fun m => m.fields.offline) = some true ∧
    (s.machine 1).map (fun m => m.fields.offline) = some false ∧
    (s.hose .h2).state.isAwaiting = false := by decide

theorem witness_watchdogDropsTheLink :
    ((waiting stocked).setLink { (waiting stocked).link with watchdog := .running 1 }).power = .on ∧
    ((waiting stocked).setLink { (waiting stocked).link with watchdog := .running 1 }).link.watchdog =
      .running 1 ∧
    (∀ g, g ≠ Hose.h1 → ((waiting stocked).hose g).state.isAwaiting = false) ∧
    ((waiting stocked).hose .h1).state = .awaiting 0 5 ∧
    testEntry.fields.offline = true ∧
    grantRefusal ⟨.h1, 0, some 5, none, true⟩ testEntry (waiting stocked) = none ∧
    0 < limitOf ⟨.h1, 0, some 5, none, true⟩ testEntry (waiting stocked) ∧
    (waiting (withEntry { testEntry.fields with offline := false })).machine 0 =
      some { testEntry with fields := { testEntry.fields with offline := false } } :=
  ⟨by decide, by decide, by intro g hg; cases g <;> first | exact absurd rfl hg | decide, by decide,
    by decide, by decide, by decide, by decide⟩

/-! ### Hoses -/

theorem witness_stopEventsDrainTheHose :
    ((lifted (filling .flowing testTx)).hose .h1).state = .flowing ∧
    (lifted (filling .flowing testTx)).power = .on ∧
    (lifted (filling .flowing testTx)).inputs.lifted.get .h1 = true ∧
    ((lifted (filling .paused testTx)).hose .h1).state = .paused ∧
    Ready (filling .flowing testTx) ∧ (1 : Septet).toNat = hoseNumber .h1 ∧
    ((filling .flowing testTx).hose .h1).noFlow = .running 45 ∧
    (filling .flowing testTx).tx .h1 = some testTx ∧ testTx.manual = false ∧
    ((filling .flowing testTx).putConfig .h1
      { HoseConfig.shipped with resumeGrace := 0 }).tx .h1 = some testTx ∧
    (((filling .flowing testTx).putConfig .h1
      { HoseConfig.shipped with resumeGrace := 0 }).config .h1).resumeGrace = 0 ∧
    ((filling .paused testTx).hose .h1).grace = .running 10 ∧
    (filling .paused testTx).tx .h1 = some testTx ∧ testTx.tag ≠ some 6 := by unfold Ready; decide

/-- The reports that have no use: on a MANUAL fill, and in a state that gives them none. -/
theorem witness_stopEventsDrainTheHose_noUse :
    (filling .flowing { testTx with manual := true, tag := none }).tx .h1 =
      some { testTx with manual := true, tag := none } ∧
    ((filling .flowing { testTx with manual := true, tag := none }).hose .h1).state = .flowing ∧
    ((filling .draining testTx).hose .h1).state = .draining ∧
    (stocked.hose .h1).state.stoppable = false ∧ ((waiting stocked).hose .h1).state.isAwaiting = true ∧
    ((identifying stocked).hose .h1).state = .identifying ∧ (identifying stocked).power = .on := by decide

theorem witness_hangsOutsideAFill :
    (lifted stocked).power = .on ∧ (lifted stocked).inputs.lifted.get .h1 = true ∧
    ((lifted (identifying stocked)).hose .h1).state = .identifying ∧
    ((lifted (waiting stocked)).hose .h1).state = .awaiting 0 5 ∧
    ((lifted (inState .h1 (.refused .rehang) stocked)).hose .h1).state = .refused .rehang ∧
    ((lifted (inState .h1 .finished stocked)).hose .h1).state = .finished ∧
    ((lifted (filling .draining testTx)).hose .h1).state = .draining ∧
    ((lifted stocked).hose .h1).state = .idle ∧ Ready (filling .draining testTx) ∧
    (stocked.hose .h1).state.stoppable = false ∧ Ready stocked := by unfold Ready; decide

theorem witness_tagLossPausesAndTagReturnResumes :
    (filling .flowing testTx).power = .on ∧ (filling .flowing testTx).tx .h1 = some testTx ∧
    testTx.manual = false ∧ ((filling .flowing testTx).hose .h1).noFlow = .running 45 ∧
    0 < ((filling .flowing testTx).config .h1).resumeGrace ∧
    ((filling .paused testTx).hose .h1).state = .paused ∧
    ((filling .paused testTx).hose .h1).noFlow = .frozen 7 ∧ testTx.tag = some 5 ∧
    testTx.volume.net / 1000 < testTx.limit := by decide

theorem witness_countingAndIntervalsKeepTheVolume :
    0 ≤ testTx.volume.vcf ∧ testTx.volume.gross + 20000 ≤ 999999999999 ∧
    testTx.volume.net + (20000 * testTx.volume.vcf.toNat + testTx.volume.remainder) / 1000000 ≤
      999999999999 ∧
    ((filling .flowing testTx).putMeter .m1 { MeterCtl.started with interval := .running 1 }).power =
      .on ∧
    (((filling .flowing testTx).putMeter .m1
      { MeterCtl.started with interval := .running 1 }).meter .m1).interval = .running 1 ∧
    ((filling .flowing testTx).store.cal.set.bands.get .m1).head?.map Band.lower = some 0 ∧
    (filling .flowing testTx).tx .h1 = some testTx ∧ (filling .flowing testTx).tx .h2 = none ∧
    (delivering .receiving).store.delivery = some (testDelivery .receiving) := by decide

/-- A fill of 9.99 L that one pulse of 10 mL brings to its limit of 10 L. -/
def nearLimit : Transaction := { testTx with volume := { testTx.volume with net := 9990000 } }

/-- A fill of 10.5 L, at its reservation. -/
def atReservation : Transaction := { testTx with volume := { testTx.volume with net := 10500000 } }

theorem witness_pulsesAreCountedIntoTheFill :
    (filling .flowing testTx).power = .on ∧
    ((filling .flowing testTx).store.cal.set.bands.get (meterOf .h1))[
      ((filling .flowing testTx).meter (meterOf .h1)).band - 1]? = some ⟨0, 10000⟩ ∧
    (countVolume 10000 testTx.volume).net / 1000 ≤ testTx.reservation ∧
    (countVolume 10000 testTx.volume).net / 1000 < testTx.limit ∧
    (countVolume 10000 nearLimit.volume).net / 1000 ≤ nearLimit.reservation ∧
    nearLimit.limit ≤ (countVolume 10000 nearLimit.volume).net / 1000 ∧
    (filling .flowing nearLimit).tx .h1 = some nearLimit ∧
    (filling .draining nearLimit).tx .h1 = some nearLimit ∧
    ((filling .draining nearLimit).hose .h1).state = .draining := by decide

theorem witness_overrunStopsAndInhibits :
    (filling .flowing atReservation).tx .h1 = some atReservation ∧
    (filling .draining atReservation).tx .h1 = some atReservation ∧
    atReservation.reservation < (countVolume 10000 atReservation.volume).net / 1000 ∧
    atReservation.overrunNoted = false ∧
    ((filling .flowing atReservation).comp .c1).inhibit = none ∧
    (((filling .flowing atReservation).putComp .c1 { stocked.comp .c1 with
      inhibit := some ⟨.strayPulse .m2, ⟨0, true⟩⟩ }).comp .c1).inhibit ≠ none ∧
    ((inState .h2 .identifying (filling .flowing atReservation)).hose .h2).state = .identifying ∧
    compOf .h2 = compOf .h1 ∧ compOf .h3 ≠ compOf .h1 := by decide

theorem witness_strayPulsesInhibit :
    stocked.power = .on ∧ (stocked.hose .h1).state ≠ .flowing ∧ (stocked.hose .h1).state ≠ .draining ∧
    (stocked.comp .c1).inhibit = none ∧
    ((stocked.putComp .c1 { stocked.comp .c1 with
      inhibit := some ⟨.overrun .h1, ⟨0, true⟩⟩ }).comp .c1).inhibit ≠ none ∧
    compOf .h2 = compOf .h1 ∧ compOf .h3 ≠ compOf .h1 := by decide

theorem witness_drainsCloseTheFill :
    (filling .draining nearLimit).power = .on ∧ (filling .draining nearLimit).tx .h1 = some nearLimit ∧
    ((filling .draining nearLimit).hose .h1).quiet = .running 2 ∧
    ((filling .draining nearLimit).hose .h1).cap = .running 15 ∧
    nearLimit.volume.net / 1000 ≠ 0 ∧ ((filling .draining nearLimit).comp .c1).inhibit = none ∧
    ((filling .draining nearLimit).putComp .c1 { stocked.comp .c1 with
      inhibit := some ⟨.overrun .h1, ⟨0, true⟩⟩ } |>.comp .c1).inhibit ≠ none := by
  decide

/-- An update waits for the entry of a draining hose, which another hose holds or does not. -/
theorem witness_drainsCloseTheFill_updates :
    pendingUpdate ((filling .draining nearLimit).setQueue [⟨0, none⟩]) nearLimit.machine = some ⟨0, none⟩ ∧
    held (inState .h1 .idle (filling .draining nearLimit)) nearLimit.machine = false ∧
    held (inState .h3 (.awaiting 0 5) (inState .h1 .idle (filling .draining nearLimit)))
      nearLimit.machine = true := by decide

/-- The greatest values of HOSE SETTINGS WRITE for hose 1. -/
def testSettings : HoseOperands := ⟨1, 300, 300, 0, 2000, 5000, 2000, 2000, 5000, 120, 30⟩

theorem witness_hoseServiceAndSettings :
    Ready stocked ∧ (1 : Septet).toNat = hoseNumber .h1 ∧ (stocked.hose .h1).state.resting = true ∧
    ((filling .flowing testTx).hose .h1).state.resting = false ∧ Ready (filling .flowing testTx) ∧
    ((inState .h1 .blocked stocked).hose .h1).state = .blocked ∧
    parseHoseSettings (fieldBytes [.count 1, .count2 300, .count2 300, .code 0, .count2 2000,
      .volume 5000, .volume 2000, .volume 2000, .volume 5000, .count 120, .count 30]) =
        some testSettings ∧
    testSettings.hose = hoseNumber .h1 ∧ testSettings.inRange = true ∧
    parseHoseSettings (fieldBytes [.count 1, .count2 301, .count2 300, .code 0, .count2 2000,
      .volume 5000, .volume 2000, .volume 2000, .volume 5000, .count 120, .count 30]) =
        some { testSettings with identifyTime := 301 } ∧
    { testSettings with identifyTime := 301 }.inRange = false := by unfold Ready; decide

/-! ### Laws that every step keeps -/

/-- The laws hold of the shipped part, and it has a step. -/
theorem witness_laws_hold_at_reset :
    BookLaw shipped ∧ ValveLaw shipped ∧ InletLaw shipped ∧ PumpLaw shipped ∧ DeliveryLaw shipped ∧
      SequenceLaw shipped ∧ ContextLaw shipped ∧ CapacityLaw shipped ∧ ReservationLaw shipped ∧
      WindowLaw shipped ∧ TrailLaw shipped ∧ step shipped = .next shipped := by
  refine ⟨?_, ?_, ?_, ?_, ?_, ?_, ?_, ?_, ?_, ?_, ?_, rfl⟩
  · intro c; cases c <;> rfl
  · intro h; cases h <;> exact fun hv => absurd rfl hv
  · intro h; cases h
  · intro _ c; cases c <;> intro h <;> cases h
  · intro _ h hd; cases hd
  · exact ⟨.nil, fun r hr => absurd hr List.not_mem_nil⟩
  · intro _ h; cases h <;> rfl
  · exact ⟨rfl, by decide⟩
  · exact ⟨rfl, rfl⟩
  · intro _ h; cases h
  · rfl

/-- The laws of the transactions hold in a fill, and a pulse is taken there. -/
theorem witness_contextsMatchTheirReservations :
    let s := ((filling .flowing testTx).putComp .c1
      { (filling .flowing testTx).comp .c1 with reservations := 10500 }).setLog
        { stocked.store.log with commitments := 1 }
    ContextLaw s ∧ CapacityLaw s ∧ ReservationLaw s ∧
      ∃ t, step (s.setPending [.meterPulse .m1]) = .next t := by
  refine ⟨?_, ⟨rfl, by decide⟩, ⟨rfl, rfl⟩, _, rfl⟩
  intro _ h; cases h <;> rfl

/-- A fill whose entry, account and compartment hold its R of 10,500 mL reserved. -/
def reservedFill : State :=
  (((filling .flowing testTx).putComp .c1
    { (filling .flowing testTx).comp .c1 with reservations := 10500, book := 10500 }).setMachines
      [(0, { testEntry with reserved := ⟨10500, 0⟩ })]).setAccounts
      [(0, { testAccount with reserved := ⟨10500, 0⟩ })]

/-- The laws of what is reserved and of the stock hold in a fill, with the reservations at the whole book. -/
theorem witness_contextsMatchTheirReservations_stock :
    ContextLaw reservedFill ∧ ReservationLaw reservedFill ∧ NamingLaw reservedFill ∧
      EntryReservationLaw reservedFill ∧ AccountReservationLaw reservedFill ∧
      OverrunLaw reservedFill ∧ StockLaw reservedFill := by
  refine ⟨?_, ⟨rfl, rfl⟩, ⟨?_, ?_⟩, ?_, ?_, ?_, ?_⟩
  · intro _ h; cases h <;> rfl
  · intro k m hm
    match k with
    | 0 => cases hm; rfl
    | n + 1 => cases hm
  · intro u hu; cases hu
  · intro k p
    match k with
    | 0 => cases p <;> rfl
    | n + 1 => cases p <;> rfl
  · intro k p
    match k with
    | 0 => cases p <;> rfl
    | n + 1 => cases p <;> rfl
  · intro h tx htx _
    cases h
    · cases htx; decide
    · cases htx
    · cases htx
  · intro c _; cases c <;> decide

/-! ### Pumps, compartments and deliveries -/

theorem witness_pumpSettingsAndInhibitClear :
    Ready stocked ∧ parsePumpSettings (fieldBytes [.count 1, .count 5, .count2 600]) =
      some (compNumber .c1, 5, 600) ∧
    parsePumpSettings (fieldBytes [.count 2, .count 60, .count2 30]) = some (compNumber .c2, 60, 30) ∧
    parsePumpSettings (fieldBytes [.count 3, .count 61, .count2 29]) = some (3, 61, 29) ∧
    stocked.pump .c1 = .off ∧ (stocked.putPump .c1 (.resting 1)).pump .c1 ≠ .off ∧
    parseCount [1] = some (compNumber .c1) ∧ parseCount [0] = some 0 ∧ parseCount [3] = some 3 ∧
    (stocked.comp .c1).inhibit = none ∧
    ((stocked.putComp .c1 { stocked.comp .c1 with
      inhibit := some ⟨.overrun .h1, ⟨0, true⟩⟩ }).comp .c1).inhibit ≠ none ∧
    ((filling .flowing testTx).hose .h1).state.stoppable = true ∧ compOf .h1 = .c1 ∧
    (∀ h, compOf h = .c1 → (stocked.hose h).state.stoppable = false) :=
  ⟨by unfold Ready; decide, by decide, by decide, by decide, by decide, by decide, by decide, by decide,
    by decide, by decide, by decide, by decide, rfl, by intro h; cases h <;> decide⟩

theorem witness_emergencyStopStopsEverything :
    (filling .flowing testTx).power = .on ∧ (filling .flowing testTx).inputs.emergency = false ∧
    ((filling .flowing testTx).hose .h1).state = .flowing ∧
    ((identifying stocked).hose .h1).state = .identifying ∧
    (delivering .receiving).store.delivery = some (testDelivery .receiving) ∧
    (delivering .postGauge).store.delivery = some (testDelivery .postGauge) ∧
    (shipped.putPump .c1 (.resting 1)).pump .c1 = .resting 1 ∧
    (shipped.setInputs { shipped.inputs with emergency := true }).inputs.emergency = true ∧
    (withResults (parkedAs .parking)).park.state = .parking ∧ (parkedAs .waking).park.state = .waking ∧
    (∀ h, (shipped.hose h).state ≠ .flowing) ∧ (∀ c, (shipped.pump c).isRunning = false) :=
  ⟨rfl, rfl, rfl, rfl, rfl, rfl, rfl, rfl, rfl, rfl, by intro h; cases h <;> decide, by intro c; cases c <;> rfl⟩

theorem witness_runGuardRestsThePump :
    ((filling .flowing testTx).putPump .c1 (.running 1200)).power = .on ∧
    ((filling .flowing testTx).putPump .c1 (.running 1200)).pump .c1 = .running 1200 ∧
    (shipped.putPump .c2 (.resting 0)).pump .c2 = .resting 0 ∧ compOf .h1 = .c1 ∧ compOf .h3 ≠ .c1 := by
  decide

/-- The operands of a TANK SETUP WRITE of C1 with a capacity of 30,000 L. -/
def testTank : TankOperands := ⟨1, 30000000, 0, 30000000, 40000, 60⟩

theorem witness_tankSetupWriteReplacesTheSetup :
    Ready stocked ∧ parseTankSetup (fieldBytes [.count 1, .volume 30000000, .volume 0, .volume 30000000,
      .wide 40000, .count 60]) = some testTank ∧ testTank.comp = compNumber .c1 ∧
    testTank.inRange .c1 = true ∧
    (topVolume (stocked.comp .c1).strapping : Int) ≤ testTank.capacity ∧ compBusy .c1 stocked = false ∧
    compBusy .c1 (filling .flowing testTx) = true ∧ (stocked.comp .c1).book ≤ testTank.lowStock ∧
    ({ testTank with lowStock := 999999 } : TankOperands).lowStock < (stocked.comp .c1).book ∧
    ((stocked.putUnit .c1 CompUnit.started).unit .c1).armed = true ∧
    (stocked.unit .c1).armed = false ∧
    { testTank with window := 61 }.inRange .c1 = false ∧
    (29999999 : Int) < topVolume (stocked.comp .c1).strapping := by
  unfold Ready; decide

/-- A two-point table of C2 as the joined operands of a STRAPPING WRITE. -/
def testTable : List Septet :=
  fieldBytes [.count 2, .count 2, .wide 0, .volume 0, .wide 40000, .volume 3000000]

/-- The shipped part with a long request assembly that expects part `n`. -/
def partsBefore (n : Nat) (got : List Septet) : State :=
  shipped.setLink { shipped.link with longRequest := some ⟨60, n, got⟩ }

theorem witness_strappingTablesAreWrittenInParts :
    Ready (partsBefore 2 []) ∧ (partsBefore 2 []).link.longRequest = some ⟨60, 2, []⟩ ∧
    2 ≤ (2 : Septet).toNat ∧ (4 : Septet).toNat ≤ 4 ∧ 4 < (5 : Septet).toNat ∧
    (partsBefore 5 []).link.longRequest = some ⟨60, 5, []⟩ ∧ shipped.link.longRequest = none ∧
    joinPart 60 1 testTable shipped.link.longRequest = some ⟨60, 2, testTable⟩ ∧
    1 < (2 : Septet).toNat ∧ (partsBefore 3 []).link.longRequest = some ⟨60, 3, []⟩ ∧
    3 ≠ (2 : Septet).toNat ∧
    joinPart 60 4 [0] (partsBefore 4 [2]).link.longRequest = some ⟨60, 5, [2, 0]⟩ ∧
    parseStrapping testTable = some (compNumber .c2, [(0, 0), (40000, 3000000)]) ∧
    pointsInRange (shipped.comp .c2).capacity [(0, 0), (40000, 3000000)] = true ∧
    pointsAscend [(0, 0), (40000, 3000000)] = true ∧ compBusy .c2 shipped = false ∧
    pointsInRange (shipped.comp .c2).capacity [(0, 0), (40000, 3000001)] = false ∧
    pointsAscend [(0, 0), (0, 3000000)] = false ∧
    compBusy .c2 (inState .h3 .draining shipped) = true := by unfold Ready; decide

/-- The shipped part with a run of the host on C1 in SAMPLING, with one sample of two. -/
def sampling : State :=
  shipped.putUnit .c1 { shipped.unit .c1 with run := .sampling [.host, .preDelivery] 2 1 100 }

theorem witness_gaugeRequestsARun :
    Ready shipped ∧ (1 : Septet).toNat = compNumber .c1 ∧ (shipped.unit .c1).run = .idle ∧
    atRest .c1 shipped = true ∧ atRest .c1 (inState .h1 .draining shipped) = false ∧
    ((inState .h1 .draining shipped).unit .c1).run = .idle ∧
    (sampling.unit .c1).run = .sampling [.host, .preDelivery] 2 1 100 ∧ Ready sampling ∧
    ((shipped.putUnit .c1 { shipped.unit .c1 with run := .pending [] }).unit .c1).run =
      .pending [] := by unfold Ready; decide

theorem witness_levelObservationsServeTheRun :
    ([⟨0, 0⟩, ⟨40000, 30000000⟩] : List Point) = [] ++ ⟨0, 0⟩ :: ⟨40000, 30000000⟩ :: [] ∧
    (([⟨0, 0⟩, ⟨40000, 30000000⟩] : List Point).map Point.level).Pairwise (· < ·) ∧
    (([⟨0, 0⟩, ⟨40000, 30000000⟩] : List Point).map Point.volume).Pairwise (· < ·) ∧
    sampling.power = .on ∧ sampling.store.delivery = none ∧
    (sampling.unit .c1).run = .sampling [.host, .preDelivery] 2 1 100 ∧
    ((shipped.putUnit .c1 { shipped.unit .c1 with run := .sampling [.host] 2 0 0 }).unit .c1).run =
      .sampling [.host] 2 0 0 ∧ strapGross [⟨0, 0⟩, ⟨40000, 30000000⟩] 40000 = (30000000, false) ∧
    strapGross [⟨0, 0⟩, ⟨40000, 30000000⟩] 40001 = (30000000, true) ∧ 0 + 1 < 2 ∧ 2 ≤ 1 + 1 := by decide

/-- A VALUE adjustment of C1 to its whole capacity, with the largest reason code. -/
def testAdjust : AdjustOperands := ⟨1, 1, some 30000000, 99⟩

/-- The shipped part with a current gauging of C1. -/
def gauged : State :=
  shipped.putComp .c1 { shipped.comp .c1 with
    gauging := ⟨true, false, some ⟨⟨0, true⟩, 100, 1500, 75000, 75000, 75000, false⟩⟩ }

theorem witness_bookAdjustSetsTheBook :
    Ready shipped ∧ parseBookAdjust (fieldBytes [.count 1, .count 1, .present, .volume 30000000,
      .count 99]) = some testAdjust ∧ testAdjust.comp = compNumber .c1 ∧ testAdjust.reason ≤ 99 ∧
    (30000000 : Int) ≤ (shipped.comp .c1).capacity ∧
    parseBookAdjust (fieldBytes [.count 1, .count 0, .absent, .count 0]) = some ⟨1, 0, none, 0⟩ ∧
    (gauged.comp .c1).gauging.ok = true ∧ (gauged.comp .c1).gauging.stale = false ∧ Ready gauged ∧
    (gauged.comp .c1).gauging.values.map GaugeValues.net = some 75000 ∧
    (gauged.comp .c1).reservations = 0 ∧ gauged.store.delivery.map Delivery.comp ≠ some .c1 ∧
    canCommit shipped = true ∧ canCommit logFull = false ∧ (logFull.comp .c1).reservations = 0 := by
  unfold Ready; decide

theorem witness_deliveriesOpenReceiveAndClose :
    Ready shipped ∧ parseDeliveryOpen (fieldBytes [.count 1, .text [68], .present, .volume 5000]) =
      some (compNumber .c1, [68], some 5000) ∧
    docketWithin (shipped.comp .c1) [68] (some 5000) = true ∧ shipped.store.delivery = none ∧
    shipped.inputs.emergency = false ∧ (∀ h, compOf h = .c1 → (shipped.hose h).state.resting = true) ∧
    canCommit shipped = true ∧ canCommit logFull = false ∧
    Ready (delivering .preGauge) ∧
    (delivering .preGauge).store.delivery = some (testDelivery .preGauge) ∧
    (delivering .receiving).store.delivery = some (testDelivery .receiving) ∧
    (delivering .draining).store.delivery = some (testDelivery .draining) ∧
    (delivering .postGauge).store.delivery = some (testDelivery .postGauge) ∧
    (testDelivery .preGauge).comp = .c1 ∧ ((delivering .preGauge).unit .c1).level = none ∧
    ((setLevel .c1 (some 38000) (delivering .preGauge)).unit .c1).level = some 38000 ∧
    ((delivering .preGauge).comp .c1).cutoff ≤ 38000 ∧
    37999 < ((delivering .preGauge).comp .c1).cutoff ∧
    (delivering .preGauge).inputs.overfill.get .c1 = false ∧
    ((delivering .preGauge).setInputs { Inputs.quiet with overfill := ⟨true, false⟩ }).inputs.overfill.get
      .c1 = true :=
  ⟨by unfold Ready; decide, by decide, by decide, rfl, rfl, by intro h; cases h <;> decide, by decide,
    by decide, by unfold Ready; decide, rfl, rfl, rfl, rfl, rfl, rfl, rfl, by decide, by decide, rfl, rfl⟩

theorem witness_deliveriesDrainCreditAndRecord :
    (delivering .receiving).power = .on ∧ (delivering .receiving).inputs.overfill.get .c1 = false ∧
    (delivering .receiving).store.delivery = some (testDelivery .receiving) ∧
    ((delivering .receiving).comp .c1).cutoff ≤ 38000 ∧
    ((delivering .receiving).store.cal.set.bands.get .m4)[
      ((delivering .receiving).meter .m4).band - 1]? = some ⟨0, 10000⟩ ∧
    (testDelivery .preGauge).state = .preGauge ∧
    (delivering .draining).store.delivery = some (testDelivery .draining) ∧
    (delivering .draining).inlet.quiet = .running 2 ∧ (delivering .draining).inlet.cap = .running 15 ∧
    (delivering .postGauge).store.delivery = some (testDelivery .postGauge) ∧
    (testDelivery .postGauge).final = some (0, 0) ∧ (testDelivery .postGauge).declared = some 5000 ∧
    (testDelivery .postGauge).preGauge = some ⟨100, 50, false⟩ ∧
    (testDelivery .postGauge).start = some 0 ∧
    ({ testDelivery .postGauge with finish := some 9, cause := some .closed } : Delivery).cause =
      some .closed := by decide

/-! ### The log, the clock, metrology and parking -/

theorem witness_logIsReadConfirmedAndRewound :
    Ready logged ∧ parseLogRead [] = some none ∧ parseLogRead [1] = some (some 1) ∧
    (unsent logged.store.log).head?.map Record.seq = some 2 ∧ unsent shipped.store.log = [] ∧
    parseLogRead [2] = some (some 2) ∧ logged.logWatch.kept = none ∧
    ((logged.setLogWatch ⟨true, some []⟩).logWatch.kept) = some [] ∧
    answerPart [] 2 = .error .range ∧
    parseLong (fieldBytes [.long 1]) = some 1 ∧
    parseLong (fieldBytes [.long 4294967295]) = some 4294967295 ∧
    (logged.store.log.records.any fun r => r.sent && decide (r.seq ≤ 1)) = true ∧
    (shipped.store.log.records.all fun r => !r.sent) = true := by unfold Ready; decide

theorem witness_logRead_second_part :
    answerPart (List.replicate 96 0) 2 = .ok [.count 2, .count 2, .count2 0, .raw [0]] := by rfl

/-- A log of which `n` slots are free, and no record. -/
def freeLog (n : Nat) : State := stocked.setLog { stocked.store.log with commitments := 1024 - n }

/-- R150: the slots are free whose taking or release crosses the mark of 32, with the flag set and clear. -/
theorem witness_near_full :
    canCommit (freeLog 33) = true ∧ freeSlots (freeLog 33).store.log = 33 ∧
    freeSlots (freeLog 32).store.log = 32 ∧ (freeLog 33).logWatch.armed = true ∧
    ((freeLog 32).setLogWatch ⟨false, none⟩).logWatch.armed = false := by decide

theorem witness_clockAndShiftAdvance :
    Ready shipped ∧ parseLong (fieldBytes [.time 34359738367]) = some 34359738367 ∧
    (∀ h, (shipped.hose h).state.isHolding = false) ∧ shipped.store.delivery = none ∧
    canCommit shipped = true ∧ canCommit logFull = false ∧
    (∀ h, (logFull.hose h).state.isHolding = false) ∧ Ready (waiting stocked) ∧
    ((waiting stocked).hose .h1).state.isAwaiting = true ∧
    (delivering .postGauge).store.delivery ≠ none :=
  ⟨by unfold Ready; decide, by decide, by intro h; cases h <;> rfl, rfl, by decide, by decide,
    by intro h; cases h <;> rfl, by unfold Ready; decide, rfl, by decide⟩

/-- The windowed part with `n` audits. -/
def audited (n : Nat) : State := windowed.setCal { windowed.store.cal with audits := n }

theorem witness_calibrationNeedsTheWindow :
    Ready windowed ∧ windowed.inputs.sealOpen = true ∧ shipped.inputs.sealOpen = false ∧
    shipped.guard.window = .stopped ∧ windowed.guard.window = .running 120 ∧
    parseCount [8] = some 8 ∧ itemOf 8 = some (.offset .p3) ∧
    parseLong (fieldBytes [.long 65535]) = some 65535 ∧
    ((shipped.setCal { shipped.store.cal with
        trail := [⟨1, ⟨0, true⟩, .alpha .c1, .alpha 830, .alpha 831⟩] }).store.cal.trail.find? fun e =>
      decide (e.number = 1)) = some ⟨1, ⟨0, true⟩, .alpha .c1, .alpha 830, .alpha 831⟩ ∧
    (shipped.store.cal.trail.find? fun e => decide (e.number = 65535)) = none ∧
    parseCalWrite (fieldBytes [.count 4, .count2 2000]) = some (some (.alpha .c1, .alpha 2000)) ∧
    parseCalWrite [9] = some none ∧ itemOf 9 = none ∧ parseCount [9] = some 9 ∧
    parseLong (fieldBytes [.long 0]) = some 0 ∧ parseLong (fieldBytes [.long 65536]) = some 65536 ∧
    valueValid (.alpha .c1) (.alpha 2000) = true ∧ valueValid (.alpha .c1) (.alpha 2001) = false ∧
    (∀ l, l ∈ [[⟨0, 499⟩], [⟨0, 500⟩, ⟨0, 600⟩], [⟨1, 500⟩], []] →
      valueValid (.meter .m1) (.bands l) = false) ∧
    valueValid (.meter .m1) (.bands [⟨0, 500⟩, ⟨3000, 20000⟩]) = true ∧
    valueValid (.offset .p3) (.offset 201) = false ∧ valueValid (.offset .p3) (.offset (-200)) = true ∧
    itemInUse windowed (.alpha .c1) = false ∧
    itemInUse (inState .h1 .flowing windowed) (.alpha .c1) = true ∧
    (audited 65534).store.cal.audits < 65535 ∧ 65535 ≤ (audited 65535).store.cal.audits := by
  unfold Ready; decide

/-- A part with its seal OPEN that has accepted RESTART. -/
def resealed : State :=
  (windowed.setPower .restarting).setLink { windowed.link with sending := some (.answer 0 6 []) }

theorem witness_sealSwitchIsWatched :
    shipped.power = .on ∧ shipped.inputs.sealOpen = false ∧ windowed.power = .on ∧
    windowed.inputs.sealOpen = true ∧ windowed.guard.windowOpen = true ∧
    (windowed.setGuard { windowed.guard with window := .stopped }).guard.windowOpen = false ∧
    resealed.power = .restarting ∧ resealed.link.sending = some (.answer 0 6 []) ∧
    resealed.inputs.sealOpen = true ∧ (shipped.setPower .restarting).inputs.sealOpen = false := by decide

/-- The stored check value of the shipped set agrees, and the value above it does not, whatever the check
function is. -/
theorem witness_integrityCheckFindsDisturbances :
    shipped.power = .on ∧ shipped.guard.check = .running 60 ∧ shipped.guard.fault = false ∧
    Config.checkFunction shipped.store.cal.set = shipped.store.cal.check ∧
    (let s := (filling .flowing testTx).setCal { shipped.store.cal with
        check := Config.checkFunction shippedSet + 1 }
     s.power = .on ∧ s.guard.check = .running 60 ∧ s.guard.fault = false ∧
      Config.checkFunction s.store.cal.set ≠ s.store.cal.check ∧ (s.hose .h1).state = .flowing) := by
  refine ⟨rfl, rfl, rfl, rfl, rfl, rfl, rfl, ?_, rfl⟩
  show Config.checkFunction shippedSet ≠ Config.checkFunction shippedSet + 1
  generalize Config.checkFunction shippedSet = x
  bv_omega

theorem witness_parkingWatchesTheStock :
    Ready (parkedAs .parking) ∧ (parkedAs .parking).park.state = .parking ∧
    Ready shipped ∧ shipped.park.state = .active ∧ parkAllowed shipped = true ∧
    parkAllowed (delivering .preGauge) = false ∧
    (parkedAs .parking).park.awaited.get .c1 = true ∧
    (∀ e, e ≠ Comp.c1 → (parkedAs .parking).park.awaited.get e = false) ∧
    ((parkedAs .parking).setPark { (parkedAs .parking).park with
      awaited := ⟨true, true⟩ }).park.awaited.get .c2 = true ∧
    (parkedAs .parked).park.baselines.get .c1 = some ⟨80000, 100, ⟨0, true⟩⟩ ∧
    (80000 : Int) - 60000 ≤ (parkedAs .parked).store.site.theftThreshold ∧
    ((parkedAs .parked).store.site.theftThreshold : Int) < 80000 - 59999 ∧
    (parkedAs .waking).park.state = .waking ∧ (parkedAs .parked).park.watch = .running 1 ∧
    (parkedAs .waking).park.confirm = .running 1 ∧ (parkedAs .parked).park.watched.get .c1 = true ∧
    (parkedAs .parked).park.watched.get .c2 = false :=
  ⟨by unfold Ready; decide, rfl, by unfold Ready; decide, rfl, by decide, by decide, rfl,
    by intro e he; cases e <;> first | exact absurd rfl he | rfl, rfl, rfl, by decide, by decide, rfl, rfl,
    rfl, rfl, rfl⟩

/-- H1's channel in a state over the shipped part, with its hold timer running. -/
def tagged (st : ChannelState) : State :=
  shipped.putChannel .h1 { Channel.started with state := st, hold := .running 750 }

theorem witness_damagedFramesAreOnlyCounted :
    (tagged .searching).power = .on ∧ ((tagged .searching).channel .h1).state ≠ .off ∧
      (shipped.channel .h1).state = .off := by decide

theorem witness_channelsConfirmAndLoseTags :
    ((tagged .searching).channel .h1).state = .searching ∧
    ((tagged (.acquiring 5 1)).channel .h1).state = .acquiring 5 1 ∧
    ((tagged (.acquiring 5 2)).channel .h1).state = .acquiring 5 2 ∧
    ((tagged (.confirmed 5 none)).channel .h1).state = .confirmed 5 none ∧
    ((tagged (.confirmed 5 (some (6, 1)))).channel .h1).state = .confirmed 5 (some (6, 1)) ∧
    ((tagged (.confirmed 5 (some (6, 2)))).channel .h1).state = .confirmed 5 (some (6, 2)) ∧
    ((tagged .searching).channel .h1).run ≠ 2 ∧
    ((shipped.putChannel .h1 { Channel.started with state := .searching, run := 2 }).channel .h1).run =
      2 ∧ ((tagged (.acquiring 5 1)).channel .h1).hold = .running 750 ∧ shipped.power = .on := by decide

theorem witness_sourcesFollowTheirProbes :
    shipped.power = .on ∧ -4000 ≤ (-4000 : Int) + shipped.store.cal.set.offset.get .p1 ∧
    (7000 : Int) + shipped.store.cal.set.offset.get .p1 ≤ 7000 ∧
    7000 < (7001 : Int) + shipped.store.cal.set.offset.get .p1 ∧
    (-4001 : Int) + shipped.store.cal.set.offset.get .p1 < -4000 ∧
    ((shipped.putSource .p1 ⟨.clamped, some 7000, .stopped⟩).source .p1).state = .clamped ∧
    ((shipped.putSource .p1 ⟨.clamped, some 7000, .stopped⟩).source .p1).held = some 7000 ∧
    (shipped.source .p1).held = none ∧ (shipped.source .p1).state = .valid ∧
    ((shipped.putSource .p1 ⟨.holding, some 0, .running 60⟩).source .p1).hold = .running 60 := by decide

end Sys2Proof.Tests
end

section
/-! PROOF. Read after write for one hose, transaction, compartment, unit, pump or meter of the state, and what a
frame says of one of them. -/

namespace Sys2Proof.Machine

variable {g h : Hose} {c e : Comp} {m n : Meter}

@[simp] theorem State.hose_putHose (v : HoseCtl) (s : State) : (s.putHose h v).hose h = v :=
  PerHose.get_set_self _ _ _

theorem State.hose_putHose_ne (v : HoseCtl) (s : State) (hg : g ≠ h) : (s.putHose h v).hose g = s.hose g :=
  PerHose.get_set_ne _ _ hg

@[simp] theorem State.tx_putTx (v : Option Transaction) (s : State) : (s.putTx h v).tx h = v :=
  PerHose.get_set_self _ _ _

theorem State.tx_putTx_ne (v : Option Transaction) (s : State) (hg : g ≠ h) : (s.putTx h v).tx g = s.tx g :=
  PerHose.get_set_ne _ _ hg

@[simp] theorem State.comp_putComp (v : Compartment) (s : State) : (s.putComp c v).comp c = v :=
  PerComp.get_set_self _ _ _

theorem State.comp_putComp_ne (v : Compartment) (s : State) (he : e ≠ c) : (s.putComp c v).comp e = s.comp e :=
  PerComp.get_set_ne _ _ he

@[simp] theorem State.unit_putUnit (v : CompUnit) (s : State) : (s.putUnit c v).unit c = v :=
  PerComp.get_set_self _ _ _

theorem State.unit_putUnit_ne (v : CompUnit) (s : State) (he : e ≠ c) : (s.putUnit c v).unit e = s.unit e :=
  PerComp.get_set_ne _ _ he

@[simp] theorem State.pump_putPump (v : Pump) (s : State) : (s.putPump c v).pump c = v :=
  PerComp.get_set_self _ _ _

theorem State.pump_putPump_ne (v : Pump) (s : State) (he : e ≠ c) : (s.putPump c v).pump e = s.pump e :=
  PerComp.get_set_ne _ _ he

@[simp] theorem State.meter_putMeter (v : MeterCtl) (s : State) : (s.putMeter m v).meter m = v :=
  PerMeter.get_set_self _ _ _

theorem State.meter_putMeter_ne (v : MeterCtl) (s : State) (hn : n ≠ m) : (s.putMeter m v).meter n = s.meter n :=
  PerMeter.get_set_ne _ _ hn

/-! ## What a frame says of one item -/

variable {ps : List Part} {s t : State}

theorem OnlyIn.hose (o : OnlyIn ps s t) (h : Hose) (hp : .hoses ∉ ps := by decide) : t.hose h = s.hose h :=
  congrArg (PerHose.get · h) (o .hoses hp)

theorem OnlyIn.tx (o : OnlyIn ps s t) (h : Hose) (hp : .txs ∉ ps := by decide) : t.tx h = s.tx h :=
  congrArg (PerHose.get · h) (o .txs hp)

theorem OnlyIn.comp (o : OnlyIn ps s t) (c : Comp) (hp : .comps ∉ ps := by decide) : t.comp c = s.comp c :=
  congrArg (PerComp.get · c) (o .comps hp)

theorem OnlyIn.unit (o : OnlyIn ps s t) (c : Comp) (hp : .units ∉ ps := by decide) : t.unit c = s.unit c :=
  congrArg (PerComp.get · c) (o .units hp)

theorem OnlyIn.pump (o : OnlyIn ps s t) (c : Comp) (hp : .pumps ∉ ps := by decide) : t.pump c = s.pump c :=
  congrArg (PerComp.get · c) (o .pumps hp)

theorem OnlyIn.meter (o : OnlyIn ps s t) (m : Meter) (hp : .meters ∉ ps := by decide) :
    t.meter m = s.meter m :=
  congrArg (PerMeter.get · m) (o .meters hp)

theorem OnlyIn.machine (o : OnlyIn ps s t) (k : Nat) (hp : .machines ∉ ps := by decide) :
    t.machine k = s.machine k :=
  congrArg (tableFind · k) (o .machines hp)

theorem OnlyIn.account (o : OnlyIn ps s t) (k : Nat) (hp : .accounts ∉ ps := by decide) :
    t.account k = s.account k :=
  congrArg (tableFind · k) (o .accounts hp)

/-- The row of an alarm, or of any number, where the alarm table stands. -/
theorem OnlyIn.row (o : OnlyIn ps s t) (k : Nat) (hp : .alarms ∉ ps := by decide) :
    tableFind t.alarms k = tableFind s.alarms k :=
  congrArg (tableFind · k) (o .alarms hp)

end Sys2Proof.Machine
end

section
/-! PROOF. The temperature sources (R9 to R13): what a reading, a fault indication and the expiry of the hold do,
one equation each. -/

namespace Sys2Proof.Machine

/-- A powered part that runs takes inputs, expiries and handed events. -/
theorem live_of_on {s : State} (h : s.power = .on) : s.live = true := by simp [State.live, h]

/-! ## The commands of a source at a running part -/

theorem exec_tempReading {s : State} (hp : s.power = .on) (p : Probe) (reading : Int) :
    exec (.tempReading p reading) s = .next (takeReading p reading s) :=
  congrArg Host.Outcome.next (if_pos (live_of_on hp))

theorem exec_tempFaultIndication {s : State} (hp : s.power = .on) (p : Probe) :
    exec (.tempFaultIndication p) s = .next (takeFault p s) :=
  congrArg Host.Outcome.next (if_pos (live_of_on hp))

theorem exec_sourceHoldTimerExpiry {s : State} (hp : s.power = .on) {p : Probe} {n : Nat}
    (hn : (s.source p).hold = .running n) :
    exec (.sourceHoldTimerExpiry p) s = .next (enterDefault p s) :=
  congrArg Host.Outcome.next (if_pos (by simp [live_of_on hp, hn, Timer.isRunning]))

/-! ## Readings and faults -/

theorem readSource_valid {t : Int} (hl : -4000 ≤ t) (hh : t ≤ 7000) :
    readSource t = ⟨.valid, some t, .stopped⟩ := by
  simp [readSource, Int.not_lt.mpr hl, Int.not_lt.mpr hh]

theorem readSource_clamped {t : Int} (h : t < -4000 ∨ 7000 < t) :
    readSource t = ⟨.clamped, some (if t < -4000 then -4000 else 7000), .stopped⟩ := by
  by_cases hl : t < -4000
  · simp [readSource, hl]
  · simp [readSource, hl, h.resolve_left hl]

/-- R10: a reading in range. -/
theorem takeReading_valid {p : Probe} {r : Int} {s : State}
    (hl : -4000 ≤ r + s.store.cal.set.offset.get p) (hh : r + s.store.cal.set.offset.get p ≤ 7000) :
    takeReading p r s = s.putSource p ⟨.valid, some (r + s.store.cal.set.offset.get p), .stopped⟩ := by
  simp [takeReading, readSource_valid hl hh]

/-- R10: a reading out of range raises TEMP_RANGE where it is the entry into CLAMPED. -/
theorem takeReading_clamped {p : Probe} {r : Int} {s : State}
    (h : r + s.store.cal.set.offset.get p < -4000 ∨ 7000 < r + s.store.cal.set.offset.get p) :
    takeReading p r s =
      let u := s.putSource p
        ⟨.clamped, some (if r + s.store.cal.set.offset.get p < -4000 then -4000 else 7000), .stopped⟩
      if (s.source p).state = .clamped then u else raiseAlarm (.tempRange p) u := by
  by_cases hc : (s.source p).state = .clamped <;> simp [takeReading, readSource_clamped h, hc]

/-- R11: a fault indication with a temperature to hold. -/
theorem takeFault_holds {p : Probe} {s : State} {t : Int} (ht : (s.source p).held = some t)
    (hs : (s.source p).state = .valid ∨ (s.source p).state = .clamped) :
    takeFault p s = s.putSource p { s.source p with state := .holding, hold := .running 60 } := by
  rcases hs with hs | hs <;> simp only [takeFault, hs, ht] <;> rfl

/-- R13: a fault indication with nothing to hold. -/
theorem takeFault_defaults {p : Probe} {s : State} (ht : (s.source p).held = none)
    (hs : (s.source p).state = .valid ∨ (s.source p).state = .clamped) :
    takeFault p s = enterDefault p s := by
  rcases hs with hs | hs <;> simp only [takeFault, hs, ht]

/-- R11: a fault indication at a source that holds already, or is in DEFAULT. -/
theorem takeFault_again {p : Probe} {s : State}
    (hs : (s.source p).state = .holding ∨ (s.source p).state = .defaulted) : takeFault p s = s := by
  rcases hs with hs | hs <;> simp only [takeFault, hs]

/-! ## The temperature that a source gives -/

theorem sourceTemp_defaulted {src : Source} (h : src.state = .defaulted) : sourceTemp src = 1500 := by
  simp [sourceTemp, h]

theorem sourceTemp_unread {src : Source} (h : src.held = none) : sourceTemp src = 1500 := by
  cases hs : src.state <;> simp [sourceTemp, hs, h]

theorem sourceTemp_held {src : Source} {t : Int} (hs : src.state ≠ .defaulted) (h : src.held = some t) :
    sourceTemp src = t := by
  cases hc : src.state <;> simp_all [sourceTemp]

/-- Settles O60: each row of a source is one of the equations above. -/
theorem sourcesFollowTheirProbes : Obligations.SourcesFollowTheirProbes := by
  unfold Obligations.SourcesFollowTheirProbes
  intro p reading s hp
  refine ⟨fun hl hh => ?_, fun h => ⟨fun hc => ?_, fun hc => ?_⟩, fun t ht hs => ?_, fun ht hs => ?_,
    fun hs => ?_, fun n hn => exec_sourceHoldTimerExpiry hp hn, fun src => ⟨sourceTemp_defaulted,
      fun _ => sourceTemp_unread, fun _ => sourceTemp_held⟩⟩
  · rw [exec_tempReading hp, takeReading_valid hl hh]
  · rw [exec_tempReading hp, takeReading_clamped h]
    exact congrArg Host.Outcome.next (if_neg hc)
  · rw [exec_tempReading hp, takeReading_clamped h]
    exact congrArg Host.Outcome.next (if_pos hc)
  · rw [exec_tempFaultIndication hp, takeFault_holds ht hs]
  · rw [exec_tempFaultIndication hp, takeFault_defaults ht hs]; rfl
  · rw [exec_tempFaultIndication hp, takeFault_again hs]

end Sys2Proof.Machine
end

section
/-! PROOF. The volume computer (R3, R4, R7, R15 to R17): the bounds of the VCF, the exact accounting of net, the
choice of the band, and the end of an interval. -/

namespace Sys2Proof.Machine

/-! ## The VCF (R15) -/

/-- R15: rounding to hundredths, halves away from zero, keeps a bound that is a whole number. -/
theorem roundHundredths_bounds {x n : Int} (hl : -(100 * n) ≤ x) (hh : x ≤ 100 * n) :
    -n ≤ roundHundredths x ∧ roundHundredths x ≤ n := by
  unfold roundHundredths
  split <;> omega

/-- R15: the formula of a coefficient in range from the base temperature up. -/
theorem vcfOf_warm {alpha : Nat} {temp : Int} (ha : alpha ≤ 2000) (ht : 1500 ≤ temp) :
    vcfOf alpha temp = 1000000 - ((alpha : Int) * (temp - 1500) + 50) / 100 := by
  have hx : 0 ≤ (alpha : Int) * (temp - 1500) := mul_nonneg (by omega) (by omega)
  simp [vcfOf, ha, roundHundredths, hx]

/-- R15: the formula of a coefficient in range below the base temperature. -/
theorem vcfOf_cold {alpha : Nat} {temp : Int} (ha : alpha ≤ 2000) (ht : temp < 1500) :
    vcfOf alpha temp = 1000000 + ((alpha : Int) * (1500 - temp) + 50) / 100 := by
  have hx : 0 ≤ (alpha : Int) * (1500 - temp) := mul_nonneg (by omega) (by omega)
  have hn : (alpha : Int) * (temp - 1500) = -((alpha : Int) * (1500 - temp)) := by ring
  rw [vcfOf, if_pos ha, hn, roundHundredths]
  split <;> omega

/-- R15: every VCF lies between 890,000 and 1,110,000 ppm. -/
theorem vcfOf_bounds (alpha : Nat) {temp : Int} (hl : -4000 ≤ temp) (hh : temp ≤ 7000) :
    890000 ≤ vcfOf alpha temp ∧ vcfOf alpha temp ≤ 1110000 := by
  unfold vcfOf
  split
  · rename_i ha
    have ha' : (alpha : Int) ≤ 2000 := by exact_mod_cast ha
    have lower : -(100 * 110000) ≤ (alpha : Int) * (temp - 1500) := by nlinarith
    have upper : (alpha : Int) * (temp - 1500) ≤ 100 * 110000 := by nlinarith
    have := roundHundredths_bounds lower upper
    omega
  · omega

/-! ## Counting (R3, R4) -/

/-- R4: with its remainder, net accounts exactly for f × VCF. -/
theorem countVolume_exact {f : Nat} {v : Volume} (hv : 0 ≤ v.vcf)
    (hn : v.net + (f * v.vcf.toNat + v.remainder) / 1000000 ≤ Config.volumeMax) :
    (countVolume f v).remainder < 1000000 ∧
      (countVolume f v).net * 1000000 + (countVolume f v).remainder =
        v.net * 1000000 + v.remainder + f * v.vcf.toNat := by
  obtain ⟨k, hk⟩ := Int.eq_ofNat_of_zero_le hv
  have hx : (f : Int) * v.vcf + (v.remainder : Int) = ((f * k + v.remainder : Nat) : Int) := by
    rw [hk]; push_cast; rfl
  simp only [hk, Int.toNat_natCast] at hn ⊢
  simp only [countVolume, hx, addUpTo]
  omega

/-- R3: gross rises by the factor while it stays within its limit. -/
theorem countVolume_gross {f : Nat} {v : Volume} (h : v.gross + f ≤ Config.volumeMax) :
    (countVolume f v).gross = v.gross + f := min_eq_left h

/-! ## The band of an interval (R7) -/

/-- R7 step 2: the band selected is the one found so far, or it is in the list with a lower bound that the flow rate
reaches; and no band after it has such a lower bound. -/
theorem selectBand_spec {flow i k : Nat} {l : List Band} {best : Option Nat}
    (h : selectBand flow i l best = some k) :
    (best = some k ∧ ∀ (j : Nat) (b : Band), l[j]? = some b → flow < b.lower) ∨
      (∃ n b, k = i + n ∧ l[n]? = some b ∧ b.lower ≤ flow ∧
        ∀ (j : Nat) (b' : Band), n < j → l[j]? = some b' → flow < b'.lower) := by
  induction l generalizing i best with
  | nil => exact .inl ⟨h, fun _ _ hb => by simp at hb⟩
  | cons c l ih =>
    rw [selectBand] at h
    obtain ⟨hb, hl⟩ | ⟨n, b, hk, hn, hb, hl⟩ := ih h
    · by_cases hc : c.lower ≤ flow
      · rw [if_pos hc] at hb
        refine .inr ⟨0, c, (Option.some.inj hb).symm, rfl, hc, fun j b' hj hb' => ?_⟩
        obtain ⟨j, rfl⟩ := Nat.exists_eq_succ_of_ne_zero (Nat.ne_of_gt hj)
        exact hl j b' hb'
      · rw [if_neg hc] at hb
        refine .inl ⟨hb, fun j b' hb' => ?_⟩
        cases j with
        | zero => cases hb'; exact Nat.lt_of_not_le hc
        | succ j => exact hl j b' hb'
    · refine .inr ⟨n + 1, b, by omega, hn, hb, fun j b' hj hb' => ?_⟩
      cases j with
      | zero => omega
      | succ j => exact hl j b' (by omega) hb'

/-- R7 step 2: a selection that has found a band selects one. -/
theorem selectBand_isSome (flow i : Nat) (l : List Band) {best : Option Nat} (h : best.isSome) :
    (selectBand flow i l best).isSome := by
  induction l generalizing i best with
  | nil => exact h
  | cons c l ih =>
    rw [selectBand]
    refine ih _ ?_
    split
    · rfl
    · exact h

/-- R7 step 2: a list whose first lower bound is 0 has a highest band that the flow rate reaches. -/
theorem exists_selectBand {flow : Nat} {l : List Band} (h0 : l.head?.map Band.lower = some 0) :
    ∃ k, selectBand flow 1 l none = some k ∧ 1 ≤ k ∧
      (∃ b, l[k - 1]? = some b ∧ b.lower ≤ flow) ∧
      ∀ (j : Nat) (b : Band), k ≤ j → l[j]? = some b → flow < b.lower := by
  obtain ⟨c, rest, rfl, hc⟩ : ∃ c rest, l = c :: rest ∧ c.lower = 0 := by
    cases l with
    | nil => simp at h0
    | cons c rest => exact ⟨c, rest, rfl, by simpa using h0⟩
  have hs : (selectBand flow 1 (c :: rest) none).isSome := by
    rw [selectBand, hc, if_pos (Nat.zero_le _)]
    exact selectBand_isSome _ _ _ rfl
  obtain ⟨k, hk⟩ := Option.isSome_iff_exists.mp hs
  obtain ⟨hb, -⟩ | ⟨n, b, rfl, hn, hb, hl⟩ := selectBand_spec hk
  · cases hb
  · refine ⟨1 + n, hk, by omega, ⟨b, by simpa using hn, hb⟩, fun j b' hj => hl j b' (by omega)⟩

/-! ## The end of an interval (R7, R16, R17) -/

theorem exec_intervalEnd {s : State} (hp : s.power = .on) {m : Meter} {n : Nat}
    (hn : (s.meter m).interval = .running n) :
    exec (.intervalEnd m) s = .next (recomputeVcf m (endInterval m s)) :=
  congrArg Host.Outcome.next (if_pos (by simp [live_of_on hp, hn, Timer.isRunning]))

/-- R7: the end of an interval whose list has a band to select changes the meter alone. -/
theorem endInterval_selected {m : Meter} {s : State} {k : Nat}
    (h : selectBand (flowRate (s.meter m).acc) 1 (s.store.cal.set.bands.get m) none = some k) :
    endInterval m s = s.putMeter m { s.meter m with
      band := k, acc := 0, flow := flowRate (s.meter m).acc, interval := .running 1 } := by
  simp only [endInterval, h]

/-- R15 to R17: a VCF computation, field by field. -/
theorem applyVcf_recomputed (alpha : Nat) (src : Source) (v : Volume) :
    Recomputed alpha src v (applyVcf alpha src v) := by
  refine ⟨rfl, rfl, ?_, ?_, rfl, rfl, rfl⟩
  · simp [applyVcf, sourceClamped]
  · cases hs : src.state <;> simp [applyVcf, sourceUncompensated, hs]

/-- R16: the recomputation of a hose's transaction, where there is one. -/
theorem recomputeHose_tx_self {h : Hose} {tx : Transaction} {s : State} (ht : s.tx h = some tx) :
    (recomputeHose h s).tx h =
      some { tx with volume := computeVcf (compOf h) (probeOf (compOf h)) s tx.volume } := by
  simp [recomputeHose, ht]

theorem recomputeHose_tx_none {h : Hose} {s : State} (ht : s.tx h = none) :
    (recomputeHose h s).tx h = s.tx h := by
  simp [recomputeHose, ht]

theorem recomputeHose_tx_ne {g h : Hose} (s : State) (hg : g ≠ h) : (recomputeHose h s).tx g = s.tx g := by
  unfold recomputeHose
  split
  · exact State.tx_putTx_ne _ _ hg
  · rfl

/-- R7 step 3: the meter of a hose recomputes that hose's transaction. -/
theorem recomputeVcf_meterOf (h : Hose) (s : State) : recomputeVcf (meterOf h) s = recomputeHose h s := by
  cases h <;> rfl

/-- R7 step 3: a meter leaves the transactions of the hoses that are not its own, and a hose without one. -/
theorem recomputeVcf_tx_kept {h : Hose} {m : Meter} {s : State} (hm : meterOf h ≠ m ∨ s.tx h = none) :
    (recomputeVcf m s).tx h = s.tx h := by
  by_cases he : meterOf h = m
  · rw [← he, recomputeVcf_meterOf]
    exact recomputeHose_tx_none (hm.resolve_left fun hn => hn he)
  cases m with
  | m1 => exact recomputeHose_tx_ne s (by rintro rfl; exact he rfl)
  | m2 => exact recomputeHose_tx_ne s (by rintro rfl; exact he rfl)
  | m3 => exact recomputeHose_tx_ne s (by rintro rfl; exact he rfl)
  | m4 => unfold recomputeVcf; dsimp only; split <;> rfl

/-- R7 step 3, R16, R17: a meter recomputes the transaction of its own hose. -/
theorem recomputeVcf_tx_self {h : Hose} {tx : Transaction} {s : State} (ht : s.tx h = some tx) :
    ∃ v, (recomputeVcf (meterOf h) s).tx h = some { tx with volume := v } ∧
      Recomputed (s.store.cal.set.alpha.get (compOf h)) (s.source (probeOf (compOf h))) tx.volume v :=
  ⟨_, by rw [recomputeVcf_meterOf, recomputeHose_tx_self ht]; rfl, applyVcf_recomputed _ _ _⟩

/-- R7 step 3, R16, R17: M4 recomputes the delivery. -/
theorem recomputeVcf_delivery {d : Delivery} {s : State} (hd : s.store.delivery = some d) :
    ∃ v, (recomputeVcf .m4 s).store.delivery = some { d with volume := v } ∧
      Recomputed (s.store.cal.set.alpha.get d.comp) (s.source .p3) d.volume v :=
  ⟨_, by simp only [recomputeVcf, hd]; rfl, applyVcf_recomputed _ _ _⟩

/-- R7 step 3: a hose meter leaves the delivery. -/
theorem recomputeVcf_delivery_of_ne {m : Meter} (s : State) (hm : m ≠ .m4) :
    (recomputeVcf m s).store.delivery = s.store.delivery := by
  cases m with
  | m1 => exact (recomputeHose_touches .h1 s) .delivery (by decide)
  | m2 => exact (recomputeHose_touches .h2 s) .delivery (by decide)
  | m3 => exact (recomputeHose_touches .h3 s) .delivery (by decide)
  | m4 => exact absurd rfl hm

/-- Settles O32: the VCF and the accounting by arithmetic, INTERVAL END through the band that `exists_selectBand`
finds and the recomputation at the meter. -/
theorem countingAndIntervalsKeepTheVolume : Obligations.CountingAndIntervalsKeepTheVolume := by
  unfold Obligations.CountingAndIntervalsKeepTheVolume
  refine ⟨fun alpha temp hl hh => ?_, fun f v hv hg hn => ?_, fun m n s hp hi h0 => ?_⟩
  · have hb := vcfOf_bounds alpha hl hh
    exact ⟨hb.1, hb.2, fun ha => ⟨vcfOf_warm ha, vcfOf_cold ha⟩⟩
  · have he := countVolume_exact hv hn
    exact ⟨countVolume_gross hg, he.1, he.2, rfl, rfl, rfl, rfl⟩
  · obtain ⟨k, hk, hk1, hb, hl⟩ := exists_selectBand (flow := flowRate (s.meter m).acc) h0
    have hmeters := (recomputeVcf_touches m (endInterval m s)).meter
    refine ⟨_, k, exec_intervalEnd hp hi, ?_, ?_, fun g hg => ?_, hk1, hb, hl, fun h => ⟨?_, ?_⟩, ?_, ?_⟩
    · rw [endInterval_selected hk]
      exact ((only_setMeters _ s).mono (by decide)).then (recomputeVcf_touches _ _) (by decide)
    · rw [hmeters, endInterval_selected hk]
      exact State.meter_putMeter _ _
    · rw [hmeters, endInterval_selected hk]
      exact State.meter_putMeter_ne _ _ hg
    · rintro rfl tx ht
      rw [endInterval_selected hk]
      exact recomputeVcf_tx_self ht
    · rw [endInterval_selected hk]
      exact fun hm => recomputeVcf_tx_kept (s := s.putMeter _ _) hm
    · rintro rfl d hd
      rw [endInterval_selected hk]
      exact recomputeVcf_delivery hd
    · intro hm
      rw [recomputeVcf_delivery_of_ne _ hm, endInterval_selected hk]; rfl

end Sys2Proof.Machine
end

section
/-! PROOF. What stops a fill (R59, R85, R88, R103, R111), each said once: a stop event, a condition that reaches one
hose or several, and the inhibit of a compartment. -/

namespace Sys2Proof.Machine

variable {g h : Hose} {c e : Comp} {cause : StopCause} {r : Reason} {s : State}

/-! ## Pump demand and the evaluations that follow a change (R103, R122) -/

theorem demand_of_inhibited (hi : (s.comp c).inhibit.isSome) : demand c s = false := by
  have hn : (s.comp c).inhibit.isNone = false := by simpa using hi
  simp [demand, hn]

/-- R103: a pump without demand does not run. -/
theorem evalPump_of_no_demand (hd : demand c s = false) : ((evalPump c s).pump c).isRunning = false := by
  unfold evalPump
  cases hp : s.pump c <;> simp [hp, hd, Pump.isRunning]

theorem evalPump_pump_ne (s : State) (he : e ≠ c) : (evalPump c s).pump e = s.pump e := by
  unfold evalPump
  cases s.pump c with
  | off => dsimp only; split; exacts [State.pump_putPump_ne _ _ he, rfl]
  | running _ => dsimp only; split; exacts [rfl, State.pump_putPump_ne _ _ he]
  | resting _ => rfl

theorem evalRest_unit_ne (s : State) (he : e ≠ c) : (evalRest c s).unit e = s.unit e := by
  unfold evalRest
  cases (s.unit c).run with
  | idle => rfl
  | pending _ => dsimp only; split; exacts [State.unit_putUnit_ne _ _ he, rfl]
  | sampling _ _ _ _ => dsimp only; split; exacts [rfl, State.unit_putUnit_ne _ _ he]

theorem settle_pump (c e : Comp) (s : State) : (settle c s).pump e = (evalPump c s).pump e :=
  (evalRest_touches c (evalPump c s)).pump e

theorem settle_unit_ne (s : State) (he : e ≠ c) : (settle c s).unit e = s.unit e :=
  (evalRest_unit_ne _ he).trans ((evalPump_touches c s).unit e)

/-! ## A stop event (R85, R88) -/

/-- A fill that flows or is paused: the hose states that a stop event ends. -/
def HoseState.stops (st : HoseState) : Prop := st = .flowing ∨ st = .paused

/-- R85: the stop cause is set where it is absent. -/
theorem stopWith_eq (cause : StopCause) (tx : Transaction) :
    tx.stopWith cause = { tx with cause := some (tx.cause.getD cause) } := by
  cases hc : tx.cause <;> simp [Transaction.stopWith, hc]

/-- The state that a stop event leaves before demand and rest are evaluated. -/
def stopped (h : Hose) (cause : StopCause) (s : State) : State :=
  enterDraining h (s.putTx h ((s.tx h).map (Transaction.stopWith cause)))

theorem stopFill_flowing (hs : (s.hose h).state = .flowing) :
    stopFill h cause s = settle (compOf h) (stopped h cause s) := by
  simp only [stopFill, hs]; rfl

theorem stopFill_paused (hs : (s.hose h).state = .paused) :
    stopFill h cause s = settle (compOf h) (startInterval (meterOf h) (stopped h cause s)) := by
  simp only [stopFill, hs]; rfl

/-- R6, R85, R88: the state that a stop event leaves before demand and rest are evaluated, from FLOWING and from
PAUSED. -/
theorem exists_stopFill (hs : (s.hose h).state.stops) (cause : StopCause) :
    ∃ u, stopFill h cause s = settle (compOf h) u ∧ OnlyIn [.hoses, .txs, .meters] s u ∧
      u.hoses = (stopped h cause s).hoses ∧ u.store = (stopped h cause s).store ∧
      u.meter (meterOf h) = (if (s.hose h).state = .paused then
        { s.meter (meterOf h) with band := 1, acc := 0, interval := .running 1 } else s.meter (meterOf h)) ∧
      ∀ m, m ≠ meterOf h → u.meter m = s.meter m := by
  have base : OnlyIn [.hoses, .txs, .meters] s (stopped h cause s) :=
    ((only_setTxs _ s).mono (by decide)).then (enterDraining_touches _ _) (by decide)
  obtain hf | hp := hs
  · exact ⟨_, stopFill_flowing hf, base, rfl, rfl, by simp only [hf, reduceCtorEq, if_false]; rfl, fun _ _ => rfl⟩
  · refine ⟨_, stopFill_paused hp, base.then (startInterval_touches _ _) (by decide), rfl, rfl, ?_, fun m hm =>
      State.meter_putMeter_ne _ _ hm⟩
    rw [if_pos hp]
    exact State.meter_putMeter _ _

/-- R85, R88: a stop event ends the flow of a fill. -/
theorem stopFill_stops (hs : (s.hose h).state.stops) (cause : StopCause) :
    FillStopped h cause s (stopFill h cause s) := by
  obtain ⟨u, hu, ho, hh, hst, hm, hms⟩ := exists_stopFill hs cause
  have hset := settle_touches (compOf h) u
  have hoses : (settle (compOf h) u).hoses = (stopped h cause s).hoses := (hset .hoses (by decide)).trans hh
  have txs : (settle (compOf h) u).store.txs = (stopped h cause s).store.txs :=
    (hset .txs (by decide)).trans (congrArg Store.txs hst)
  rw [hu]
  refine ⟨?_, ?_, ?_, fun g hg => ?_, fun g hg => ?_, fun m hne => ?_, fun c hc => ⟨?_, ?_⟩⟩
  · rw [State.hose, hoses]
    exact State.hose_putHose _ _
  · rw [State.tx, txs]
    refine (State.tx_putTx (h := h) _ s).trans ?_
    cases s.tx h <;> simp [stopWith_eq]
  · rw [hset.meter]; exact hm
  · rw [State.hose, hoses]
    exact State.hose_putHose_ne _ _ hg
  · rw [State.tx, txs]
    exact State.tx_putTx_ne _ _ hg
  · rw [hset.meter]; exact hms m hne
  · rw [settle_pump, evalPump_pump_ne _ hc]
    exact ho.pump c
  · rw [settle_unit_ne _ hc]
    exact ho.unit c

/-! ## A condition that reaches a hose (R59, R85) -/

theorem strike_of_stops (hs : (s.hose h).state.stops) : strike cause r h s = stopFill h cause s := by
  rcases hs with hs | hs <;> simp only [strike, hs]

theorem strike_of_waits (hw : (s.hose h).state = .identifying ∨ (s.hose h).state.isAwaiting = true) :
    strike cause r h s = refuseHose h r s := by
  cases hs : (s.hose h).state <;> simp_all [strike, HoseState.isAwaiting]

/-- A condition does not reach a hose that neither waits nor fills, or drains already. -/
theorem strike_of_else (hs : (s.hose h).state = .draining ∨ (s.hose h).state.stoppable = false) :
    strike cause r h s = s := by
  cases hc : (s.hose h).state <;> simp_all [strike, HoseState.stoppable]

/-- R59, R85: everything that a condition can do to a hose. -/
theorem strike_cases (cause : StopCause) (r : Reason) (h : Hose) (s : State) :
    ((s.hose h).state.stops ∧ strike cause r h s = stopFill h cause s) ∨
      strike cause r h s = refuseHose h r s ∨ strike cause r h s = s := by
  cases hs : (s.hose h).state
  case flowing => exact .inl ⟨.inl rfl, strike_of_stops (.inl hs)⟩
  case paused => exact .inl ⟨.inr rfl, strike_of_stops (.inr hs)⟩
  case identifying => exact .inr (.inl (strike_of_waits (.inl hs)))
  case awaiting => exact .inr (.inl (strike_of_waits (.inr (by rw [hs]; rfl))))
  all_goals exact .inr (.inr (by simp only [strike, hs]))

/-- R59, R70: a refused hose, and every other hose. -/
theorem refuseHose_refuses (h : Hose) (r : Reason) (s : State) : HoseRefused h r s (refuseHose h r s) := by
  have hh : (refuseHose h r s).hoses = (moveHose h (.refused r) s).hoses :=
    (endAwaitHold_touches _ _) .hoses (by decide)
  constructor
  · rw [State.hose, hh]
    exact State.hose_putHose _ _
  · intro g hg
    rw [State.hose, hh]
    exact State.hose_putHose_ne _ _ hg

theorem strike_hose_ne (s : State) (hg : g ≠ h) : (strike cause r h s).hose g = s.hose g := by
  obtain ⟨hs, he⟩ | he | he := strike_cases cause r h s
  · obtain ⟨-, -, -, hh, -⟩ := stopFill_stops hs cause
    rw [he]; exact hh g hg
  · rw [he]; exact (refuseHose_refuses h r s).2 g hg
  · rw [he]

theorem refuseHose_tx (g h : Hose) (r : Reason) (s : State) : (refuseHose h r s).tx g = s.tx g :=
  (refuseHose_touches h r s).tx g

theorem strike_tx_ne (s : State) (hg : g ≠ h) : (strike cause r h s).tx g = s.tx g := by
  obtain ⟨hs, he⟩ | he | he := strike_cases cause r h s
  · obtain ⟨-, -, -, -, ht, -⟩ := stopFill_stops hs cause
    rw [he]; exact ht g hg
  · rw [he]; exact refuseHose_tx g h r s
  · rw [he]

/-- R59, R85: no condition changes a volume. -/
theorem strike_volume (g : Hose) (s : State) :
    ((strike cause r h s).tx g).map Transaction.volume = (s.tx g).map Transaction.volume := by
  by_cases hg : g = h
  · subst hg
    obtain ⟨hs, he⟩ | he | he := strike_cases cause r g s
    · obtain ⟨-, ht, -⟩ := stopFill_stops hs cause
      rw [he, ht]; simp [Function.comp_def]
    · rw [he, refuseHose_tx]
    · rw [he]
  · rw [strike_tx_ne s hg]

/-- R85, R109: no condition changes a stray counter. -/
theorem strike_strays (m : Meter) (s : State) :
    ((strike cause r h s).meter m).strays = (s.meter m).strays := by
  obtain ⟨hs, he⟩ | he | he := strike_cases cause r h s
  · obtain ⟨-, -, hm, -, -, hms, -⟩ := stopFill_stops hs cause
    rw [he]
    by_cases hne : m = meterOf h
    · subst hne; rw [hm]; split <;> rfl
    · rw [hms m hne]
  · rw [he, (refuseHose_touches h r s).meter]
  · rw [he]

/-- R103, R111: no condition starts the pump of an inhibited compartment. -/
theorem strike_pump_inhibited (hi : (s.comp c).inhibit.isSome) (hp : (s.pump c).isRunning = false) :
    ((strike cause r h s).pump c).isRunning = false := by
  obtain ⟨hs, he⟩ | he | he := strike_cases cause r h s
  · rw [he]
    by_cases hc : c = compOf h
    · subst hc
      obtain ⟨u, hu, ho, -⟩ := exists_stopFill hs cause
      have hcomp : u.comp (compOf h) = s.comp (compOf h) :=
        ho.comp (compOf h)
      rw [hu, settle_pump]
      exact evalPump_of_no_demand (demand_of_inhibited (by rw [hcomp]; exact hi))
    · obtain ⟨-, -, -, -, -, -, hpu⟩ := stopFill_stops hs cause
      rw [(hpu c hc).1]; exact hp
  · rw [he, (refuseHose_touches h r s).pump]; exact hp
  · rw [he]; exact hp

/-! ## A condition that reaches several hoses -/

/-- What each condition that reaches a hose keeps, one that reaches several keeps. -/
theorem strikeAll_keeps {P : State → Prop} (keep : ∀ h s, P s → P (strike cause r h s)) (hs : List Hose)
    (h0 : P s) : P (strikeAll cause r hs s) := by
  induction hs generalizing s with
  | nil => exact h0
  | cons h hs ih => exact ih (keep h s h0)

theorem strikeAll_hose_of_notMem {hs : List Hose} (s : State) (hg : g ∉ hs) :
    (strikeAll cause r hs s).hose g = s.hose g ∧ (strikeAll cause r hs s).tx g = s.tx g := by
  induction hs generalizing s with
  | nil => exact ⟨rfl, rfl⟩
  | cons h hs ih =>
    obtain ⟨hne, hg⟩ := not_or.mp (mt List.mem_cons.mpr hg)
    obtain ⟨hh, ht⟩ := ih (strike cause r h s) hg
    exact ⟨hh.trans (strike_hose_ne s hne), ht.trans (strike_tx_ne s hne)⟩

/-- Each hose that a condition reaches is struck once, as it stood. -/
theorem strikeAll_at {hs : List Hose} (hn : hs.Nodup) (hg : g ∈ hs) (s : State) :
    ∃ u, u.hose g = s.hose g ∧ u.tx g = s.tx g ∧
      (strikeAll cause r hs s).hose g = (strike cause r g u).hose g ∧
      (strikeAll cause r hs s).tx g = (strike cause r g u).tx g := by
  induction hs generalizing s with
  | nil => cases hg
  | cons h hs ih =>
    obtain ⟨hnot, hn⟩ := List.nodup_cons.mp hn
    by_cases he : g = h
    · subst he
      exact ⟨s, rfl, rfl, strikeAll_hose_of_notMem _ hnot⟩
    · obtain ⟨u, hh, ht, hu⟩ := ih hn ((List.mem_cons.mp hg).resolve_left he) (strike cause r h s)
      exact ⟨u, hh.trans (strike_hose_ne s he), ht.trans (strike_tx_ne s he), hu⟩

/-! ## The inhibit of a compartment (R111) -/

theorem mem_hosesOf : g ∈ hosesOf c ↔ compOf g = c := by
  cases g <;> cases c <;> decide

theorem hosesOf_nodup (c : Comp) : (hosesOf c).Nodup := by
  cases c <;> decide

/-- The compartment with its inhibit recorded and its pump without demand, before its hoses are reached. -/
def markInhibited (c : Comp) (k : InhibitCause) (s : State) : State :=
  evalPump c (s.putComp c { s.comp c with inhibit := some ⟨k, s.clock⟩ })

theorem inhibit_normal (hn : (s.comp c).inhibit = none) (k : InhibitCause) :
    inhibit c k s = evalRest c (strikeAll .inhibit .inhibited (hosesOf c) (markInhibited c k s)) := by
  simp only [inhibit, hn]; rfl

theorem inhibit_again (hi : (s.comp c).inhibit ≠ none) (k : InhibitCause) : inhibit c k s = s := by
  simp [inhibit, Option.isSome_iff_ne_none.mpr hi]

theorem markInhibited_touches (c : Comp) (k : InhibitCause) (s : State) :
    OnlyIn [.comps, .pumps] s (markInhibited c k s) :=
  ((only_setComps _ s).mono (by decide)).then (evalPump_touches _ _) (by decide)

theorem markInhibited_comps (c : Comp) (k : InhibitCause) (s : State) :
    (markInhibited c k s).store.comps =
      s.store.comps.set c { s.comp c with inhibit := some ⟨k, s.clock⟩ } :=
  (evalPump_touches _ _) .comps (by decide)

/-- R111: the inhibit is recorded in its own compartment. -/
theorem inhibit_comps (hn : (s.comp c).inhibit = none) (k : InhibitCause) :
    (inhibit c k s).store.comps = s.store.comps.set c { s.comp c with inhibit := some ⟨k, s.clock⟩ } := by
  rw [inhibit_normal hn, (evalRest_touches _ _) .comps (by decide),
    (strikeAll_touches _ _ _ _) .comps (by decide), markInhibited_comps]

theorem inhibit_otherComp (c : Comp) (k : InhibitCause) (s : State) : OtherComp c s (inhibit c k s) := by
  intro e he
  by_cases hn : (s.comp c).inhibit = none
  · rw [State.comp, inhibit_comps hn]
    exact PerComp.get_set_ne _ _ he
  · rw [inhibit_again hn]

/-- R103, R111: the pump of a compartment that becomes INHIBITED stops. -/
theorem inhibit_pump (hn : (s.comp c).inhibit = none) (k : InhibitCause) :
    ((inhibit c k s).pump c).isRunning = false := by
  have hm : ((markInhibited c k s).comp c).inhibit.isSome := by
    rw [State.comp, markInhibited_comps, PerComp.get_set_self]; rfl
  have hp : ((markInhibited c k s).pump c).isRunning = false :=
    evalPump_of_no_demand (demand_of_inhibited (by rw [State.comp_putComp]; rfl))
  rw [inhibit_normal hn, (evalRest_touches _ _).pump]
  refine (strikeAll_keeps (P := fun t => (t.comp c).inhibit.isSome ∧ (t.pump c).isRunning = false)
    (fun h t ht => ⟨?_, strike_pump_inhibited ht.1 ht.2⟩) _ ⟨hm, hp⟩).2
  rw [(strike_touches _ _ h t).comp]
  exact ht.1

/-- R111: each hose of a compartment that becomes INHIBITED is struck once, as it stood. -/
theorem inhibit_at (hn : (s.comp c).inhibit = none) (k : InhibitCause) (hg : compOf g = c) :
    ∃ u, u.hose g = s.hose g ∧ u.tx g = s.tx g ∧
      (inhibit c k s).hose g = (strike .inhibit .inhibited g u).hose g ∧
      (inhibit c k s).tx g = (strike .inhibit .inhibited g u).tx g := by
  have hm := markInhibited_touches c k s
  obtain ⟨u, hh, ht, hsh, hst⟩ := strikeAll_at (cause := .inhibit) (r := .inhibited) (hosesOf_nodup c)
    (mem_hosesOf.mpr hg) (markInhibited c k s)
  have hr := evalRest_touches c (strikeAll .inhibit .inhibited (hosesOf c) (markInhibited c k s))
  rw [inhibit_normal hn]
  exact ⟨u, hh.trans (hm.hose g),
    ht.trans (hm.tx g),
    (hr.hose g).trans hsh,
    (hr.tx g).trans hst⟩

/-- R85, R111: a fill of a compartment that becomes INHIBITED stops with INHIBIT. -/
theorem inhibit_stops (hn : (s.comp c).inhibit = none) (k : InhibitCause) (hg : compOf g = c)
    (hs : (s.hose g).state.stops) :
    ((inhibit c k s).hose g).state = .draining ∧
      (inhibit c k s).tx g = (s.tx g).map fun x => { x with cause := some (x.cause.getD .inhibit) } := by
  obtain ⟨u, hh, ht, hih, hit⟩ := inhibit_at hn k hg
  have hu : (u.hose g).state.stops := by rw [hh]; exact hs
  obtain ⟨hd, hx, -⟩ := stopFill_stops hu .inhibit
  rw [hih, hit, strike_of_stops hu, hd, hx, ht]
  exact ⟨rfl, rfl⟩

/-- R59, R111: a waiting hose of a compartment that becomes INHIBITED is refused. -/
theorem inhibit_refuses (hn : (s.comp c).inhibit = none) (k : InhibitCause) (hg : compOf g = c)
    (hw : (s.hose g).state = .identifying ∨ (s.hose g).state.isAwaiting = true) :
    ((inhibit c k s).hose g).state = .refused .inhibited ∧ (inhibit c k s).tx g = s.tx g := by
  obtain ⟨u, hh, ht, hih, hit⟩ := inhibit_at hn k hg
  have hu : (u.hose g).state = .identifying ∨ (u.hose g).state.isAwaiting = true := by rw [hh]; exact hw
  rw [hih, hit, strike_of_waits hu, (refuseHose_refuses g .inhibited u).1, refuseHose_tx, ht]
  exact ⟨rfl, rfl⟩

/-- R111: an inhibit leaves the hoses of the other compartment. -/
theorem inhibit_hose_ne (k : InhibitCause) (s : State) (hg : compOf g ≠ c) :
    (inhibit c k s).hose g = s.hose g ∧ (inhibit c k s).tx g = s.tx g := by
  by_cases hn : (s.comp c).inhibit = none
  · have hm := markInhibited_touches c k s
    have hr := evalRest_touches c (strikeAll .inhibit .inhibited (hosesOf c) (markInhibited c k s))
    obtain ⟨hh, ht⟩ := strikeAll_hose_of_notMem (cause := .inhibit) (r := .inhibited) (markInhibited c k s)
      (mt mem_hosesOf.mp hg)
    rw [inhibit_normal hn]
    exact ⟨(hr.hose g).trans
        (hh.trans (hm.hose g)),
      (hr.tx g).trans
        (ht.trans (hm.tx g))⟩
  · rw [inhibit_again hn]; exact ⟨rfl, rfl⟩

/-- R111: an inhibit changes no volume and no stray counter. -/
theorem inhibit_volume_strays (c : Comp) (k : InhibitCause) (s : State) :
    (∀ g, ((inhibit c k s).tx g).map Transaction.volume = (s.tx g).map Transaction.volume) ∧
      ∀ m, ((inhibit c k s).meter m).strays = (s.meter m).strays := by
  by_cases hn : (s.comp c).inhibit = none
  · have hm := markInhibited_touches c k s
    have hr := evalRest_touches c (strikeAll .inhibit .inhibited (hosesOf c) (markInhibited c k s))
    rw [inhibit_normal hn]
    constructor
    · intro g
      rw [hr.tx]
      refine strikeAll_keeps (P := fun t => (t.tx g).map Transaction.volume = (s.tx g).map Transaction.volume)
        (fun h t ht => (strike_volume g t).trans ht) _ ?_
      rw [hm.tx]
    · intro m
      rw [hr.meter]
      refine strikeAll_keeps (P := fun t => (t.meter m).strays = (s.meter m).strays)
        (fun h t ht => (strike_strays m t).trans ht) _ ?_
      rw [hm.meter]
  · rw [inhibit_again hn]; exact ⟨fun _ => rfl, fun _ => rfl⟩

end Sys2Proof.Machine
end

section
/-! PROOF. Pulses on the hose meters (R1, R3, R79, R82, R85, R89, R109): what a counted pulse and a stray one do. -/

namespace Sys2Proof.Machine

variable {h : Hose} {tx : Transaction} {b : Band} {s : State}

theorem exec_meterPulse (hp : s.power = .on) (h : Hose) :
    exec (.meterPulse (meterOf h)) s = .next (hosePulse h s) := by
  cases h <;> exact congrArg Host.Outcome.next (if_pos (live_of_on hp))

/-! ## Counting (R3, R4) -/

/-- The state after a pulse of band `b` is counted into a hose's transaction and its meter's interval. -/
def counted (h : Hose) (tx : Transaction) (b : Band) (s : State) : State :=
  (s.putMeter (meterOf h) { s.meter (meterOf h) with
    acc := min ((s.meter (meterOf h)).acc + b.factor) 999999999 }).putTx h
      (some { tx with volume := countVolume b.factor tx.volume })

/-- R3, R4: a pulse on a meter whose current band is in its list. -/
theorem countHosePulse_eq (ht : s.tx h = some tx)
    (hb : (s.store.cal.set.bands.get (meterOf h))[(s.meter (meterOf h)).band - 1]? = some b) :
    countHosePulse h s = counted h tx b s := by
  have hf : pulseFactor (meterOf h) s = b.factor := by simp only [pulseFactor, hb]
  have hd : drawFactor (meterOf h) s = s := by simp only [drawFactor, hb]
  have hx : (addToInterval (meterOf h) b.factor s).tx h = some tx := ht
  simp only [countHosePulse, hf, hd, hx, Option.map_some]
  rfl

theorem counted_touches (h : Hose) (tx : Transaction) (b : Band) (s : State) :
    OnlyIn [.txs, .meters] s (counted h tx b s) :=
  ((only_setMeters _ s).mono (by decide)).then (only_setTxs _ _) (by decide)

theorem counted_tx (h : Hose) (tx : Transaction) (b : Band) (s : State) :
    (counted h tx b s).tx h = some { tx with volume := countVolume b.factor tx.volume } :=
  State.tx_putTx _ _

/-- R91: a fill within its reservation is not overrun by the pulse. -/
theorem not_newlyOverrun (hr : tx.volume.net / 1000 ≤ tx.reservation) : newlyOverrun tx = false := by
  simp [newlyOverrun, Volume.netMl, Nat.not_lt.mpr hr]

/-- The state after a counted pulse in FLOWING, before the stage is evaluated: the no-flow timer is restarted. -/
def timed (h : Hose) (s : State) : State :=
  s.putHose h { s.hose h with noFlow := .running (s.config h).noFlowTime }

/-- R79, R82: a counted pulse in FLOWING within the reservation. -/
theorem hosePulse_flowing (hf : (s.hose h).state = .flowing) (ht : s.tx h = some tx)
    (hb : (s.store.cal.set.bands.get (meterOf h))[(s.meter (meterOf h)).band - 1]? = some b)
    (hr : (countVolume b.factor tx.volume).net / 1000 ≤ tx.reservation) :
    hosePulse h s = evalStage h (timed h (counted h tx b s)) := by
  have hx : (timed h (counted h tx b s)).tx h =
      some { tx with volume := countVolume b.factor tx.volume } := counted_tx h tx b s
  have ho : newlyOverrun { tx with volume := countVolume b.factor tx.volume } = false := not_newlyOverrun hr
  simp only [hosePulse, hf, pulseFlowing, countHosePulse_eq ht hb]
  change (if (((timed h (counted h tx b s)).tx h).map newlyOverrun).getD false = true then _ else _) = _
  rw [hx, Option.map_some, ho]
  rfl

/-- R89: a counted pulse in DRAINING within the reservation. -/
theorem hosePulse_draining (hd : (s.hose h).state = .draining) (ht : s.tx h = some tx)
    (hb : (s.store.cal.set.bands.get (meterOf h))[(s.meter (meterOf h)).band - 1]? = some b)
    (hr : (countVolume b.factor tx.volume).net / 1000 ≤ tx.reservation) :
    hosePulse h s = (counted h tx b s).putHose h { s.hose h with quiet := .running 2 } := by
  have ho : newlyOverrun { tx with volume := countVolume b.factor tx.volume } = false := not_newlyOverrun hr
  have hp : hosePulse h s = pulseDraining h s := by simp only [hosePulse, hd]
  rw [hp]
  simp only [pulseDraining, countHosePulse_eq ht hb, counted_tx, Option.map_some, ho, Option.getD_some,
    Bool.false_eq_true, if_false]
  rfl

/-! ## The stage (R79, R81) -/

/-- R79 test 1: at the limit the fill stops with LIMIT. -/
theorem evalStage_at_limit (ht : s.tx h = some tx) (hl : tx.limit ≤ tx.volume.net / 1000) :
    evalStage h s = stopFill h .limit s := by
  simp only [evalStage, ht]
  exact if_pos hl

/-- R79 tests 2 to 4: below the limit the hose takes its stage. -/
theorem evalStage_below (ht : s.tx h = some tx) (hl : tx.volume.net / 1000 < tx.limit) :
    evalStage h s = s.putHose h ((s.hose h).atStage
      (stageOf (tx.volume.net / 1000) tx.limit (s.config h).taperVolume (s.hose h).lowUntil)) := by
  simp only [evalStage, ht]
  exact if_neg (Nat.not_le.mpr hl)

theorem stageOf_eq (n limit taper lowUntil : Nat) :
    stageOf n limit taper lowUntil =
      if limit ≤ n + taper then .taper else if n < lowUntil then .start else .full := by
  have hi : ((limit : Int) - (taper : Int) ≤ (n : Int)) ↔ limit ≤ n + taper := by omega
  simp only [stageOf, hi]

theorem valveOf_eq (st : Stage) : valveOf st = if st = .full then .high else .low := by
  cases st <;> rfl

/-- Settles O33: each state's pulse is the counted state with what `hosePulse_flowing` or `hosePulse_draining`
adds, and the limit is `stopFill_stops`. -/
theorem pulsesAreCountedIntoTheFill : Obligations.PulsesAreCountedIntoTheFill := by
  unfold Obligations.PulsesAreCountedIntoTheFill
  intro h tx b s hp ht hb hr
  have hc := counted_touches h tx b s
  have hx : (timed h (counted h tx b s)).tx h =
      some { tx with volume := countVolume b.factor tx.volume } := counted_tx h tx b s
  have touched : OnlyIn [.hoses, .txs, .meters] s (timed h (counted h tx b s)) :=
    (hc.mono (by decide)).then (only_setHoses _ _) (by decide)
  have others : OtherHoses h s (timed h (counted h tx b s)) := fun g hg => State.hose_putHose_ne _ _ hg
  have own : (timed h (counted h tx b s)).hose h =
      { s.hose h with noFlow := .running (s.config h).noFlowTime } := State.hose_putHose _ _
  refine ⟨fun hf hl => ?_, fun hf hl => ?_, fun hd => ?_⟩
  · refine ⟨_, (exec_meterPulse hp h).trans (congrArg _ (hosePulse_flowing hf ht hb hr)), ?_⟩
    rw [evalStage_below hx hl, own]
    refine ⟨fun g hg => (State.hose_putHose_ne _ _ hg).trans (others g hg), hx,
      fun g hg => State.tx_putTx_ne _ _ hg, ?_⟩
    rw [State.hose_putHose]
    refine ⟨hf, rfl, stageOf_eq _ _ _ _, valveOf_eq _, fun hst hg => ?_, State.meter_putMeter _ s,
      touched.then (only_setHoses _ _) (by decide)⟩
    have hst : stageOf _ _ _ _ = Stage.taper := hst
    simp [HoseCtl.atStage, hst, hg]
  · have hfl : ((timed h (counted h tx b s)).hose h).state.stops := by rw [own]; exact .inl hf
    obtain ⟨hh, htx, -, hoth, -⟩ := stopFill_stops hfl .limit
    refine ⟨_, (exec_meterPulse hp h).trans (congrArg _ (hosePulse_flowing hf ht hb hr)), ?_⟩
    rw [evalStage_at_limit hx hl, hh, htx, hx]
    exact ⟨fun g hg => (hoth g hg).trans (others g hg), rfl, rfl, rfl, rfl, rfl,
      (touched.mono (by decide)).then (stopFill_touches _ _ _) (by decide)⟩
  · exact ⟨_, (exec_meterPulse hp h).trans (congrArg _ (hosePulse_draining hd ht hb hr)),
      State.hose_putHose _ _, fun g hg => State.hose_putHose_ne _ _ hg, counted_tx h tx b s,
      (hc.mono (by decide)).then (only_setHoses _ _) (by decide)⟩

/-! ## Stray pulses (R109) -/

theorem hosePulse_stray (hf : (s.hose h).state ≠ .flowing) (hd : (s.hose h).state ≠ .draining) :
    hosePulse h s = strayPulse h s := by
  cases hc : (s.hose h).state <;> simp_all [hosePulse]

/-- The state with a stray pulse counted and LEAK raised, before the compartment is inhibited. -/
def strayNoted (h : Hose) (s : State) : State := raiseAlarm (.leak h) (countStray (meterOf h) s)

theorem strayPulse_eq (h : Hose) (s : State) :
    strayPulse h s = inhibit (compOf h) (.strayPulse (meterOf h)) (strayNoted h s) := rfl

theorem strayNoted_touches (h : Hose) (s : State) : OnlyIn [.meters, .alarms] s (strayNoted h s) :=
  ((countStray_touches _ s).mono (by decide)).then (raiseAlarm_touches _ _) (by decide)

theorem strayNoted_strays (h : Hose) (s : State) :
    ((strayNoted h s).meter (meterOf h)).strays = min ((s.meter (meterOf h)).strays + 1) 65535 :=
  congrArg MeterCtl.strays (State.meter_putMeter (m := meterOf h) _ s)

/-- Settles O35: the stray pulse is noted, and the rest is what the inhibit of a compartment does. -/
theorem strayPulsesInhibit : Obligations.StrayPulsesInhibit := by
  unfold Obligations.StrayPulsesInhibit
  intro h s hp hf hd
  obtain ⟨hvol, hstr⟩ := inhibit_volume_strays (compOf h) (.strayPulse (meterOf h)) (strayNoted h s)
  refine ⟨_, (exec_meterPulse hp h).trans (congrArg _ (hosePulse_stray hf hd)), ?_⟩
  rw [strayPulse_eq]
  refine ⟨(hstr _).trans (strayNoted_strays h s), (inhibit_touches _ _ _) .alarms (by decide), hvol,
    inhibit_otherComp _ _ (strayNoted h s), fun hn => ⟨?_, ?_, fun g hg => ⟨fun hs => ?_, fun hw => ?_⟩⟩,
    fun hi => ?_, fun g hg => (inhibit_hose_ne _ (strayNoted h s) hg).1⟩
  · rw [State.comp, inhibit_comps (s := strayNoted h s) hn]
    exact PerComp.get_set_self _ _ _
  · exact inhibit_pump (s := strayNoted h s) hn _
  · obtain ⟨hst, htx⟩ := inhibit_stops (s := strayNoted h s) hn (.strayPulse (meterOf h)) hg hs
    exact ⟨hst, by rw [htx, Option.map_map]; rfl⟩
  · exact (inhibit_refuses (s := strayNoted h s) hn _ hg hw).1
  · rw [inhibit_again (s := strayNoted h s) hi]
    exact strayNoted_touches h s

end Sys2Proof.Machine
end

section
/-! PROOF. The alarm table and the two watches (R117, R150, R192): what a raise reads back as, and what an evaluation
of a watch leaves as it was. -/

namespace Sys2Proof.Machine

variable {s t s' t' u : State} {c e : Comp} {as bs : List Alarm} {ps : List Part}

/-! ## Rows of the alarm table -/

theorem find_raiseAlarm_self (a : Alarm) (s : State) :
    tableFind (raiseAlarm a s).alarms a.row = some (raisedRow s.clock (tableFind s.alarms a.row)) :=
  tableFind_tablePut_self _ _ _

theorem find_raiseAlarm_ne {k : Nat} {a : Alarm} (hk : k ≠ a.row) (s : State) :
    tableFind (raiseAlarm a s).alarms k = tableFind s.alarms k :=
  tableFind_tablePut_ne _ _ hk

theorem OtherAlarms.refl (as : List Alarm) (s : State) : OtherAlarms as s s := fun _ _ => rfl

theorem OtherAlarms.trans (h : OtherAlarms as s t) (g : OtherAlarms as t u) : OtherAlarms as s u :=
  fun k hk => (g k hk).trans (h k hk)

theorem OtherAlarms.mono (h : OtherAlarms as s t) (sub : as ⊆ bs) : OtherAlarms bs s t :=
  fun k hk => h k fun m => hk (List.map_subset Alarm.row sub m)

/-- What leaves the alarm table leaves every row. -/
theorem OnlyIn.otherAlarms (h : OnlyIn ps s t) (hp : .alarms ∉ ps := by decide) : OtherAlarms as s t :=
  fun k _ => congrArg (tableFind · k) (h .alarms hp)

theorem raiseAlarm_otherAlarms (a : Alarm) (s : State) : OtherAlarms [a] s (raiseAlarm a s) :=
  fun _ hk => find_raiseAlarm_ne (by simpa using hk) s

theorem lowStock_row_ne_logNearFull (c : Comp) : (Alarm.lowStock c).row ≠ Alarm.logNearFull.row := by
  cases c <;> decide

theorem OtherAlarms.logNearFull_row (h : OtherAlarms [.lowStock c] s t) :
    tableFind t.alarms Alarm.logNearFull.row = tableFind s.alarms Alarm.logNearFull.row :=
  h _ (by simpa using (lowStock_row_ne_logNearFull c).symm)

theorem OtherAlarms.lowStock_row (h : OtherAlarms [.logNearFull] s t) (c : Comp) :
    tableFind t.alarms (Alarm.lowStock c).row = tableFind s.alarms (Alarm.lowStock c).row :=
  h _ (by simpa using lowStock_row_ne_logNearFull c)

/-! ## The watches -/

theorem watchStock_otherAlarms (c : Comp) (s : State) : OtherAlarms [.lowStock c] s (watchStock c s) := by
  unfold watchStock
  dsimp only
  split <;> split
  · exact (OtherAlarms.refl _ s).trans (raiseAlarm_otherAlarms _ (s.putUnit c _))
  all_goals exact .refl _ _

theorem watchLog_otherAlarms (s : State) : OtherAlarms [.logNearFull] s (watchLog s) := by
  unfold watchLog
  split <;> split
  · exact raiseAlarm_otherAlarms _ (s.setLogWatch _)
  all_goals exact .refl _ _

/-- R117: an evaluation of the low-stock watch of a compartment leaves the unit of the other. -/
theorem watchStock_unit_ne (s : State) (he : e ≠ c) : (watchStock c s).unit e = s.unit e := by
  unfold watchStock
  dsimp only
  split <;> split
  · exact State.unit_putUnit_ne _ _ he
  · rfl
  · rfl
  · exact State.unit_putUnit_ne _ _ he

/-- R117: an evaluation of the low-stock watch changes nothing of a unit but the flag. -/
theorem watchStock_unit (c e : Comp) (s : State) :
    ((watchStock c s).unit e).run = (s.unit e).run ∧ ((watchStock c s).unit e).level = (s.unit e).level := by
  by_cases he : e = c
  · subst he
    have put (b : Bool) : ((s.putUnit e { s.unit e with armed := b }).unit e).run = (s.unit e).run ∧
        ((s.putUnit e { s.unit e with armed := b }).unit e).level = (s.unit e).level := by
      rw [State.unit_putUnit]; exact ⟨rfl, rfl⟩
    unfold watchStock
    dsimp only
    split <;> split
    exacts [put false, ⟨rfl, rfl⟩, ⟨rfl, rfl⟩, put true]
  · rw [watchStock_unit_ne s he]; exact ⟨rfl, rfl⟩

theorem watchLog_kept (s : State) : (watchLog s).logWatch.kept = s.logWatch.kept := by
  unfold watchLog
  split <;> split <;> rfl

/-- An evaluation of the near-full watch is one from every state with the same flag, clock and row of the alarm, to
every state with the same flag, log and row. -/
theorem LogWatched.congr (h : LogWatched s t) (armed : s'.logWatch.armed = s.logWatch.armed)
    (clock : s'.clock = s.clock)
    (row : tableFind s'.alarms Alarm.logNearFull.row = tableFind s.alarms Alarm.logNearFull.row)
    (armed' : t'.logWatch.armed = t.logWatch.armed) (log : t'.store.log = t.store.log)
    (row' : tableFind t'.alarms Alarm.logNearFull.row = tableFind t.alarms Alarm.logNearFull.row) :
    LogWatched s' t' := by
  simpa only [LogWatched, find_raiseAlarm_self, armed, clock, row, armed', log, row'] using h

/-- An evaluation of the low-stock watch is one from every state with the same flag, clock and row of the alarm, to
every state with the same flag, book, level and row. -/
theorem LowStockWatched.congr (h : LowStockWatched c s t) (armed : (s'.unit c).armed = (s.unit c).armed)
    (clock : s'.clock = s.clock)
    (row : tableFind s'.alarms (Alarm.lowStock c).row = tableFind s.alarms (Alarm.lowStock c).row)
    (armed' : (t'.unit c).armed = (t.unit c).armed) (book : (t'.comp c).book = (t.comp c).book)
    (level : (t'.comp c).lowStock = (t.comp c).lowStock)
    (row' : tableFind t'.alarms (Alarm.lowStock c).row = tableFind t.alarms (Alarm.lowStock c).row) :
    LowStockWatched c s' t' := by
  simpa only [LowStockWatched, find_raiseAlarm_self, armed, clock, row, armed', book, level, row'] using h

/-! ## What differs by the watches alone -/

/-- The alarms that the watches raise. -/
def watchAlarms : List Alarm := [.lowStock .c1, .lowStock .c2, .logNearFull]

/-- In the gauging units, the kept log answer and the alarm table, `t` differs from `s` by evaluations of the two
watches at most. -/
structure WatchedOnly (s t : State) : Prop where
  unit : ∀ c, (t.unit c).run = (s.unit c).run ∧ (t.unit c).level = (s.unit c).level
  kept : t.logWatch.kept = s.logWatch.kept
  alarms : OtherAlarms watchAlarms s t

theorem WatchedOnly.refl (s : State) : WatchedOnly s s := ⟨fun _ => ⟨rfl, rfl⟩, rfl, .refl _ _⟩

theorem WatchedOnly.trans (h : WatchedOnly s t) (g : WatchedOnly t u) : WatchedOnly s u :=
  ⟨fun c => ⟨(g.unit c).1.trans (h.unit c).1, (g.unit c).2.trans (h.unit c).2⟩, g.kept.trans h.kept,
    h.alarms.trans g.alarms⟩

theorem OnlyIn.watchedOnly (h : OnlyIn ps s t) (hu : .units ∉ ps := by decide)
    (hl : .logWatch ∉ ps := by decide) (ha : .alarms ∉ ps := by decide) : WatchedOnly s t := by
  have units : t.units = s.units := h .units hu
  exact ⟨fun c => by rw [State.unit, units]; exact ⟨rfl, rfl⟩, congrArg LogWatch.kept (h .logWatch hl),
    h.otherAlarms ha⟩

theorem watchStock_watchedOnly (c : Comp) (s : State) : WatchedOnly s (watchStock c s) :=
  ⟨fun e => watchStock_unit c e s, congrArg LogWatch.kept ((watchStock_touches c s) .logWatch (by decide)),
    (watchStock_otherAlarms c s).mono (by cases c <;> decide)⟩

theorem watchLog_watchedOnly (s : State) : WatchedOnly s (watchLog s) := by
  have units : (watchLog s).units = s.units := (watchLog_touches s) .units (by decide)
  exact ⟨fun c => by rw [State.unit, units]; exact ⟨rfl, rfl⟩, watchLog_kept s,
    (watchLog_otherAlarms s).mono (by decide)⟩

end Sys2Proof.Machine
end

section
/-! PROOF. The close of a fill and the end of a delivery as they are booked (R41, R52, R92, R93, R115, R143, R144,
R148), and what start-up does with an interrupted one (R101, R146). -/

namespace Sys2Proof.Machine

variable {s t : State} {h g : Hose} {c e : Comp} {tx : Transaction}

/-! ## Entries and accounts -/

theorem onMachine_self (k : Nat) (f : MachineEntry → MachineEntry) (s : State) :
    (s.onMachine k f).machine k = (s.machine k).map f := by
  unfold State.onMachine
  split
  · rename_i hm
    rw [hm]; exact tableFind_tablePut_self _ _ _
  · rename_i hm
    rw [hm]; rfl

theorem onMachine_ne {j k : Nat} (f : MachineEntry → MachineEntry) (s : State) (hj : j ≠ k) :
    (s.onMachine k f).machine j = s.machine j := by
  unfold State.onMachine
  split
  · exact tableFind_tablePut_ne _ _ hj
  · rfl

theorem onAccount_self (k : Nat) (f : Account → Account) (s : State) :
    (s.onAccount k f).account k = (s.account k).map f := by
  unfold State.onAccount
  split
  · rename_i ha
    rw [ha]; exact tableFind_tablePut_self _ _ _
  · rename_i ha
    rw [ha]; rfl

theorem onAccount_ne {j k : Nat} (f : Account → Account) (s : State) (hj : j ≠ k) :
    (s.onAccount k f).account j = s.account j := by
  unfold State.onAccount
  split
  · exact tableFind_tablePut_ne _ _ hj
  · rfl

/-! ## The log (R148, R150) -/

/-- R148: what a write leaves in the log. -/
theorem writeRecord_log (body : RecordBody) (s : State) :
    (writeRecord body s).store.log = ⟨s.store.log.records ++
      [⟨s.store.log.nextSeq, false, s.store.shift.number, body⟩],
      s.store.log.commitments - 1, s.store.log.nextSeq + 1⟩ :=
  (watchLog_touches _) .log (by decide)

theorem writeRecord_watched (body : RecordBody) (s : State) : LogWatched s (writeRecord body s) :=
  (watchLog_watched (s.setLog ⟨s.store.log.records ++ [newRecord body s], s.store.log.commitments - 1,
    s.store.log.nextSeq + 1⟩)).congr rfl rfl rfl rfl rfl rfl

theorem writeRecord_otherAlarms (body : RecordBody) (s : State) :
    OtherAlarms [.logNearFull] s (writeRecord body s) :=
  (OtherAlarms.refl _ s).trans (watchLog_otherAlarms (s.setLog _))

theorem writeRecord_watchedOnly (body : RecordBody) (s : State) : WatchedOnly s (writeRecord body s) :=
  (only_setLog _ s).watchedOnly.trans (watchLog_watchedOnly _)

/-! ## A change of the book (R115, R117, R128) -/

theorem afterBookChange_comps (c : Comp) (s : State) :
    (afterBookChange c s).store.comps = (setStale c s).store.comps :=
  (watchStock_touches _ _) .comps (by decide)

theorem afterBookChange_comp (c : Comp) (s : State) :
    (afterBookChange c s).comp c =
      { s.comp c with gauging := { (s.comp c).gauging with stale := true } } := by
  rw [State.comp, afterBookChange_comps]
  exact State.comp_putComp _ _

theorem afterBookChange_otherComp (c : Comp) (s : State) : OtherComp c s (afterBookChange c s) := by
  intro e he
  rw [State.comp, afterBookChange_comps]
  exact State.comp_putComp_ne _ _ he

theorem afterBookChange_watched (c : Comp) (s : State) : LowStockWatched c s (afterBookChange c s) :=
  (watchStock_watched c (setStale c s)).congr rfl rfl rfl rfl rfl rfl rfl

theorem afterBookChange_otherAlarms (c : Comp) (s : State) :
    OtherAlarms [.lowStock c] s (afterBookChange c s) :=
  (OtherAlarms.refl _ s).trans (watchStock_otherAlarms c (setStale c s))

theorem afterBookChange_unit_ne (s : State) (he : e ≠ c) : (afterBookChange c s).unit e = s.unit e :=
  watchStock_unit_ne (setStale c s) he

theorem afterBookChange_watchedOnly (c : Comp) (s : State) : WatchedOnly s (afterBookChange c s) :=
  (setStale_touches c s).watchedOnly.trans (watchStock_watchedOnly _ _)

/-! ## The close of a fill (R92) -/

/-- R92 steps 2 and 3: the entry and the account of a fill are charged. -/
def chargedParties (h : Hose) (tx : Transaction) (s : State) : State :=
  (s.onMachine tx.machine (MachineEntry.charge (productOf h) tx.volume.netMl tx.reservation)).onAccount
    tx.account
    (Account.charge (productOf h) tx.volume.netMl tx.reservation (chargeOf tx.volume.netMl tx.rate))

/-- R92 steps 2 to 4: the entry, the account and the compartment of a fill are charged. -/
def charged (h : Hose) (tx : Transaction) (s : State) : State :=
  (chargedParties h tx s).putComp (compOf h)
    (((chargedParties h tx s).comp (compOf h)).dispense tx.volume.netMl tx.reservation)

/-- R115: the charged state with what follows a change of the book. -/
def chargedWatched (h : Hose) (tx : Transaction) (s : State) : State :=
  if tx.volume.netMl = 0 then charged h tx s else afterBookChange (compOf h) (charged h tx s)

/-- R92 step 5, R149: the charged state with the FILL record written and counted. -/
def chargedRecorded (h : Hose) (tx : Transaction) (s : State) : State :=
  countFill (compOf h) (writeRecord (.fill (fillRecord h tx s)) (chargedWatched h tx s))

/-- R92: the charge of a fill in its stages; the last sets the entry's last fill. -/
theorem chargeFill_eq (h : Hose) (tx : Transaction) (s : State) :
    chargeFill h tx s = (chargedRecorded h tx s).onMachine tx.machine fun m => { m with
      lastFill := some ⟨s.store.log.nextSeq, (chargedRecorded h tx s).clock.time, productOf h,
        tx.volume.netMl⟩ } := rfl

theorem chargedParties_touches (h : Hose) (tx : Transaction) (s : State) :
    OnlyIn [.machines, .accounts] s (chargedParties h tx s) :=
  ((onMachine_touches _ _ s).mono (by decide)).then (onAccount_touches _ _ _) (by decide)

theorem charged_touches (h : Hose) (tx : Transaction) (s : State) :
    OnlyIn [.machines, .accounts, .comps] s (charged h tx s) :=
  ((chargedParties_touches h tx s).mono (by decide)).then (only_setComps _ _) (by decide)

theorem chargedWatched_touches (h : Hose) (tx : Transaction) (s : State) :
    OnlyIn [.machines, .accounts, .comps, .units, .alarms] s (chargedWatched h tx s) := by
  have hc : OnlyIn [.machines, .accounts, .comps, .units, .alarms] s (charged h tx s) :=
    (charged_touches h tx s).mono (by decide)
  unfold chargedWatched
  exact .ite hc (hc.then (afterBookChange_touches _ _) (by decide))

/-- What the charge changes after the change of the book. -/
theorem chargedWatched_then (h : Hose) (tx : Transaction) (s : State) :
    OnlyIn [.log, .logWatch, .alarms, .shift, .machines] (chargedWatched h tx s) (chargeFill h tx s) :=
  (((writeRecord_touches _ _).mono (by decide)).then (countFill_touches _ _) (by decide)).then
    (onMachine_touches _ _ _) (by decide)

theorem chargedRecorded_then (h : Hose) (tx : Transaction) (s : State) :
    OnlyIn [.machines] (chargedRecorded h tx s) (chargeFill h tx s) :=
  onMachine_touches _ _ _

theorem chargedRecorded_machines (h : Hose) (tx : Transaction) (s : State) :
    (chargedRecorded h tx s).store.machines =
      (s.onMachine tx.machine
        (MachineEntry.charge (productOf h) tx.volume.netMl tx.reservation)).store.machines := by
  have recorded : (chargedRecorded h tx s).store.machines = (chargedWatched h tx s).store.machines :=
    (writeRecord_touches _ _) .machines (by decide)
  have watched : (chargedWatched h tx s).store.machines = (charged h tx s).store.machines := by
    unfold chargedWatched
    split
    · rfl
    · exact (afterBookChange_touches _ _) .machines (by decide)
  rw [recorded, watched]
  exact (onAccount_touches _ _ _) .machines (by decide)

theorem chargedRecorded_clock (h : Hose) (tx : Transaction) (s : State) :
    (chargedRecorded h tx s).clock = s.clock :=
  ((writeRecord_touches _ (chargedWatched h tx s)) .clock (by decide)).trans
    ((chargedWatched_touches h tx s) .clock (by decide))

/-- R41, R92 steps 2 and 6: the entry of a fill. -/
theorem chargeFill_machine (h : Hose) (tx : Transaction) (s : State) :
    (chargeFill h tx s).machine tx.machine = (s.machine tx.machine).map (chargedEntry h tx s) := by
  rw [chargeFill_eq, onMachine_self, State.machine, chargedRecorded_machines, chargedRecorded_clock]
  refine (congrArg _ (onMachine_self tx.machine _ s)).trans ?_
  rw [Option.map_map]; rfl

theorem chargeFill_machine_ne {k : Nat} (h : Hose) (s : State) (hk : k ≠ tx.machine) :
    (chargeFill h tx s).machine k = s.machine k := by
  rw [chargeFill_eq, onMachine_ne _ _ hk, State.machine, chargedRecorded_machines]
  exact onMachine_ne _ s hk

theorem chargeFill_accounts (h : Hose) (tx : Transaction) (s : State) :
    (chargeFill h tx s).store.accounts = (s.onAccount tx.account (Account.charge (productOf h)
      tx.volume.netMl tx.reservation (chargeOf tx.volume.netMl tx.rate))).store.accounts := by
  have recorded : (chargeFill h tx s).store.accounts = (chargedWatched h tx s).store.accounts :=
    (chargedWatched_then h tx s) .accounts (by decide)
  have watched : (chargedWatched h tx s).store.accounts = (charged h tx s).store.accounts := by
    unfold chargedWatched
    split
    · rfl
    · exact (afterBookChange_touches _ _) .accounts (by decide)
  have entry : (s.onMachine tx.machine
      (MachineEntry.charge (productOf h) tx.volume.netMl tx.reservation)).store.accounts =
      s.store.accounts := (onMachine_touches _ _ _) .accounts (by decide)
  rw [recorded, watched]
  simp only [charged, chargedParties, State.putComp, State.setComps_accounts, State.onAccount, State.account, entry]
  split
  · rfl
  · exact entry

theorem charged_comp (h : Hose) (tx : Transaction) (s : State) :
    (charged h tx s).comp (compOf h) =
      (s.comp (compOf h)).dispense tx.volume.netMl tx.reservation := by
  have hc := chargedParties_touches h tx s
  exact (State.comp_putComp _ _).trans (congrArg (Compartment.dispense _ _) (hc.comp _))

theorem charged_otherComp (h : Hose) (tx : Transaction) (s : State) :
    OtherComp (compOf h) s (charged h tx s) := by
  intro e he
  have hc := chargedParties_touches h tx s
  exact (State.comp_putComp_ne _ _ he).trans (hc.comp e)

/-- R92 step 4, R115, R128: the compartment of a fill. -/
theorem chargeFill_comp (h : Hose) (tx : Transaction) (s : State) :
    (chargeFill h tx s).comp (compOf h) = { s.comp (compOf h) with
      book := (s.comp (compOf h)).book - (tx.volume.net / 1000 : Nat)
      dispensed := (s.comp (compOf h)).dispensed + (tx.volume.net / 1000 : Nat)
      reservations := (s.comp (compOf h)).reservations - tx.reservation
      gauging := { (s.comp (compOf h)).gauging with
        stale := (s.comp (compOf h)).gauging.stale || decide (tx.volume.net / 1000 ≠ 0) } } := by
  rw [(chargedWatched_then h tx s).comp]
  unfold chargedWatched
  by_cases hn : tx.volume.netMl = 0
  · rw [if_pos hn, charged_comp]
    have hn : tx.volume.net / 1000 = 0 := hn
    simp [Compartment.dispense, Volume.netMl, hn]
  · rw [if_neg hn, afterBookChange_comp, charged_comp]
    have hn : tx.volume.net / 1000 ≠ 0 := hn
    simp only [decide_eq_true hn, Bool.or_true]
    rfl

theorem chargeFill_inhibit (h : Hose) (tx : Transaction) (s : State) :
    ((chargeFill h tx s).comp (compOf h)).inhibit = (s.comp (compOf h)).inhibit := by
  rw [chargeFill_comp]

theorem chargeFill_otherComp (h : Hose) (tx : Transaction) (s : State) :
    OtherComp (compOf h) s (chargeFill h tx s) := by
  intro e he
  rw [(chargedWatched_then h tx s).comp]
  unfold chargedWatched
  split
  · exact charged_otherComp h tx s e he
  · exact (afterBookChange_otherComp _ _ e he).trans (charged_otherComp h tx s e he)

/-- R93, R148: the log after the charge of a fill. -/
theorem chargeFill_log (h : Hose) (tx : Transaction) (s : State) :
    (chargeFill h tx s).store.log = ⟨s.store.log.records ++
      [⟨s.store.log.nextSeq, false, s.store.shift.number, .fill (fillRecord h tx s)⟩],
      s.store.log.commitments - 1, s.store.log.nextSeq + 1⟩ := by
  have hw := chargedWatched_touches h tx s
  rw [(chargedRecorded_then h tx s) .log (by decide)]
  refine (writeRecord_log _ (chargedWatched h tx s)).trans ?_
  rw [hw .log (by decide), hw .shift (by decide)]

/-- R149, R160: the shift after the charge of a fill. -/
theorem chargeFill_shift (h : Hose) (tx : Transaction) (s : State) :
    (chargeFill h tx s).store.shift = { s.store.shift with
      fills := s.store.shift.fills.set (compOf h)
        (min (s.store.shift.fills.get (compOf h) + 1) 65535) } := by
  have hs : (writeRecord (.fill (fillRecord h tx s)) (chargedWatched h tx s)).store.shift = s.store.shift :=
    ((writeRecord_touches _ (chargedWatched h tx s)) .shift (by decide)).trans
      ((chargedWatched_touches h tx s) .shift (by decide))
  rw [(chargedRecorded_then h tx s) .shift (by decide)]
  simp only [chargedRecorded, countFill, State.setShift_shift, hs]
  rfl

theorem chargedWatched_otherAlarms (h : Hose) (tx : Transaction) (s : State) :
    OtherAlarms [.lowStock (compOf h)] s (chargedWatched h tx s) := by
  have hc : OtherAlarms [.lowStock (compOf h)] s (charged h tx s) := (charged_touches h tx s).otherAlarms
  unfold chargedWatched
  split
  · exact hc
  · exact hc.trans (afterBookChange_otherAlarms _ _)

theorem chargedWatched_then_otherAlarms (h : Hose) (tx : Transaction) (s : State) :
    OtherAlarms [.logNearFull] (chargedWatched h tx s) (chargeFill h tx s) :=
  ((writeRecord_otherAlarms _ _).trans (countFill_touches _ _).otherAlarms).trans
    (onMachine_touches _ _ _).otherAlarms

theorem chargeFill_otherAlarms (h : Hose) (tx : Transaction) (s : State) :
    OtherAlarms [.lowStock (compOf h), .logNearFull] s (chargeFill h tx s) :=
  ((chargedWatched_otherAlarms h tx s).mono (by simp)).trans
    ((chargedWatched_then_otherAlarms h tx s).mono (by simp))

theorem chargeFill_unit_ne (h : Hose) (tx : Transaction) (s : State) (he : e ≠ compOf h) :
    (chargeFill h tx s).unit e = s.unit e := by
  have hc : (charged h tx s).unit e = s.unit e := (charged_touches h tx s).unit e
  rw [(chargedWatched_then h tx s).unit]
  unfold chargedWatched
  split
  · exact hc
  · exact (afterBookChange_unit_ne _ he).trans hc

theorem chargeFill_watchedOnly (h : Hose) (tx : Transaction) (s : State) :
    WatchedOnly s (chargeFill h tx s) := by
  have hc : WatchedOnly s (chargedWatched h tx s) := by
    unfold chargedWatched
    split
    · exact (charged_touches h tx s).watchedOnly
    · exact (charged_touches h tx s).watchedOnly.trans (afterBookChange_watchedOnly _ _)
  exact ((hc.trans (writeRecord_watchedOnly _ _)).trans (countFill_touches _ _).watchedOnly).trans
    (onMachine_touches _ _ _).watchedOnly

theorem chargeFill_logWatched (h : Hose) (tx : Transaction) (s : State) :
    LogWatched s (chargeFill h tx s) := by
  have hw := chargedWatched_touches h tx s
  have ht := chargedRecorded_then h tx s
  exact (writeRecord_watched (.fill (fillRecord h tx s)) (chargedWatched h tx s)).congr
    (congrArg LogWatch.armed (hw .logWatch (by decide)).symm) (hw .clock (by decide)).symm
    (chargedWatched_otherAlarms h tx s).logNearFull_row.symm
    (congrArg LogWatch.armed (ht .logWatch (by decide))) (ht .log (by decide))
    (ht.row _)

theorem chargeFill_lowStockWatched (h : Hose) (s : State) (hn : tx.volume.netMl ≠ 0) :
    LowStockWatched (compOf h) s (chargeFill h tx s) := by
  have hc := charged_touches h tx s
  have he : chargedWatched h tx s = afterBookChange (compOf h) (charged h tx s) := if_neg hn
  have ht := chargedWatched_then h tx s
  have row := (chargedWatched_then_otherAlarms h tx s).lowStock_row (compOf h)
  rw [he] at ht row
  exact (afterBookChange_watched (compOf h) (charged h tx s)).congr
    (congrArg CompUnit.armed (hc.unit _).symm) (hc .clock (by decide)).symm (hc.row _).symm
    (congrArg CompUnit.armed (ht.unit _)) (congrArg Compartment.book (ht.comp _))
    (congrArg Compartment.lowStock (ht.comp _)) row

theorem chargeFill_lowStockKept (h : Hose) (s : State) (hn : tx.volume.netMl = 0) :
    LowStockKept (compOf h) s (chargeFill h tx s) := by
  have hc := charged_touches h tx s
  have he : chargedWatched h tx s = charged h tx s := if_pos hn
  have ht := chargedWatched_then h tx s
  have row := (chargedWatched_then_otherAlarms h tx s).lowStock_row (compOf h)
  rw [he] at ht row
  exact ⟨congrArg CompUnit.armed ((ht.unit _).trans (hc.unit _)), row.trans (hc.row _)⟩

/-- R92, R93: what the charge of a fill books, once the transaction is gone. -/
theorem chargeFill_booked (h : Hose) (tx : Transaction) (s : State) :
    FillBooked h tx s ((chargeFill h tx s).putTx h none) := by
  refine ⟨State.tx_putTx _ _, ⟨fillRecord h tx s, chargeFill_log h tx s, rfl, rfl, rfl, rfl, rfl, rfl, rfl, rfl,
    rfl, rfl, rfl, rfl, rfl, rfl, rfl, rfl, rfl, rfl, rfl, rfl, rfl, rfl, rfl, rfl⟩,
    ⟨?_, chargeFill_otherComp h tx s⟩, chargeFill_shift h tx s, ⟨?_, fun k hk => ?_⟩, (chargeFill_logWatched h tx s).congr rfl rfl rfl rfl rfl rfl,
    fun hn => (chargeFill_lowStockWatched h s hn).congr rfl rfl rfl rfl rfl rfl rfl,
    fun hn => chargeFill_lowStockKept h s hn⟩
  · have hc := chargeFill_comp h tx s
    have hi : (((chargeFill h tx s).putTx h none).comp (compOf h)).inhibit = (s.comp (compOf h)).inhibit :=
      chargeFill_inhibit h tx s
    rw [hi]; exact hc
  · change (chargeFill h tx s).account tx.account = _
    rw [State.account, chargeFill_accounts]
    exact onAccount_self _ _ s
  · change (chargeFill h tx s).account k = _
    rw [State.account, chargeFill_accounts]
    exact onAccount_ne _ s hk

end Sys2Proof.Machine
end

section
/-! PROOF. The end of a delivery as it is booked and recorded (R141, R143, R144, R146), and what start-up does with
an interrupted fill and an interrupted delivery (R101, R146). -/

namespace Sys2Proof.Machine

variable {s t : State} {h g : Hose} {c e : Comp} {tx : Transaction} {d : Delivery}

/-! ## The credit of a delivery (R143) -/

/-- R143 steps 1 to 3: the delivery is finished and its compartment credited, before the book change is followed
up. -/
def credited (d : Delivery) (s : State) : State :=
  let s := stopInterval .m4 s
  let s := s.putComp d.comp ((s.comp d.comp).credit d.volume.netMl)
  (s.setDelivery (some (finishDelivery d s))).setInlet { s.inlet with quiet := .stopped, cap := .stopped }

theorem creditDelivery_eq (d : Delivery) (s : State) :
    creditDelivery d s = afterBookChange d.comp (credited d s) := rfl

theorem credited_touches (d : Delivery) (s : State) :
    OnlyIn [.meters, .comps, .delivery, .inlet] s (credited d s) :=
  ((((stopInterval_touches _ s).mono (by decide)).then (only_setComps _ _) (by decide)).then
    (only_setDelivery _ _) (by decide)).then (only_setInlet _ _) (by decide)

theorem credited_comp (d : Delivery) (s : State) :
    (credited d s).comp d.comp = (s.comp d.comp).credit d.volume.netMl :=
  State.comp_putComp _ _

theorem credited_otherComp (d : Delivery) (s : State) : OtherComp d.comp s (credited d s) :=
  fun _ he => State.comp_putComp_ne _ _ he

/-- R115, R128, R143: the compartment of a delivery. -/
theorem creditDelivery_comp (d : Delivery) (s : State) :
    (creditDelivery d s).comp d.comp = { s.comp d.comp with
      book := (s.comp d.comp).book + (d.volume.net / 1000 : Nat)
      delivered := (s.comp d.comp).delivered + (d.volume.net / 1000 : Nat)
      gauging := { (s.comp d.comp).gauging with stale := true } } := by
  rw [creditDelivery_eq, afterBookChange_comp, credited_comp]
  rfl

theorem creditDelivery_otherComp (d : Delivery) (s : State) : OtherComp d.comp s (creditDelivery d s) :=
  fun e he => (afterBookChange_otherComp _ _ e he).trans (credited_otherComp d s e he)

theorem creditDelivery_lowStockWatched (d : Delivery) (s : State) :
    LowStockWatched d.comp s (creditDelivery d s) :=
  (afterBookChange_watched d.comp (credited d s)).congr rfl rfl rfl rfl rfl rfl rfl

theorem creditDelivery_otherAlarms (d : Delivery) (s : State) :
    OtherAlarms [.lowStock d.comp] s (creditDelivery d s) :=
  (credited_touches d s).otherAlarms.trans (afterBookChange_otherAlarms _ _)

theorem creditDelivery_unit_ne (d : Delivery) (s : State) (he : e ≠ d.comp) :
    (creditDelivery d s).unit e = s.unit e :=
  afterBookChange_unit_ne (credited d s) he

theorem creditDelivery_watchedOnly (d : Delivery) (s : State) : WatchedOnly s (creditDelivery d s) :=
  (credited_touches d s).watchedOnly.trans (afterBookChange_watchedOnly _ _)

theorem creditDelivery_meter (d : Delivery) (m : Meter) (s : State) :
    (creditDelivery d s).meter m = (stopInterval .m4 s).meter m :=
  (afterBookChange_touches d.comp (credited d s)).meter m

theorem creditDelivery_inlet (d : Delivery) (s : State) :
    (creditDelivery d s).inlet = { s.inlet with quiet := .stopped, cap := .stopped } :=
  (afterBookChange_touches d.comp (credited d s)) .inlet (by decide)

/-! ## The record of a delivery (R144) -/

theorem deliveryRecord_above (d : Delivery) (post : Option DeliveryGauge) :
    (deliveryRecord d post).above = true ↔ (∃ g, d.preGauge = some g ∧ g.above = true) ∨
      ∃ g, post = some g ∧ g.above = true := by
  cases hp : d.preGauge <;> cases post <;> simp [deliveryRecord, hp]

theorem deliveryRecord_variance_none {post : Option DeliveryGauge} (h : d.preGauge = none ∨ post = none) :
    (deliveryRecord d post).variance = none := by
  unfold deliveryRecord
  rcases h with h | h
  · simp only [h]
  · subst h; cases d.preGauge <;> rfl

/-- R144: a delivery is recorded, with a post-gauge or without one. -/
theorem recordDelivery_recorded (d : Delivery) (post : Option DeliveryGauge) (s : State) :
    DeliveryRecorded d post s (recordDelivery d post s) := by
  refine ⟨rfl, ⟨deliveryRecord d post, writeRecord_log _ s, rfl, rfl, rfl, fun x hx => ?_, fun x hx => ?_, rfl,
    fun gross net hf => ⟨?_, ?_, ?_, fun a b ha hb => ?_⟩, deliveryRecord_variance_none, rfl, rfl, rfl, rfl,
    fun x hx => ?_, rfl, rfl, rfl, rfl, deliveryRecord_above d post⟩,
    (writeRecord_watched _ s).congr rfl rfl rfl rfl rfl rfl⟩
  · simp [deliveryRecord, hx]
  · simp [deliveryRecord, hx]
  · simp [deliveryRecord, hf]
  · simp [deliveryRecord, hf]
  · simp [deliveryRecord, hf]
  · simp [deliveryRecord, hf, ha, hb]
  · simp [deliveryRecord, hx]

theorem recordDelivery_otherAlarms (d : Delivery) (post : Option DeliveryGauge) (s : State) :
    OtherAlarms [.logNearFull] s (recordDelivery d post s) :=
  (writeRecord_otherAlarms _ s).trans (only_setDelivery _ _).otherAlarms

theorem recordDelivery_watchedOnly (d : Delivery) (post : Option DeliveryGauge) (s : State) :
    WatchedOnly s (recordDelivery d post s) :=
  (writeRecord_watchedOnly _ s).trans (only_setDelivery _ _).watchedOnly

/-! ## The cancellation of a delivery (R141, R146) -/

/-- The log with one commitment less. -/
def released (l : Log) : Log := { l with commitments := l.commitments - 1 }

theorem cancelDelivery_log (s : State) : (cancelDelivery s).store.log = released s.store.log :=
  (watchLog_touches _) .log (by decide)

theorem cancelDelivery_watched (s : State) : LogWatched s (cancelDelivery s) :=
  (watchLog_watched (s.setLog (released s.store.log))).congr rfl rfl rfl rfl rfl rfl

theorem cancelDelivery_otherAlarms (s : State) : OtherAlarms [.logNearFull] s (cancelDelivery s) :=
  ((only_setLog _ s).otherAlarms.trans (watchLog_otherAlarms _)).trans (only_setDelivery _ _).otherAlarms

theorem cancelDelivery_watchedOnly (s : State) : WatchedOnly s (cancelDelivery s) :=
  ((only_setLog _ s).watchedOnly.trans (watchLog_watchedOnly _)).trans (only_setDelivery _ _).watchedOnly

/-! ## An interrupted fill at start-up (R101) -/

/-- R101: the transaction as start-up closes it. -/
def Transaction.lost (tx : Transaction) : Transaction := { tx with cause := some .powerLoss }

theorem closeInterrupted_none (ht : s.tx h = none) : closeInterrupted h s = s := by
  simp only [closeInterrupted, ht]

theorem closeInterrupted_some (ht : s.tx h = some tx) :
    closeInterrupted h s = (chargeFill h tx.lost s).putTx h none := by
  simp only [closeInterrupted, ht]; rfl

/-- R101: start-up closes the stored transaction of a hose. -/
theorem closeInterrupted_lost (h : Hose) (s : State) : FillLost h s (closeInterrupted h s) := by
  refine ⟨closeInterrupted_none, fun tx ht => ?_⟩
  rw [closeInterrupted_some ht]
  exact ⟨chargeFill_booked h tx.lost s, chargeFill_machine h tx.lost s,
    fun k hk => chargeFill_machine_ne (tx := tx.lost) h s hk,
    fun g hg => (State.tx_putTx_ne _ _ hg).trans ((chargeFill_touches h tx.lost s).tx g),
    chargeFill_inhibit h tx.lost s, fun c hc => chargeFill_unit_ne h tx.lost s hc,
    chargeFill_otherAlarms h tx.lost s,
    ((chargeFill_touches h tx.lost s).mono (by decide)).then (only_setTxs _ _) (by decide)⟩

/-- The parts that the close of an interrupted fill can change. -/
abbrev lostFillParts : List Part :=
  [.machines, .accounts, .txs, .comps, .log, .shift, .units, .logWatch, .alarms]

theorem closeInterrupted_touches (h : Hose) (s : State) : OnlyIn lostFillParts s (closeInterrupted h s) := by
  cases ht : s.tx h with
  | none => rw [closeInterrupted_none ht]; exact .refl _ _
  | some tx =>
    obtain ⟨-, -, -, -, -, -, -, ho⟩ := (closeInterrupted_lost h s).2 tx ht
    exact ho

theorem closeInterrupted_watchedOnly (h : Hose) (s : State) : WatchedOnly s (closeInterrupted h s) := by
  cases ht : s.tx h with
  | none => rw [closeInterrupted_none ht]; exact .refl s
  | some tx =>
    rw [closeInterrupted_some ht]
    exact (chargeFill_watchedOnly h tx.lost s).trans (only_setTxs _ _).watchedOnly

/-! ## An interrupted delivery at start-up (R146) -/

/-- R146: the delivery as start-up brings it to its end from RECEIVING or DRAINING. -/
def Delivery.lost (d : Delivery) : Delivery := { d with cause := some .powerLoss }

theorem endInterrupted_none (hd : s.store.delivery = none) : endInterrupted s = s := by
  simp only [endInterrupted, hd]

theorem endInterrupted_preGauge (hd : s.store.delivery = some d) (hs : d.state = .preGauge) :
    endInterrupted s = cancelDelivery s := by
  simp only [endInterrupted, hd, hs]

theorem endInterrupted_counting (hd : s.store.delivery = some d)
    (hs : d.state = .receiving ∨ d.state = .draining) :
    endInterrupted s = recordDelivery (finishDelivery d.lost s) none (creditDelivery d.lost s) := by
  rcases hs with hs | hs <;> simp only [endInterrupted, hd, hs] <;> rfl

theorem endInterrupted_postGauge (hd : s.store.delivery = some d) (hs : d.state = .postGauge) :
    endInterrupted s = recordDelivery { d with unset := d.unset || s.now.unset } none s := by
  simp only [endInterrupted, hd, hs]

/-- R143, R144, R146: the record of a delivery that start-up credits, over the state before the credit. -/
theorem endInterrupted_recorded (d : Delivery) (s : State) :
    DeliveryRecorded { d with
      cause := some .powerLoss, final := some (d.volume.gross / 1000, d.volume.net / 1000),
      finish := some s.clock.time, unset := d.unset || s.clock.unset } none s
      (recordDelivery (finishDelivery d.lost s) none (creditDelivery d.lost s)) := by
  have hc := creditDelivery_touches d.lost s
  obtain ⟨hdel, ⟨r, hlog, hr⟩, hw⟩ :=
    recordDelivery_recorded (finishDelivery d.lost s) none (creditDelivery d.lost s)
  rw [hc .log (by decide), hc .shift (by decide)] at hlog
  exact ⟨hdel, ⟨r, hlog, hr⟩, hw.congr (congrArg LogWatch.armed (hc .logWatch (by decide)).symm)
    (hc .clock (by decide)).symm (creditDelivery_otherAlarms d.lost s).logNearFull_row.symm rfl rfl rfl⟩

/-- R117, R143, R146: the watch of a delivery that start-up credits, once the record is written. -/
theorem endInterrupted_lowStockWatched (d : Delivery) (s : State) :
    LowStockWatched d.comp s (recordDelivery (finishDelivery d.lost s) none (creditDelivery d.lost s)) := by
  have hr := recordDelivery_touches (finishDelivery d.lost s) none (creditDelivery d.lost s)
  exact (creditDelivery_lowStockWatched d.lost s).congr rfl rfl rfl (congrArg CompUnit.armed (hr.unit _))
    (congrArg Compartment.book (hr.comp _)) (congrArg Compartment.lowStock (hr.comp _))
    ((recordDelivery_otherAlarms _ _ _).lowStock_row _)

/-- R146: start-up brings the stored delivery to its end. -/
theorem endInterrupted_lost (s : State) : DeliveryLost s (endInterrupted s) := by
  refine ⟨endInterrupted_none, fun d hd => ⟨fun hs => ?_, fun hs => ?_, fun hs => ?_⟩⟩
  · rw [endInterrupted_preGauge hd hs]
    exact ⟨rfl, cancelDelivery_log s, cancelDelivery_watched s, cancelDelivery_otherAlarms s,
      cancelDelivery_touches s⟩
  · rw [endInterrupted_counting hd hs]
    have hr := recordDelivery_touches (finishDelivery d.lost s) none (creditDelivery d.lost s)
    refine ⟨endInterrupted_recorded d s, (hr.comp _).trans (creditDelivery_comp d.lost s),
      fun e he => (hr.comp e).trans (creditDelivery_otherComp d.lost s e he),
      endInterrupted_lowStockWatched d s,
      fun c hc => (hr.unit c).trans (creditDelivery_unit_ne d.lost s hc),
      ((creditDelivery_otherAlarms d.lost s).mono (by simp [Delivery.lost])).trans
        ((recordDelivery_otherAlarms _ _ _).mono (by simp)),
      ((creditDelivery_touches d.lost s).mono (by decide)).then hr (by decide)⟩
  · rw [endInterrupted_postGauge hd hs]
    exact ⟨recordDelivery_recorded _ none s, recordDelivery_otherAlarms _ _ _, recordDelivery_touches _ _ _⟩

/-- The parts that the end of an interrupted delivery can change. -/
abbrev lostDeliveryParts : List Part :=
  [.delivery, .inlet, .meters, .comps, .units, .log, .logWatch, .alarms]

/-- R146: everything that start-up can do with a stored delivery. -/
theorem endInterrupted_cases (s : State) :
    endInterrupted s = s ∨ endInterrupted s = cancelDelivery s ∨
      (∃ d, endInterrupted s = recordDelivery (finishDelivery d s) none (creditDelivery d s)) ∨
      ∃ d, endInterrupted s = recordDelivery d none s := by
  cases hd : s.store.delivery with
  | none => exact .inl (endInterrupted_none hd)
  | some d =>
    cases hs : d.state with
    | preGauge => exact .inr (.inl (endInterrupted_preGauge hd hs))
    | receiving => exact .inr (.inr (.inl ⟨_, endInterrupted_counting hd (.inl hs)⟩))
    | draining => exact .inr (.inr (.inl ⟨_, endInterrupted_counting hd (.inr hs)⟩))
    | postGauge => exact .inr (.inr (.inr ⟨_, endInterrupted_postGauge hd hs⟩))

theorem endInterrupted_touches (s : State) : OnlyIn lostDeliveryParts s (endInterrupted s) := by
  obtain he | he | ⟨d, he⟩ | ⟨d, he⟩ := endInterrupted_cases s <;> rw [he]
  · exact .refl _ _
  · exact (cancelDelivery_touches s).mono (by decide)
  · exact ((creditDelivery_touches d s).mono (by decide)).then (recordDelivery_touches _ _ _) (by decide)
  · exact (recordDelivery_touches _ _ _).mono (by decide)

theorem endInterrupted_watchedOnly (s : State) : WatchedOnly s (endInterrupted s) := by
  obtain he | he | ⟨d, he⟩ | ⟨d, he⟩ := endInterrupted_cases s <;> rw [he]
  · exact .refl s
  · exact cancelDelivery_watchedOnly s
  · exact (creditDelivery_watchedOnly d s).trans (recordDelivery_watchedOnly _ _ _)
  · exact recordDelivery_watchedOnly d none s

/-- R146: the end of an interrupted delivery stops the interval of M4, which start-up has stopped already. -/
theorem endInterrupted_meter (hm : ∀ m, s.meter m = MeterCtl.started) (m : Meter) :
    (endInterrupted s).meter m = MeterCtl.started := by
  obtain he | he | ⟨d, he⟩ | ⟨d, he⟩ := endInterrupted_cases s <;> rw [he]
  · exact hm m
  · exact ((cancelDelivery_touches s).meter m).trans (hm m)
  · rw [(recordDelivery_touches _ _ _).meter, creditDelivery_meter]
    by_cases h4 : m = .m4
    · subst h4
      refine (State.meter_putMeter _ s).trans ?_
      rw [hm]; rfl
    · exact (State.meter_putMeter_ne _ s h4).trans (hm m)
  · exact ((recordDelivery_touches _ _ _).meter m).trans (hm m)

/-- R146: the end of an interrupted delivery stops the drain timers, which start-up has stopped already. -/
theorem endInterrupted_inlet (hi : s.inlet = Inlet.started) : (endInterrupted s).inlet = Inlet.started := by
  obtain he | he | ⟨d, he⟩ | ⟨d, he⟩ := endInterrupted_cases s <;> rw [he]
  · exact hi
  · exact ((cancelDelivery_touches s) .inlet (by decide)).trans hi
  · rw [(recordDelivery_touches _ _ _) .inlet (by decide), creditDelivery_inlet, hi]; rfl
  · exact ((recordDelivery_touches _ _ _) .inlet (by decide)).trans hi

end Sys2Proof.Machine
end

section
/-! PROOF. Start-up and the loss of power (R19, R46, R101, R117, R127, R133, R146, R150, R151, R158, R173): the closes
of what was interrupted, and what start-up does after them. -/

namespace Sys2Proof.Machine

variable {clock : Stamp} {s t a b : State} {h g : Hose} {c : Comp} {d : Delivery}

/-! ## What a close of an interrupted operation leaves -/

theorem FillLost.tx_self (f : FillLost h s t) : t.tx h = none := by
  cases ht : s.tx h with
  | none => rw [f.1 ht, ht]
  | some tx =>
    obtain ⟨⟨hx, -⟩, -⟩ := f.2 tx ht
    exact hx

theorem FillLost.tx_ne (f : FillLost h s t) (hg : g ≠ h) : t.tx g = s.tx g := by
  cases ht : s.tx h with
  | none => rw [f.1 ht]
  | some tx =>
    obtain ⟨-, -, -, hx, -⟩ := f.2 tx ht
    exact hx g hg

theorem FillLost.delivery (f : FillLost h s t) : t.store.delivery = s.store.delivery := by
  cases ht : s.tx h with
  | none => rw [f.1 ht]
  | some tx =>
    obtain ⟨-, -, -, -, -, -, -, ho⟩ := f.2 tx ht
    exact ho .delivery (by decide)

/-- R148, R151: the log keeps its records, and each context gives its commitment up. -/
theorem FillLost.log (f : FillLost h s t) :
    s.store.log.records <+: t.store.log.records ∧
      t.store.log.commitments = s.store.log.commitments - if (s.tx h).isSome then 1 else 0 := by
  cases ht : s.tx h with
  | none => rw [f.1 ht]; exact ⟨List.prefix_rfl, rfl⟩
  | some tx =>
    obtain ⟨⟨-, ⟨r, hl, -⟩, -⟩, -⟩ := f.2 tx ht
    rw [hl]; exact ⟨List.prefix_append _ _, rfl⟩

/-- What the three ends of an interrupted delivery have in common. -/
theorem DeliveryLost.ended (f : DeliveryLost s t) (hd : s.store.delivery = some d) :
    t.store.delivery = none ∧ s.store.log.records <+: t.store.log.records ∧
      t.store.log.commitments = s.store.log.commitments - 1 ∧ t.store.txs = s.store.txs := by
  obtain ⟨hpre, hcount, hpost⟩ := f.2 d hd
  cases hs : d.state
  case preGauge =>
    obtain ⟨hn, hl, -, -, ho⟩ := hpre hs
    rw [hl]; exact ⟨hn, List.prefix_rfl, rfl, ho .txs (by decide)⟩
  case postGauge =>
    obtain ⟨⟨hn, ⟨r, hl, -⟩, -⟩, -, ho⟩ := hpost hs
    rw [hl]; exact ⟨hn, List.prefix_append _ _, rfl, ho .txs (by decide)⟩
  all_goals
    obtain ⟨⟨hn, ⟨r, hl, -⟩, -⟩, -, -, -, -, -, ho⟩ := hcount (by rw [hs]; simp)
    rw [hl]; exact ⟨hn, List.prefix_append _ _, rfl, ho .txs (by decide)⟩

theorem DeliveryLost.delivery (f : DeliveryLost s t) : t.store.delivery = none := by
  cases hd : s.store.delivery with
  | none => rw [f.1 hd, hd]
  | some d => exact (f.ended hd).1

theorem DeliveryLost.txs (f : DeliveryLost s t) : t.store.txs = s.store.txs := by
  cases hd : s.store.delivery with
  | none => rw [f.1 hd]
  | some d =>
    obtain ⟨-, -, -, hx⟩ := f.ended hd
    exact hx

theorem DeliveryLost.log (f : DeliveryLost s t) :
    s.store.log.records <+: t.store.log.records ∧
      t.store.log.commitments = s.store.log.commitments - if s.store.delivery.isSome then 1 else 0 := by
  cases hd : s.store.delivery with
  | none => rw [f.1 hd]; exact ⟨List.prefix_rfl, rfl⟩
  | some d =>
    obtain ⟨-, hp, hc, -⟩ := f.ended hd
    exact ⟨hp, hc⟩

theorem perHose_eq_all_none {α : Type} {p : PerHose (Option α)} (hp : ∀ h, p.get h = none) :
    p = .all none := by
  obtain ⟨x, y, z⟩ := p
  have hx : x = none := hp .h1
  have hy : y = none := hp .h2
  have hz : z = none := hp .h3
  rw [hx, hy, hz]; rfl

/-- R151: the commitments of the stored contexts, given up one after the other, leave none. -/
theorem contextCount_released (s : State) :
    contextCount s.store - (if (s.tx .h1).isSome then 1 else 0) - (if (s.tx .h2).isSome then 1 else 0) -
      (if (s.tx .h3).isSome then 1 else 0) - (if s.store.delivery.isSome then 1 else 0) = 0 := by
  change (if (s.tx .h1).isSome then 1 else 0) + (if (s.tx .h2).isSome then 1 else 0) +
    (if (s.tx .h3).isSome then 1 else 0) + (if s.store.delivery.isSome then 1 else 0) - _ - _ - _ - _ = 0
  omega

/-- R101, R146, R148, R151: after the closes no context is left, no slot is committed, and the records stand at the
front of the log. -/
theorem OperationsClosed.settled (o : OperationsClosed clock s a) :
    a.store.txs = .all none ∧ a.store.delivery = none ∧ a.store.log.commitments = 0 ∧
      s.store.log.records <+: a.store.log.records := by
  obtain ⟨s₀, s₁, s₂, s₃, hst, -, -, -, -, f1, f2, f3, fd⟩ := o
  have tx2 : s₁.tx .h2 = s.tx .h2 := by rw [f1.tx_ne (by decide), State.tx, hst]
  have tx3 : s₂.tx .h3 = s.tx .h3 := by rw [f2.tx_ne (by decide), f1.tx_ne (by decide), State.tx, hst]
  have del : s₃.store.delivery = s.store.delivery := by
    rw [f3.delivery, f2.delivery, f1.delivery, hst]
  have tx1 : s₀.tx .h1 = s.tx .h1 := by rw [State.tx, hst]
  obtain ⟨p1, c1⟩ := f1.log
  obtain ⟨p2, c2⟩ := f2.log
  obtain ⟨p3, c3⟩ := f3.log
  obtain ⟨pd, cd⟩ := fd.log
  refine ⟨perHose_eq_all_none fun g => ?_, fd.delivery, ?_, ?_⟩
  · rw [fd.txs]
    cases g with
    | h1 => exact (f3.tx_ne (by decide)).trans ((f2.tx_ne (by decide)).trans f1.tx_self)
    | h2 => exact (f3.tx_ne (by decide)).trans f2.tx_self
    | h3 => exact f3.tx_self
  · have c0 : s₀.store.log.commitments = contextCount s.store := congrArg (fun x => x.log.commitments) hst
    rw [tx1] at c1
    rw [tx2] at c2
    rw [tx3] at c3
    rw [del] at cd
    rw [cd, c3, c2, c1, c0]
    exact contextCount_released s
  · rw [hst] at p1
    exact (p1.trans p2).trans (p3.trans pd)

/-- R101, R146: with no stored context the closes do nothing. -/
theorem OperationsClosed.store_of_none (o : OperationsClosed clock s a) (ht : ∀ h, s.tx h = none)
    (hd : s.store.delivery = none) :
    ∃ n, a.store = { s.store with log := { s.store.log with commitments := n } } := by
  obtain ⟨s₀, s₁, s₂, s₃, hst, -, -, -, -, f1, f2, f3, fd⟩ := o
  have tx : ∀ h, s₀.tx h = none := fun h => by rw [State.tx, hst]; exact ht h
  have e1 : s₁ = s₀ := f1.1 (tx .h1)
  subst e1
  have e2 : s₂ = s₁ := f2.1 (tx .h2)
  subst e2
  have e3 : s₃ = s₂ := f3.1 (tx .h3)
  subst e3
  have e4 : a = s₃ := fd.1 (by rw [hst]; exact hd)
  subst e4
  exact ⟨_, hst⟩

/-! ## The closes in the model (R101, R151) -/

/-- The state from which start-up closes what was interrupted. -/
def closesFrom (clock : Stamp) (s : State) : State := recountCommitments (volatileStart clock s)

/-- The state in which start-up has closed what was interrupted. -/
def closedFrom (clock : Stamp) (s : State) : State := closeOperations (closesFrom clock s)

theorem closedFrom_closed (clock : Stamp) (s : State) : OperationsClosed clock s (closedFrom clock s) :=
  ⟨closesFrom clock s, _, _, _, rfl, rfl, rfl, rfl, fun c => by cases c <;> rfl,
    closeInterrupted_lost .h1 _, closeInterrupted_lost .h2 _, closeInterrupted_lost .h3 _,
    endInterrupted_lost _⟩

/-- The parts that the closes can change. -/
abbrev closeParts : List Part := [.txs, .machines, .accounts, .shift] ++ lostDeliveryParts

theorem closedFrom_touches (clock : Stamp) (s : State) :
    OnlyIn closeParts (closesFrom clock s) (closedFrom clock s) :=
  ((((closeInterrupted_touches _ _).mono (by decide)).then (closeInterrupted_touches _ _) (by decide)).then
    (closeInterrupted_touches _ _) (by decide)).then (endInterrupted_touches _) (by decide)

theorem closedFrom_watchedOnly (clock : Stamp) (s : State) :
    WatchedOnly (closesFrom clock s) (closedFrom clock s) :=
  (((closeInterrupted_watchedOnly _ _).trans (closeInterrupted_watchedOnly _ _)).trans
    (closeInterrupted_watchedOnly _ _)).trans (endInterrupted_watchedOnly _)

/-- The fills closed, before the delivery is. -/
theorem fillsClosed_touches (s : State) :
    OnlyIn lostFillParts s (closeInterrupted .h3 (closeInterrupted .h2 (closeInterrupted .h1 s))) :=
  ((closeInterrupted_touches _ _).trans (closeInterrupted_touches _ _)).trans (closeInterrupted_touches _ _)

theorem closedFrom_meter (clock : Stamp) (s : State) (m : Meter) :
    (closedFrom clock s).meter m = MeterCtl.started :=
  endInterrupted_meter (fun m => ((fillsClosed_touches _).meter m).trans (PerMeter.get_all _ m)) m

theorem closedFrom_inlet (clock : Stamp) (s : State) : (closedFrom clock s).inlet = Inlet.started :=
  endInterrupted_inlet ((fillsClosed_touches _) .inlet (by decide))

/-! ## The queued updates (R46) -/

/-- R41, R45: an update changes its own entry alone. -/
theorem applyContents_machine (u : Update) (k : Nat) (s : State) :
    (applyContents u s).machine k =
      if u.entry = k then updatedEntry (s.machine k) u else s.machine k := by
  by_cases hk : u.entry = k
  · subst hk
    rw [if_pos rfl]
    unfold applyContents updatedEntry
    cases u.contents with
    | none => exact tableFind_tableErase_self _ _
    | some f =>
      dsimp only [Option.map_some]
      unfold writeEntry
      cases s.machine u.entry with
      | none => exact tableFind_tablePut_self _ _ _
      | some m => exact tableFind_tablePut_self _ _ _
  · have hk' : k ≠ u.entry := fun e => hk e.symm
    rw [if_neg hk]
    unfold applyContents
    cases u.contents with
    | none => exact tableFind_tableErase_ne _ hk'
    | some f =>
      dsimp only
      unfold writeEntry
      split <;> exact tableFind_tablePut_ne _ _ hk'

theorem applyAll_machine (l : List Update) (k : Nat) (s : State) :
    (l.foldl (fun s u => applyContents u s) s).machine k =
      (l.filter fun u => decide (u.entry = k)).foldl updatedEntry (s.machine k) := by
  induction l generalizing s with
  | nil => rfl
  | cons u l ih =>
    rw [List.foldl_cons, ih, applyContents_machine]
    by_cases hk : u.entry = k
    · rw [if_pos hk, List.filter_cons_of_pos (by simpa using hk), List.foldl_cons]
    · rw [if_neg hk, List.filter_cons_of_neg (by simpa using hk)]

/-- R46: start-up applies the updates of an entry in queue order. -/
theorem applyQueue_machine (k : Nat) (s : State) :
    (applyQueue s).machine k =
      (s.store.queue.filter fun u => decide (u.entry = k)).foldl updatedEntry (s.machine k) :=
  applyAll_machine _ k s

/-! ## The hoses and the integrity check (R101, R173) -/

/-- R101: the hoses take their states. -/
def startHoses (s : State) : State := startHose .h3 (startHose .h2 (startHose .h1 s))

theorem startHoses_hose (g : Hose) (s : State) :
    (startHoses s).hose g =
      .atRest (startedState (s.config g).enabled (s.inputs.lifted.get g)) := by
  cases g <;> rfl

theorem startHoses_touches (s : State) : OnlyIn [.hoses] s (startHoses s) :=
  ((only_setHoses _ s).trans (only_setHoses _ _)).trans (only_setHoses _ _)

theorem startedState_not_stoppable (enabled lifted : Bool) :
    (startedState enabled lifted).stoppable = false := by
  cases enabled <;> cases lifted <;> rfl

/-- A condition does not reach hoses that neither wait nor fill. -/
theorem strikeAll_not_stoppable (cause : StopCause) (r : Reason) (hs : List Hose)
    (hr : ∀ h, (s.hose h).state.stoppable = false) : strikeAll cause r hs s = s := by
  induction hs with
  | nil => rfl
  | cons h hs ih =>
    rw [strikeAll, List.foldl_cons, strike_of_else (.inr (hr h))]
    exact ih

/-- R173: an integrity check that no hose feels: the state is in FAULT, and the alarm raised, where the check value
does not match. -/
theorem integrityCheck_not_stoppable (hr : ∀ h, (s.hose h).state.stoppable = false)
    (hf : s.guard.fault = false) :
    integrityCheck s =
      raiseIf (!checkMatches s) .metrologyFault (s.setGuard { s.guard with fault := !checkMatches s }) := by
  cases hm : checkMatches s with
  | true =>
    have hg : { s.guard with fault := !true } = s.guard := by rw [Bool.not_true, ← hf]
    rw [integrityCheck, hm, Bool.or_true, if_pos rfl, hg]; rfl
  | false =>
    rw [integrityCheck, hm, hf]
    exact strikeAll_not_stoppable _ _ _ hr

theorem raiseIf_touches (active : Bool) (al : Alarm) (s : State) :
    OnlyIn [.alarms] s (raiseIf active al s) := by
  unfold raiseIf
  exact .ite (raiseAlarm_touches _ _) (.refl _ _)

/-- R192: the row of an alarm is pending after a raise, or where it was before. -/
theorem raiseIf_pending (active : Bool) (al : Alarm) (k : Nat) (s : State) :
    (tableFind (raiseIf active al s).alarms k).isSome =
      (active && decide (k = al.row) || (tableFind s.alarms k).isSome) := by
  cases active with
  | false => rfl
  | true =>
    by_cases hk : k = al.row
    · subst hk
      simp [raiseIf, find_raiseAlarm_self]
    · simp [raiseIf, find_raiseAlarm_ne hk, hk]

theorem raiseIf_otherAlarms (active : Bool) (al : Alarm) (s : State) :
    OtherAlarms [al] s (raiseIf active al s) := by
  unfold raiseIf
  split
  · exact raiseAlarm_otherAlarms _ _
  · exact .refl _ _

/-! ## The input levels (R108, R139, R165) -/

theorem takeInputs_touches (s : State) : OnlyIn [.alarms] s (takeInputs s) :=
  (((raiseIf_touches _ _ _).trans (raiseIf_touches _ _ _)).trans (raiseIf_touches _ _ _)).trans
    (raiseIf_touches _ _ _)

/-- The alarms that the input levels raise. -/
def inputAlarms : List Alarm := [.emergency, .overfill .c1, .overfill .c2, .sealOpen]

theorem takeInputs_otherAlarms (s : State) : OtherAlarms inputAlarms s (takeInputs s) :=
  ((((raiseIf_otherAlarms _ _ _).mono (by decide)).trans ((raiseIf_otherAlarms _ _ _).mono (by decide))).trans
    ((raiseIf_otherAlarms _ _ _).mono (by decide))).trans ((raiseIf_otherAlarms _ _ _).mono (by decide))

theorem takeInputs_pending (k : Nat) (s : State) :
    (tableFind (takeInputs s).alarms k).isSome =
      (s.inputs.sealOpen && decide (k = Alarm.sealOpen.row) ||
        (s.inputs.overfill.c2 && decide (k = (Alarm.overfill .c2).row) ||
          (s.inputs.overfill.c1 && decide (k = (Alarm.overfill .c1).row) ||
            (s.inputs.emergency && decide (k = Alarm.emergency.row) || (tableFind s.alarms k).isSome)))) := by
  simp only [takeInputs, raiseIf_pending]

/-! ## Start-up after the closes -/

/-- What start-up does after the closes, up to the integrity check: the near-full watch, the queue, the hoses and
STALE. -/
def staled (a : State) : State := setStale .c2 (setStale .c1 (startHoses (applyQueue (watchLog a))))

/-- The low-stock watches of both compartments. -/
def watchStocks (s : State) : State := watchStock .c2 (watchStock .c1 s)

/-- What start-up does after the closes. -/
def started (a : State) : State := takeInputs (watchStocks (integrityCheck (staled a)))

theorem startUpAt_eq (clock : Stamp) (s : State) : startUpAt clock s = started (closedFrom clock s) := rfl

theorem staled_touches (a : State) :
    OnlyIn [.logWatch, .alarms, .machines, .queue, .hoses, .comps] a (staled a) :=
  (((((watchLog_touches a).mono (by decide)).then (applyQueue_touches _) (by decide)).then
    (startHoses_touches _) (by decide)).then (setStale_touches _ _) (by decide)).then
    (setStale_touches _ _) (by decide)

/-- After the near-full watch nothing up to the integrity check raises an alarm. -/
theorem staled_after_watchLog (a : State) :
    OnlyIn [.machines, .queue, .hoses, .comps] (watchLog a) (staled a) :=
  ((((applyQueue_touches _).mono (by decide)).then (startHoses_touches _) (by decide)).then
    (setStale_touches _ _) (by decide)).then (setStale_touches _ _) (by decide)

theorem staled_watchedOnly (a : State) : WatchedOnly a (staled a) :=
  (watchLog_watchedOnly a).trans (staled_after_watchLog a).watchedOnly

theorem staled_hose (g : Hose) (a : State) :
    (staled a).hose g = .atRest (startedState (a.config g).enabled (a.inputs.lifted.get g)) := by
  have before : OnlyIn [.logWatch, .alarms, .machines, .queue] a (applyQueue (watchLog a)) :=
    ((watchLog_touches a).mono (by decide)).then (applyQueue_touches _) (by decide)
  refine (startHoses_hose g (applyQueue (watchLog a))).trans ?_
  rw [State.config, before .hoseConfigs (by decide), before .inputs (by decide)]

theorem staled_comp (c : Comp) (a : State) :
    (staled a).comp c = { a.comp c with gauging := { (a.comp c).gauging with stale := true } } := by
  have before : OnlyIn [.logWatch, .alarms, .machines, .queue, .hoses] a
      (startHoses (applyQueue (watchLog a))) :=
    (((watchLog_touches a).mono (by decide)).then (applyQueue_touches _) (by decide)).then
      (startHoses_touches _) (by decide)
  have both (s : State) : (setStale .c2 (setStale .c1 s)).comp c =
      { s.comp c with gauging := { (s.comp c).gauging with stale := true } } := by cases c <;> rfl
  rw [staled, both, before.comp]

theorem staled_machine (k : Nat) (a : State) :
    (staled a).machine k =
      (a.store.queue.filter fun u => decide (u.entry = k)).foldl updatedEntry (a.machine k) := by
  have before := watchLog_touches a
  refine (applyQueue_machine k (watchLog a)).trans ?_
  rw [before .queue (by decide), before.machine]

/-- R173: the integrity check of a start-up, over hoses at rest. -/
theorem integrityCheck_staled (hf : a.guard.fault = false) :
    integrityCheck (staled a) = raiseIf (!checkMatches a) .metrologyFault
      ((staled a).setGuard { a.guard with fault := !checkMatches a }) := by
  have ho := staled_touches a
  have hg : (staled a).guard = a.guard := ho .guard (by decide)
  have hm : checkMatches (staled a) = checkMatches a := by
    rw [checkMatches, ho .cal (by decide)]; rfl
  rw [integrityCheck_not_stoppable (fun h => by rw [staled_hose]; exact startedState_not_stoppable _ _)
    (by rw [hg]; exact hf), hm, hg]

theorem integrityCheck_staled_touches (hf : a.guard.fault = false) :
    OnlyIn [.guard, .alarms] (staled a) (integrityCheck (staled a)) := by
  rw [integrityCheck_staled hf]
  exact ((only_setGuard _ _).mono (by decide)).then (raiseIf_touches _ _ _) (by decide)

theorem integrityCheck_staled_otherAlarms (hf : a.guard.fault = false) :
    OtherAlarms [.metrologyFault] (staled a) (integrityCheck (staled a)) := by
  rw [integrityCheck_staled hf]
  exact (only_setGuard _ _).otherAlarms.trans (raiseIf_otherAlarms _ _ _)

theorem watchStocks_touches (s : State) : OnlyIn [.units, .alarms] s (watchStocks s) :=
  (watchStock_touches _ _).trans (watchStock_touches _ _)

theorem watchStocks_watchedOnly (s : State) : WatchedOnly s (watchStocks s) :=
  (watchStock_watchedOnly _ _).trans (watchStock_watchedOnly _ _)

theorem watchStocks_otherAlarms (s : State) :
    OtherAlarms [.lowStock .c1, .lowStock .c2] s (watchStocks s) :=
  ((watchStock_otherAlarms _ _).mono (by decide)).trans ((watchStock_otherAlarms _ _).mono (by decide))

/-- R117: both low-stock watches are evaluated; neither is felt by the other. -/
theorem watchStocks_watched (c : Comp) (s : State) : LowStockWatched c s (watchStocks s) := by
  have h1 := watchStock_touches .c1 s
  have h2 := watchStock_touches .c2 (watchStock .c1 s)
  cases c with
  | c1 =>
    exact (watchStock_watched .c1 s).congr rfl rfl rfl
      (congrArg CompUnit.armed (watchStock_unit_ne _ (by decide)))
      (congrArg Compartment.book (h2.comp _)) (congrArg Compartment.lowStock (h2.comp _))
      (watchStock_otherAlarms .c2 _ _ (by decide))
  | c2 =>
    exact (watchStock_watched .c2 (watchStock .c1 s)).congr
      (congrArg CompUnit.armed (watchStock_unit_ne s (by decide)).symm) (h1 .clock (by decide)).symm
      (watchStock_otherAlarms .c1 s _ (by decide)).symm rfl rfl rfl rfl

/-! ## The whole of it -/

/-- The parts that start-up can change after the closes. -/
abbrev startParts : List Part :=
  [.logWatch, .machines, .queue, .hoses, .comps, .guard, .units, .alarms]

/-- After STALE start-up changes the guard, the watch flags and the alarms alone. -/
theorem started_after_staled (hf : a.guard.fault = false) :
    OnlyIn [.guard, .units, .alarms] (staled a) (started a) :=
  (((integrityCheck_staled_touches hf).mono (by decide)).then (watchStocks_touches _) (by decide)).then
    (takeInputs_touches _) (by decide)

theorem started_touches (hf : a.guard.fault = false) : OnlyIn startParts a (started a) :=
  ((staled_touches a).mono (by decide)).then (started_after_staled hf) (by decide)

/-- After STALE start-up raises the alarms of the guard, of the low-stock watches and of the inputs alone. -/
theorem started_otherAlarms (hf : a.guard.fault = false) :
    OtherAlarms ([.metrologyFault, .lowStock .c1, .lowStock .c2] ++ inputAlarms) (staled a) (started a) :=
  (((integrityCheck_staled_otherAlarms hf).mono (by decide)).trans
    ((watchStocks_otherAlarms _).mono (by decide))).trans ((takeInputs_otherAlarms _).mono (by decide))

theorem started_guard (hf : a.guard.fault = false) :
    (started a).guard = { a.guard with fault := !checkMatches a } := by
  rw [started, (takeInputs_touches _) .guard (by decide), (watchStocks_touches _) .guard (by decide),
    integrityCheck_staled hf, (raiseIf_touches _ _ _) .guard (by decide)]
  rfl

theorem started_unit (hf : a.guard.fault = false) (c : Comp) :
    ((started a).unit c).run = (a.unit c).run ∧ ((started a).unit c).level = (a.unit c).level := by
  have check := (integrityCheck_staled_touches hf).unit c
  have stocks := (watchStocks_watchedOnly (integrityCheck (staled a))).unit c
  have before := (staled_watchedOnly a).unit c
  rw [started, (takeInputs_touches _).unit]
  rw [check] at stocks
  exact ⟨stocks.1.trans before.1, stocks.2.trans before.2⟩

/-- R150: the near-full watch of a start-up is the evaluation that follows the closes. -/
theorem started_logWatched (hf : a.guard.fault = false) : LogWatched a (started a) := by
  have after : OnlyIn [.machines, .queue, .hoses, .comps, .guard, .units, .alarms] (watchLog a) (started a) :=
    ((staled_after_watchLog a).mono (by decide)).then (started_after_staled hf) (by decide)
  exact (watchLog_watched a).congr rfl rfl rfl (congrArg LogWatch.armed (after .logWatch (by decide)))
    (after .log (by decide))
    ((started_otherAlarms hf _ (by decide)).trans ((staled_after_watchLog a).row _))

/-- R117: the low-stock watches of a start-up are evaluated once the books stand. -/
theorem started_lowStockWatched (hf : a.guard.fault = false) (c : Comp) :
    LowStockWatched c a (started a) := by
  have st := staled_touches a
  have ch := integrityCheck_staled_touches hf
  have ti := takeInputs_touches (watchStocks (integrityCheck (staled a)))
  have rows : ∀ al ∈ [Alarm.lowStock .c1, .lowStock .c2],
      tableFind (integrityCheck (staled a)).alarms al.row = tableFind a.alarms al.row := by
    intro al hal
    refine (integrityCheck_staled_otherAlarms hf _ ?_).trans
      (((staled_after_watchLog a).row _).trans (watchLog_otherAlarms a _ ?_)) <;>
    · revert al; decide
  refine (watchStocks_watched c (integrityCheck (staled a))).congr
    (congrArg CompUnit.armed ((ch.unit c).trans (st.unit c)).symm)
    ((ch .clock (by decide)).trans (st .clock (by decide))).symm
    (rows (.lowStock c) (by cases c <;> decide)).symm
    (congrArg CompUnit.armed (ti.unit c)) (congrArg Compartment.book (ti.comp c))
    (congrArg Compartment.lowStock (ti.comp c))
    (takeInputs_otherAlarms _ _ (by cases c <;> decide))

/-- R192: the rows that start-up leaves pending, but for those of the watches. -/
theorem started_pending (hf : a.guard.fault = false) {k : Nat} (hk : k ∉ watchAlarms.map Alarm.row) :
    (tableFind (started a).alarms k).isSome =
      (a.inputs.sealOpen && decide (k = Alarm.sealOpen.row) ||
        (a.inputs.overfill.c2 && decide (k = (Alarm.overfill .c2).row) ||
          (a.inputs.overfill.c1 && decide (k = (Alarm.overfill .c1).row) ||
            (a.inputs.emergency && decide (k = Alarm.emergency.row) ||
              (!checkMatches a && decide (k = Alarm.metrologyFault.row) ||
                (tableFind a.alarms k).isSome))))) := by
  have inputs : (watchStocks (integrityCheck (staled a))).inputs = a.inputs :=
    ((watchStocks_touches _) .inputs (by decide)).trans
      (((integrityCheck_staled_touches hf) .inputs (by decide)).trans
        ((staled_touches a) .inputs (by decide)))
  have stocks : tableFind (watchStocks (integrityCheck (staled a))).alarms k =
      tableFind (integrityCheck (staled a)).alarms k := (watchStocks_watchedOnly _).alarms k hk
  have before : tableFind (staled a).alarms k = tableFind a.alarms k := (staled_watchedOnly a).alarms k hk
  rw [started, takeInputs_pending, inputs, stocks, integrityCheck_staled hf, raiseIf_pending]
  rw [← before]
  rfl

/-- R46, R101, R117, R127, R150: what start-up leaves in the store after the closes. -/
theorem started_storeStarted (hf : a.guard.fault = false) (ht : a.store.txs = .all none)
    (hd : a.store.delivery = none) : StoreStarted a (started a) := by
  have after := started_after_staled hf
  have all := started_touches hf
  refine ⟨fun k => (after.machine k).trans (staled_machine k a), fun c => (after.comp c).trans (staled_comp c a),
    ?_, started_logWatched hf, started_lowStockWatched hf⟩
  have queue : (started a).store.queue = [] := after .queue (by decide)
  rw [← queue, ← ht, ← hd]
  dsimp only
  rw [← all .accounts (by decide), ← all .hoseConfigs (by decide), ← all .txs (by decide),
    ← all .pumpConfigs (by decide), ← all .delivery (by decide), ← all .selector (by decide),
    ← all .log (by decide), ← all .shift (by decide), ← all .cal (by decide), ← all .site (by decide)]

end Sys2Proof.Machine
end

section
/-! PROOF. The whole start-up, and O8. -/

namespace Sys2Proof.Machine

variable {clock : Stamp} {s t a : State} {c : Comp}

/-! ## From the volatile start to the end of start-up -/

theorem closedFrom_guard (clock : Stamp) (s : State) : (closedFrom clock s).guard = Guard.started :=
  (closedFrom_touches clock s) .guard (by decide)

theorem closedFrom_no_fault (clock : Stamp) (s : State) : (closedFrom clock s).guard.fault = false := by
  rw [closedFrom_guard]; rfl

theorem checkMatches_closedFrom (clock : Stamp) (s : State) :
    checkMatches (closedFrom clock s) = checkMatches s := by
  rw [checkMatches, (closedFrom_touches clock s) .cal (by decide)]; rfl

/-- What the closes and the rest of start-up change of the volatile start. -/
theorem startUpAt_touches (clock : Stamp) (s : State) :
    OnlyIn (.queue :: .hoses :: .guard :: closeParts) (closesFrom clock s) (startUpAt clock s) :=
  ((closedFrom_touches clock s).mono (by decide)).then (started_touches (closedFrom_no_fault clock s))
    (by decide)

/-- The volatile start changes no input, setting or free value, and nothing of the store but the commitments. -/
theorem closesFrom_touches (clock : Stamp) (s : State) :
    OnlyIn [.log, .clock, .channels, .hoses, .meters, .sources, .pumps, .units, .inlet, .logWatch, .guard, .park,
      .link, .alarms, .power, .handed] s (closesFrom clock s) := by
  intro p hp
  cases p <;> first | rfl | simp at hp

/-- R192: the rows that a start-up leaves pending, but for those of the watches. -/
theorem startUpAt_pending (clock : Stamp) (s : State) {k : Nat} (hk : k ∉ watchAlarms.map Alarm.row) :
    (tableFind (startUpAt clock s).alarms k).isSome =
      (s.inputs.sealOpen && decide (k = Alarm.sealOpen.row) ||
        (s.inputs.overfill.c2 && decide (k = (Alarm.overfill .c2).row) ||
          (s.inputs.overfill.c1 && decide (k = (Alarm.overfill .c1).row) ||
            (s.inputs.emergency && decide (k = Alarm.emergency.row) ||
              !checkMatches s && decide (k = Alarm.metrologyFault.row))))) := by
  have inputs : (closedFrom clock s).inputs = s.inputs := (closedFrom_touches clock s) .inputs (by decide)
  have row : tableFind (closedFrom clock s).alarms k = none := (closedFrom_watchedOnly clock s).alarms k hk
  rw [startUpAt_eq, started_pending (closedFrom_no_fault clock s) hk, inputs, row,
    checkMatches_closedFrom, Option.isSome_none, Bool.or_false]

theorem startUpAt_guard (clock : Stamp) (s : State) :
    (startUpAt clock s).guard = { Guard.started with fault := !checkMatches s } := by
  rw [startUpAt_eq, started_guard (closedFrom_no_fault clock s), closedFrom_guard, checkMatches_closedFrom]

/-- The alarms that a start-up can leave pending. -/
theorem startUpAt_alarms (clock : Stamp) (s : State) :
    (tableFind (startUpAt clock s).alarms Alarm.metrologyFault.row).isSome = (startUpAt clock s).guard.fault ∧
      (tableFind (startUpAt clock s).alarms Alarm.emergency.row).isSome = s.inputs.emergency ∧
      (∀ c, (tableFind (startUpAt clock s).alarms (Alarm.overfill c).row).isSome = s.inputs.overfill.get c) ∧
      (tableFind (startUpAt clock s).alarms Alarm.sealOpen.row).isSome = s.inputs.sealOpen ∧
      ∀ k, k ∉ [Alarm.metrologyFault, .emergency, .overfill .c1, .overfill .c2, .sealOpen, .logNearFull,
        .lowStock .c1, .lowStock .c2].map Alarm.row → tableFind (startUpAt clock s).alarms k = none := by
  refine ⟨?_, ?_, fun c => ?_, ?_, fun k hk => ?_⟩
  · rw [startUpAt_pending clock s (by decide), startUpAt_guard]; simp [Alarm.row]
  · rw [startUpAt_pending clock s (by decide)]; simp [Alarm.row]
  · cases c <;> rw [startUpAt_pending clock s (by decide)] <;> simp [Alarm.row, PerComp.get]
  · rw [startUpAt_pending clock s (by decide)]; simp [Alarm.row]
  · have hw : k ∉ watchAlarms.map Alarm.row := fun m => hk (by
      simp only [watchAlarms, List.map_cons, List.map_nil, List.mem_cons, List.not_mem_nil, or_false] at m ⊢
      tauto)
    have none_of : (tableFind (startUpAt clock s).alarms k).isSome = false := by
      simp only [List.map_cons, List.map_nil, List.mem_cons, List.not_mem_nil, or_false, not_or] at hk
      obtain ⟨h1, h2, h3, h4, h5, -⟩ := hk
      simp [startUpAt_pending clock s hw, h1, h2, h3, h4, h5]
    simpa using none_of

/-- R101, R127, R133, R146, R151, R173, R175: the part after a start-up at any clock: after power-on, or after an
accepted RESTART. -/
theorem startUpAt_startedUp (clock : Stamp) (s : State) : StartedUp clock s (startUpAt clock s) := by
  have touches := startUpAt_touches clock s
  have closed := closedFrom_closed clock s
  obtain ⟨ht, hd, hn, hp⟩ := closed.settled
  have hf := closedFrom_no_fault clock s
  have rest := started_touches hf
  have store : StoreStarted (closedFrom clock s) (startUpAt clock s) := started_storeStarted hf ht hd
  have frozen := closedFrom_touches clock s
  have configs : (closedFrom clock s).store.hoseConfigs = s.store.hoseConfigs :=
    frozen .hoseConfigs (by decide)
  have inputs : (closedFrom clock s).inputs = s.inputs := frozen .inputs (by decide)
  have txs : (startUpAt clock s).store.txs = .all none := (rest .txs (by decide)).trans ht
  have log : (startUpAt clock s).store.log = (closedFrom clock s).store.log := rest .log (by decide)
  have guard := startUpAt_guard clock s
  refine ⟨touches .power (by decide), touches .clock (by decide), touches .inputs (by decide),
    touches .pending (by decide), touches .line (by decide), touches .handed (by decide),
    ((closesFrom_touches clock s).mono (by decide)).then touches (by decide), ⟨_, closed, store⟩,
    fun h => ⟨?_, ?_, ?_⟩, fun m => (rest.meter m).trans (closedFrom_meter clock s m), fun p => ?_,
    fun c => ⟨?_, ?_, ?_, ?_⟩, (rest .delivery (by decide)).trans hd, ?_, ?_, ?_, ?_,
    (rest .inlet (by decide)).trans (closedFrom_inlet clock s), touches .park (by decide),
    touches .link (by decide), ?_, ?_, ?_, startUpAt_alarms clock s⟩
  · rw [State.channel, touches .channels (by decide)]
    exact PerHose.get_all _ h
  · rw [State.tx, txs]
    exact PerHose.get_all _ h
  · refine ((started_after_staled hf).hose h).trans ((staled_hose h _).trans ?_)
    rw [State.config, configs, inputs]
    rfl
  · rw [State.source, touches .sources (by decide)]
    exact PerProbe.get_all _ p
  · exact (touches.pump c).trans (PerComp.get_all _ c)
  · refine ((started_unit hf c).1.trans ((closedFrom_watchedOnly clock s).unit c).1).trans ?_
    cases c <;> rfl
  · refine ((started_unit hf c).2.trans ((closedFrom_watchedOnly clock s).unit c).2).trans ?_
    cases c <;> rfl
  · obtain ⟨-, comps, -⟩ := store
    rw [comps]
  · obtain ⟨-, -, whole, -⟩ := store
    rw [whole]
  · rw [log]; exact hn
  · rw [log]; exact hp
  · have kept : (started (closedFrom clock s)).logWatch.kept = (staled (closedFrom clock s)).logWatch.kept :=
      congrArg LogWatch.kept ((started_after_staled hf) .logWatch (by decide))
    exact kept.trans ((staled_watchedOnly _).kept.trans (closedFrom_watchedOnly clock s).kept)
  · rw [guard]; rfl
  · rw [guard]; rfl
  · rw [guard]; simp [checkMatches]

/-- R19, R37, R52, R114, R127, R148, R160: a start-up over a store without an interrupted operation; it follows from
what every start-up does. -/
theorem StartedUp.storeStands (u : StartedUp clock s t) (ht : ∀ h, s.tx h = none)
    (hd : s.store.delivery = none) : StoreStands s t := by
  obtain ⟨-, -, -, -, -, -, -, ⟨a, closed, machines, comps, whole, -, -⟩, -⟩ := u
  obtain ⟨n, hst⟩ := closed.store_of_none ht hd
  refine ⟨fun k => ?_, ?_, ?_, ?_, fun c => ?_, fun hq k => ?_⟩
  · rw [State.account, whole, hst]
  · rw [whole, hst]
  · rw [whole, hst]
  · rw [whole, hst]
  · rw [comps, State.comp, hst]
  · rw [machines, hst, hq, State.machine, hst]
    rfl

/-! ## The obligation -/

theorem exec_startUp (s : State) : exec .startUp s = .next (startUpAt ⟨0, true⟩ s) := rfl

theorem exec_lossOfPower (s : State) : exec .lossOfPower s = .next (losePower s) := rfl

/-- R19: a loss of power leaves the store and the input levels, and every volatile block at its start-up value. -/
theorem losePower_volatile (s : State) :
    (∀ h, (losePower s).hose h = HoseCtl.atRest .idle ∧ (losePower s).channel h = Channel.started) ∧
      (∀ c, (losePower s).pump c = .off ∧ (losePower s).unit c = CompUnit.started) ∧
      (∀ m, (losePower s).meter m = MeterCtl.started) ∧ ∀ p, (losePower s).source p = Source.started :=
  ⟨fun h => ⟨PerHose.get_all _ h, PerHose.get_all _ h⟩, fun c => ⟨PerComp.get_all _ c, PerComp.get_all _ c⟩,
    fun m => PerMeter.get_all _ m, fun p => PerProbe.get_all _ p⟩

/-- Settles O8: the loss of power by the volatile start, START UP by `startUpAt_startedUp` at the unset clock of
power-on. -/
theorem powerLossAndStartUpKeepTheStore : Obligations.PowerLossAndStartUpKeepTheStore := by
  unfold Obligations.PowerLossAndStartUpKeepTheStore
  refine ⟨fun s => ?_, fun s => ?_⟩
  · obtain ⟨hoses, comps, meters, sources⟩ := losePower_volatile s
    exact ⟨_, exec_lossOfPower s, rfl, rfl, rfl, rfl, rfl, rfl, rfl, rfl, rfl, rfl, hoses, comps, meters, sources,
      rfl, rfl, rfl⟩
  · have up := startUpAt_startedUp ⟨0, true⟩ s
    exact ⟨_, exec_startUp s, up, up.storeStands⟩

end Sys2Proof.Machine
end

section
/-! PROOF. The tag channels (R26 to R34): what each class of frame and the expiry of the hold timer do at an enabled
channel, one equation each. -/

namespace Sys2Proof.Machine

variable {h : Hose} {id own cand : TagId} {n : Nat} {st : ChannelState} {r : Option TagReport} {restart : Bool}
  {s : State}

/-! ## Damaged frames (R28) -/

theorem exec_checkBad (hp : s.power = .on) (h : Hose) :
    exec (.checkBad h) s = .next (onChannel h Channel.onCheckBad s) :=
  congrArg Host.Outcome.next (if_pos (live_of_on hp))

theorem exec_badStart (hp : s.power = .on) (h : Hose) :
    exec (.badStart h) s = .next (onChannel h Channel.onBadStart s) :=
  congrArg Host.Outcome.next (if_pos (live_of_on hp))

/-- R24: a channel whose state is not OFF is enabled. -/
theorem channel_enabled (he : (s.channel h).state ≠ .off) : (s.channel h).enabled = true :=
  decide_eq_true he

theorem channel_not_enabled (ho : (s.channel h).state = .off) : ¬ (s.channel h).enabled = true := by
  simp [Channel.enabled, ho]

/-- R26 to R28: an enabled channel takes a class. -/
theorem onChannel_enabled (f : Channel → Channel) (he : (s.channel h).state ≠ .off) :
    onChannel h f s = s.putChannel h (f (s.channel h)) :=
  if_pos (channel_enabled he)

/-- R25: a channel that is OFF takes no class. -/
theorem onChannel_off (f : Channel → Channel) (ho : (s.channel h).state = .off) : onChannel h f s = s :=
  if_neg (channel_not_enabled ho)

/-- Settles O58: both classes go through `onChannel`, which an enabled channel takes and an OFF one does not. -/
theorem damagedFramesAreOnlyCounted : Obligations.DamagedFramesAreOnlyCounted := by
  unfold Obligations.DamagedFramesAreOnlyCounted
  intro h s hp
  refine ⟨fun he => ⟨?_, ?_⟩, fun ho => ⟨?_, ?_⟩⟩
  · rw [exec_checkBad hp, onChannel_enabled _ he]; rfl
  · rw [exec_badStart hp, onChannel_enabled _ he]; rfl
  · rw [exec_checkBad hp, onChannel_off _ ho]
  · rw [exec_badStart hp, onChannel_off _ ho]

/-! ## VALID frames (R26, R29 to R32) -/

/-- R30: the first ID of a search becomes the candidate. -/
theorem afterValid_searching (id : TagId) : afterValid .searching id = (.acquiring id 1, none, true) := rfl

/-- R30: the ID of the candidate, short of the third match. -/
theorem afterValid_match (hn : n ≠ 2) :
    afterValid (.acquiring id n) id = (.acquiring id (n + 1), none, true) := by
  simp [afterValid, hn]

/-- R30: the third match confirms the candidate. -/
theorem afterValid_third (id : TagId) :
    afterValid (.acquiring id 2) id = (.confirmed id none, some (.confirmed id), true) := by
  simp [afterValid]

/-- R30: another ID becomes the candidate. -/
theorem afterValid_replace (hc : cand ≠ id) :
    afterValid (.acquiring cand n) id = (.acquiring id 1, none, true) := by
  simp [afterValid, hc.symm]

/-- R31: the confirmed ID. -/
theorem afterValid_own (id : TagId) (chal : Option (TagId × Nat)) :
    afterValid (.confirmed id chal) id = (.confirmed id none, none, true) := by
  simp [afterValid]

/-- R32: an ID that is neither confirmed nor the challenger. -/
theorem afterValid_challenge {chal : Option (TagId × Nat)} (ho : own ≠ id) (hc : ∀ n, chal ≠ some (id, n)) :
    afterValid (.confirmed own chal) id = (.confirmed own (some (id, 1)), none, false) := by
  match chal with
  | none => simp [afterValid, ho.symm]
  | some (other, n) =>
    have hne : id ≠ other := fun e => hc n (by rw [e])
    simp [afterValid, ho.symm, hne]

/-- R32: the challenger, short of the third match. -/
theorem afterValid_challenger (ho : own ≠ id) (hn : n ≠ 2) :
    afterValid (.confirmed own (some (id, n))) id = (.confirmed own (some (id, n + 1)), none, false) := by
  simp [afterValid, ho.symm, hn]

/-- R32: the third match of the challenger replaces the confirmed ID. -/
theorem afterValid_changed (ho : own ≠ id) :
    afterValid (.confirmed own (some (id, 2))) id = (.confirmed id none, some (.changed id), true) := by
  simp [afterValid, ho.symm]

/-- R34: a report, where there is one, joins the events that wait. -/
theorem report_eq (h : Hose) (r : Option TagReport) (s : State) :
    report h r s = s.setHanded (s.handed ++ r.toList.map (.report h)) := by
  cases r with
  | none => simp [report, State.setHanded]
  | some r => rfl

theorem exec_valid_off (ho : (s.channel h).state = .off) (hp : s.power = .on) (id : TagId) :
    exec (.valid h id) s = .next s :=
  congrArg Host.Outcome.next ((if_pos (live_of_on hp)).trans (if_neg (channel_not_enabled ho)))

/-- R26, R29, R34: a VALID frame at an enabled channel, by what `afterValid` makes of the channel's state. -/
theorem exec_valid (hp : s.power = .on) (he : (s.channel h).state ≠ .off)
    (ha : afterValid (s.channel h).state id = (st, r, restart)) :
    exec (.valid h id) s = .next ((s.putChannel h { s.channel h with
      state := st
      run := 0
      hold := if restart then .running (s.config h).holdPeriod else (s.channel h).hold
      valids := min ((s.channel h).valids + 1) 65535 }).setHanded
        (s.handed ++ r.toList.map (.report h))) := by
  have taken : exec (.valid h id) s = .next (report h (afterValid (s.channel h).state id).2.1
      (s.putChannel h ((s.channel h).onValid (s.config h).holdPeriod id))) :=
    congrArg Host.Outcome.next ((if_pos (live_of_on hp)).trans (if_pos (channel_enabled he)))
  rw [taken, report_eq, Channel.onValid, ha]
  rfl

/-! ## INVERTED frames (R27) -/

theorem exec_inverted (hp : s.power = .on) (h : Hose) (id : TagId) :
    exec (.inverted h id) s = .next (takeInverted h s) :=
  congrArg Host.Outcome.next (if_pos (live_of_on hp))

/-- R27: an INVERTED frame short of the third in a run. -/
theorem takeInverted_counts (he : (s.channel h).state ≠ .off) (hr : (s.channel h).run ≠ 2) :
    takeInverted h s = s.putChannel h { s.channel h with run := (s.channel h).run + 1 } := by
  simp [takeInverted, channel_enabled he, Channel.onInverted, hr]

/-- R27: the third INVERTED frame in a run turns the polarity. -/
theorem takeInverted_turns (he : (s.channel h).state ≠ .off) (hr : (s.channel h).run = 2) :
    takeInverted h s = raiseAlarm (.tagPolarity h) (s.putChannel h { s.channel h with
      inverted := !(s.channel h).inverted
      run := 0
      switches := min ((s.channel h).switches + 1) 65535 }) := by
  simp [takeInverted, channel_enabled he, Channel.onInverted, hr, bump, Config.counterMax]

/-! ## The hold timer (R30, R33) -/

theorem exec_channelHoldTimerExpiry (hp : s.power = .on) (hn : (s.channel h).hold = .running n) :
    exec (.channelHoldTimerExpiry h) s =
      .next (report h (holdReport (s.channel h).state) (s.putChannel h (s.channel h).onHoldExpiry)) :=
  congrArg Host.Outcome.next (if_pos (by simp [live_of_on hp, hn, Timer.isRunning]))

/-- Settles O59: a VALID frame by the equation of `afterValid` for the channel's state, INVERTED by the run, the
expiry by the report that the state gives. -/
theorem channelsConfirmAndLoseTags : Obligations.ChannelsConfirmAndLoseTags := by
  unfold Obligations.ChannelsConfirmAndLoseTags
  intro h id s hp
  refine ⟨fun hc => exec_valid_off hc hp id, fun hc => ?_, fun cand n hc => ?_, fun own chal hc => ?_,
    fun he => ⟨fun hr => ?_, fun hr => ?_⟩, fun n hn => ⟨fun own chal hc => ?_, fun cand k hc => ?_⟩⟩
  · exact exec_valid hp (he := by simp [hc]) (hc ▸ afterValid_searching id)
  · have he : (s.channel h).state ≠ .off := by simp [hc]
    refine ⟨fun ho => ?_, ?_, ?_⟩
    · exact exec_valid hp he (hc ▸ afterValid_replace ho)
    · rintro rfl hn
      exact exec_valid hp he (hc ▸ afterValid_match hn)
    · rintro rfl rfl
      exact exec_valid hp he (hc ▸ afterValid_third _)
  · have he : (s.channel h).state ≠ .off := by simp [hc]
    refine ⟨?_, fun ho hch => ?_, ?_, ?_⟩
    · rintro rfl
      exact exec_valid hp he (hc ▸ afterValid_own _ _)
    · exact exec_valid hp he (hc ▸ afterValid_challenge ho hch)
    · rintro n ho rfl hn
      exact exec_valid hp he (hc ▸ afterValid_challenger ho hn)
    · rintro ho rfl
      exact exec_valid hp he (hc ▸ afterValid_changed ho)
  · rw [exec_inverted hp, takeInverted_counts he hr]
  · rw [exec_inverted hp, takeInverted_turns he hr]
  · rw [exec_channelHoldTimerExpiry hp hn, hc]; rfl
  · rw [exec_channelHoldTimerExpiry hp hn, hc]; rfl

end Sys2Proof.Machine
end

section
/-! PROOF. The requests with one number (R35, R97, R100, R106, R116, R119, R130, R132): the number names a hose or a
compartment or is refused with RANGE, and a read answers with its fields. -/

namespace Sys2Proof.Machine

variable {h : Hose} {c : Comp} {n k : Nat} {s t : State} {tag : SeqTag} {b : Septet}
  {owner : Nat → State → Owned} {fields : List Field} {r : RefusalCode}

/-! ## Numbers on the line -/

@[simp] theorem parseCount_single (b : Septet) : parseCount [b] = some b.toNat := by
  simp [parseCount, readCount, readGroups, atEnd]

@[simp] theorem hoseOfNumber_hoseNumber (h : Hose) : hoseOfNumber (hoseNumber h) = some h := by
  cases h <;> rfl

@[simp] theorem compOfNumber_compNumber (c : Comp) : compOfNumber (compNumber c) = some c := by
  cases c <;> rfl

theorem hoseOfNumber_eq_none (hn : n = 0 ∨ 3 < n) : hoseOfNumber n = none := by
  match n, hn with
  | 0, _ => rfl
  | 1, hn | 2, hn | 3, hn => simp at hn
  | _ + 4, _ => rfl

theorem compOfNumber_eq_none (hn : n = 0 ∨ 2 < n) : compOfNumber n = none := by
  match n, hn with
  | 0, _ => rfl
  | 1, hn | 2, hn => simp at hn
  | _ + 3, _ => rfl

/-- R187, R188: a ready part answers a request with one number that its owner accepts. -/
theorem countRequest_ok (hr : Ready s) (ho : owner b.toNat (heard s) = .ok (t, fields)) :
    takeRequest tag k parseCount [b] owner s = replied (.answer tag (BitVec.ofNat 7 k) fields) t :=
  takeRequest_ok hr (parseCount_single b) ho

/-- R187, R188: a ready part refuses a request with one number that its owner does not accept. -/
theorem countRequest_error (hr : Ready s) (ho : owner b.toNat (heard s) = .error r) :
    takeRequest tag k parseCount [b] owner s = refused tag r (BitVec.ofNat 7 k) s :=
  takeRequest_error hr (parseCount_single b) ho

/-! ## The reads of a hose -/

theorem ownTagChannelRead_hose (hn : n = hoseNumber h) (s : State) :
    ownTagChannelRead n s = .ok (s, channelFields h s) := by
  simp only [ownTagChannelRead, hn, hoseOfNumber_hoseNumber]

theorem ownHoseSettingsRead_hose (hn : n = hoseNumber h) (s : State) :
    ownHoseSettingsRead n s = .ok (s, hoseSettingsFields (s.config h)) := by
  simp only [ownHoseSettingsRead, hn, hoseOfNumber_hoseNumber]

/-- R97: the answer is formed, and the two notices are cleared. -/
theorem ownHoseStatus_hose (hn : n = hoseNumber h) (s : State) :
    ownHoseStatus n s = .ok (s.putHose h (s.hose h).clearNotices, hoseStatusFields h s) := by
  simp only [ownHoseStatus, hn, hoseOfNumber_hoseNumber]

/-- R35, R97, R100: no hose has the number. -/
theorem hoseReads_range (hn : hoseOfNumber n = none) (s : State) :
    ownTagChannelRead n s = .error .range ∧ ownHoseSettingsRead n s = .error .range ∧
      ownHoseStatus n s = .error .range := by
  simp only [ownTagChannelRead, ownHoseSettingsRead, ownHoseStatus, hn, and_self]

/-! ## The reads of a compartment -/

theorem ownStockStatus_comp (hn : n = compNumber c) (s : State) :
    ownStockStatus n s = .ok (s, stockFields c s) := by
  simp only [ownStockStatus, hn, compOfNumber_compNumber]

theorem ownPumpSettingsRead_comp (hn : n = compNumber c) (s : State) :
    ownPumpSettingsRead n s = .ok (s, pumpConfigFields (s.store.pumpConfigs.get c)) := by
  simp only [ownPumpSettingsRead, hn, compOfNumber_compNumber]

theorem ownTankSetupRead_comp (hn : n = compNumber c) (s : State) :
    ownTankSetupRead n s = .ok (s, tankFields (s.comp c)) := by
  simp only [ownTankSetupRead, hn, compOfNumber_compNumber]

theorem ownGaugeRead_comp (hn : n = compNumber c) (s : State) :
    ownGaugeRead n s = .ok (s, gaugeReadFields c s) := by
  simp only [ownGaugeRead, hn, compOfNumber_compNumber]

/-- R106, R119, R130, R132: no compartment has the number. -/
theorem compReads_range (hn : compOfNumber n = none) (s : State) :
    ownStockStatus n s = .error .range ∧ ownPumpSettingsRead n s = .error .range ∧
      ownTankSetupRead n s = .error .range ∧ ownGaugeRead n s = .error .range := by
  simp only [ownStockStatus, ownPumpSettingsRead, ownTankSetupRead, ownGaugeRead, hn, and_self]

/-- R132: the fields of STOCK STATUS, the last known level last. -/
theorem stockFields_eq (c : Comp) (s : State) :
    stockFields c s = [.volume (s.comp c).book, .volume (s.comp c).opening, .volume (s.comp c).delivered,
      .volume (s.comp c).dispensed, .volume (s.comp c).adjustments, volumeOf (s.comp c).reservations,
      .volume (available (s.comp c)), volumeOf (s.comp c).reserveLevel, volumeOf (s.comp c).lowStock,
      .flag (s.unit c).armed, .code (inhibitCode (s.comp c))] ++ levelPart (s.unit c).level := by
  simp [stockFields, joinFields]

/-- R100: the approval setting is ON 0 or OFF 1. -/
theorem hoseSettingsFields_eq (k : HoseConfig) :
    hoseSettingsFields k = [.count2 k.identifyTime, .count2 k.approvalTime, .code (if k.approval then 0 else 1),
      .count2 k.holdPeriod, .volume k.minimumGrant, .volume k.overrunAllowance, .volume k.startVolume,
      .volume k.taperVolume, .count k.noFlowTime, .count k.resumeGrace, .flag k.enabled] := by
  cases ha : k.approval <;> simp only [hoseSettingsFields, ha] <;> rfl

/-- Settles O16: each read is `countRequest_ok` on what its owner answers, and `countRequest_error` where the number
names nothing. Hearing the request changes none of the fields. -/
theorem hoseAndCompartmentReadsAnswer : Obligations.HoseAndCompartmentReadsAnswer := by
  unfold Obligations.HoseAndCompartmentReadsAnswer
  refine ⟨fun tag b s hr => ⟨fun h hn => ⟨?_, ?_, ?_⟩, fun hn => ?_⟩,
    fun tag b s hr => ⟨fun c hn => ?_, fun hn => ?_⟩,
    fun tag b s hr => ⟨fun c hn => ⟨?_, ?_, ?_⟩, fun hn => ?_⟩⟩
  · exact congrArg Host.Outcome.next (countRequest_ok hr (ownTagChannelRead_hose hn _))
  · refine congrArg Host.Outcome.next ((countRequest_ok hr (ownHoseSettingsRead_hose hn _)).trans ?_)
    exact congrArg (fun fields => answered tag 44 fields s) (hoseSettingsFields_eq (s.config h))
  · exact congrArg Host.Outcome.next (countRequest_ok hr (ownHoseStatus_hose hn _))
  · obtain ⟨channel, settings, status⟩ := hoseReads_range (hoseOfNumber_eq_none hn) (heard s)
    exact ⟨congrArg Host.Outcome.next (countRequest_error hr channel),
      congrArg Host.Outcome.next (countRequest_error hr settings),
      congrArg Host.Outcome.next (countRequest_error hr status)⟩
  · refine congrArg Host.Outcome.next ((countRequest_ok hr (ownStockStatus_comp hn _)).trans ?_)
    refine congrArg (fun fields => answered tag 56 fields s) ((stockFields_eq c s).trans ?_)
    cases (s.unit c).level <;> rfl
  · obtain ⟨stock, -⟩ := compReads_range (compOfNumber_eq_none hn) (heard s)
    exact congrArg Host.Outcome.next (countRequest_error hr stock)
  · exact congrArg Host.Outcome.next (countRequest_ok hr (ownPumpSettingsRead_comp hn _))
  · exact congrArg Host.Outcome.next (countRequest_ok hr (ownTankSetupRead_comp hn _))
  · exact congrArg Host.Outcome.next (countRequest_ok hr (ownGaugeRead_comp hn _))
  · obtain ⟨-, pump, tank, gauge⟩ := compReads_range (compOfNumber_eq_none hn) (heard s)
    exact ⟨congrArg Host.Outcome.next (countRequest_error hr pump),
      congrArg Host.Outcome.next (countRequest_error hr tank),
      congrArg Host.Outcome.next (countRequest_error hr gauge)⟩

end Sys2Proof.Machine
end

section
/-! PROOF. The events that stop a fill (R34, R69, R82 to R88): each is `stopFill` with its cause, and a report
without a use is only taken. -/

namespace Sys2Proof.Machine

variable {h : Hose} {id : TagId} {n : Nat} {tx : Transaction} {s : State}

/-! ## NOZZLE HANG and STOP (R85 to R87) -/

theorem exec_nozzleHang (hp : s.power = .on) (hl : s.inputs.lifted.get h = true) :
    exec (.nozzleHang h) s = .next (hangHose h (setLifted h false s)) :=
  congrArg Host.Outcome.next ((if_neg (by simp [hl])).trans (if_pos (live_of_on hp)))

theorem hangHose_of_stops (hs : (s.hose h).state.stops) :
    hangHose h s = channelOff h (stopFill h .hungUp s) := by
  rcases hs with hs | hs <;> simp only [hangHose, hs]

/-- R25: the channel of a hose is OFF, with the other channels as they were. -/
theorem channelOff_channel (h : Hose) (s : State) :
    (channelOff h s).channel h = { s.channel h with state := .off, run := 0, hold := .stopped } :=
  PerHose.get_set_self _ _ _

theorem channelOff_others (h : Hose) (s : State) : OtherChannels h s (channelOff h s) :=
  fun _ hg => PerHose.get_set_ne _ _ hg

theorem stopHose_of_stops (hs : (s.hose h).state.stops) : stopHose h s = stopFill h .hostStop s := by
  rcases hs with hs | hs <;> simp only [stopHose, hs]

/-- R87: STOP of a hose that flows or is paused, with the state DRAINING in its answer. -/
theorem ownStop_of_stops (hn : n = hoseNumber h) (hs : (s.hose h).state.stops) :
    ownStop n s = .ok (stopFill h .hostStop s, [.count (hoseNumber h), .code 7]) := by
  have stoppable : (s.hose h).state.stoppable = true := by rcases hs with hs | hs <;> rw [hs] <;> rfl
  have code : ((stopFill h .hostStop s).hose h).state.code = 7 := by rw [(stopFill_stops hs .hostStop).1]; rfl
  simp only [ownStop, hn, hoseOfNumber_hoseNumber, stoppable, stopHose_of_stops hs, hoseStateFields, code]
  rfl

/-! ## The timers (R82, R84) -/

theorem exec_noFlowTimerExpiry (hp : s.power = .on) (hn : (s.hose h).noFlow = .running n) :
    exec (.noFlowTimerExpiry h) s = .next (stopFill h .noFlow s) :=
  congrArg Host.Outcome.next (if_pos (by simp [live_of_on hp, hn, NoFlowTimer.isRunning]))

theorem exec_resumeGraceTimerExpiry (hp : s.power = .on) (hn : (s.hose h).grace = .running n) :
    exec (.resumeGraceTimerExpiry h) s = .next (stopFill h .tagLost s) :=
  congrArg Host.Outcome.next (if_pos (by simp [live_of_on hp, hn, Timer.isRunning]))

/-! ## The reports of a tag channel (R34, R69, R83, R84) -/

theorem exec_confirmed (hp : s.power = .on) (h : Hose) (id : TagId) :
    exec (.confirmed h id) s = .next (takeConfirmed h id (takeHanded (.report h (.confirmed id)) s)) :=
  congrArg Host.Outcome.next (if_pos (live_of_on hp))

theorem exec_lost (hp : s.power = .on) (h : Hose) :
    exec (.lost h) s = .next (takeLost h (takeHanded (.report h .lost) s)) :=
  congrArg Host.Outcome.next (if_pos (live_of_on hp))

theorem exec_changed (hp : s.power = .on) (h : Hose) (id : TagId) :
    exec (.changed h id) s = .next (takeChanged h (takeHanded (.report h (.changed id)) s)) :=
  congrArg Host.Outcome.next (if_pos (live_of_on hp))

/-- R69: a transaction without the MANUAL flag flows. -/
theorem flowingOnTag_of_tag (hf : (s.hose h).state = .flowing) (ht : s.tx h = some tx)
    (hm : tx.manual = false) : flowingOnTag h s = true := by
  simp [flowingOnTag, flowing, hf, ht, hm]

/-- R69: a MANUAL transaction does not flow on a tag. -/
theorem flowingOnTag_of_manual (ht : s.tx h = some tx) (hm : tx.manual = true) :
    flowingOnTag h s = false := by
  simp [flowingOnTag, ht, hm]

theorem flowingOnTag_of_not_flowing (hf : (s.hose h).state ≠ .flowing) : flowingOnTag h s = false := by
  simp [flowingOnTag, flowing, hf]

theorem takeLost_stops (hf : flowingOnTag h s = true) (hg : (s.config h).resumeGrace = 0) :
    takeLost h s = stopFill h .tagLost s := by
  simp only [takeLost, hf, hg, if_true]

theorem takeChanged_stops (hf : flowingOnTag h s = true) : takeChanged h s = stopFill h .tagChanged s :=
  if_pos hf

/-- R84: another tag at a PAUSED hose. -/
theorem takeConfirmed_other (hs : (s.hose h).state = .paused) (ht : s.tx h = some tx) (hm : tx.manual = false)
    (hid : tx.tag ≠ some id) : takeConfirmed h id s = stopFill h .tagChanged s := by
  simp [takeConfirmed, hs, confirmPaused, ht, hm, hid]

/-- R34: lost and changed have no use where no fill flows on a tag. -/
theorem noUse_lost (hp : s.power = .on) (hf : flowingOnTag h s = false) : NoUse (.lost h) s := by
  refine ⟨_, exec_lost hp h, ?_⟩
  have unused : takeLost h (takeHanded (.report h .lost) s) = takeHanded (.report h .lost) s :=
    if_neg (ne_true_of_eq_false hf)
  rw [unused]
  exact takeHanded_touches _ s

theorem noUse_changed (hp : s.power = .on) (id : TagId) (hf : flowingOnTag h s = false) :
    NoUse (.changed h id) s := by
  refine ⟨_, exec_changed hp h id, ?_⟩
  have unused : takeChanged h (takeHanded (.report h (.changed id)) s) =
      takeHanded (.report h (.changed id)) s := if_neg (ne_true_of_eq_false hf)
  rw [unused]
  exact takeHanded_touches _ s

/-- R34, R69: confirmed has no use but in IDENTIFYING and, on a tag, in PAUSED. -/
theorem takeConfirmed_unused (hi : (s.hose h).state ≠ .identifying)
    (hs : (s.hose h).state = .paused → ∃ tx, s.tx h = some tx ∧ tx.manual = true) :
    takeConfirmed h id s = s := by
  cases hc : (s.hose h).state with
  | identifying => exact absurd hc hi
  | paused =>
    obtain ⟨tx, ht, hm⟩ := hs hc
    simp only [takeConfirmed, hc, confirmPaused, ht, hm, if_true]
  | _ => simp only [takeConfirmed, hc]

theorem noUse_confirmed (hp : s.power = .on) (id : TagId) (hi : (s.hose h).state ≠ .identifying)
    (hs : (s.hose h).state = .paused → ∃ tx, s.tx h = some tx ∧ tx.manual = true) :
    NoUse (.confirmed h id) s := by
  refine ⟨_, exec_confirmed hp h id, ?_⟩
  rw [takeConfirmed_unused (s := takeHanded _ s) hi hs]
  exact takeHanded_touches _ s

/-! ## Stop events that come with a report, a request or an input -/

/-- A stop event at a hose whose report has been taken. -/
theorem stopFill_takeHanded (e : Handed) (cause : StopCause) (hs : (s.hose h).state.stops) :
    FillStopped h cause s (stopFill h cause (takeHanded e s)) ∧
      OnlyIn (.handed :: stopParts) s (stopFill h cause (takeHanded e s)) :=
  ⟨stopFill_stops (s := takeHanded e s) hs cause,
    ((takeHanded_touches e s).mono (by decide)).then (stopFill_touches _ _ _) (by decide)⟩

/-- R85: NOZZLE HANG at a hose that flows or is paused. -/
theorem nozzleHang_stops (hs : (s.hose h).state.stops) (hp : s.power = .on)
    (hl : s.inputs.lifted.get h = true) : ∃ t, exec (.nozzleHang h) s = .next t ∧
      FillStopped h .hungUp s t ∧ OtherChannels h s t ∧
      t.channel h = { s.channel h with state := .off, run := 0, hold := .stopped } ∧
      OnlyIn (.inputs :: .channels :: stopParts) s t := by
  have kept : (stopFill h .hungUp (setLifted h false s)).channels = s.channels :=
    (stopFill_touches h .hungUp (setLifted h false s)) .channels (by decide)
  have hung := hangHose_of_stops (s := setLifted h false s) hs
  refine ⟨_, (exec_nozzleHang hp hl).trans (congrArg Host.Outcome.next hung),
    stopFill_stops (s := setLifted h false s) hs .hungUp, fun g hg => ?_, ?_, ?_⟩
  · rw [channelOff_others h _ g hg, State.channel, kept]
  · rw [channelOff_channel, State.channel, kept]
  · exact (((only_setInputs _ s).mono (by decide)).then (stopFill_touches _ _ _) (by decide)).then
      (channelOff_touches _ _) (by decide)

/-- R87: STOP at a hose that flows or is paused. -/
theorem stop_stops (hs : (s.hose h).state.stops) (hr : Ready s) (tag : SeqTag) {b : Septet}
    (hn : b.toNat = hoseNumber h) : ∃ t, exec (.stop tag [b]) s = .next t ∧
      FillStopped h .hostStop s t ∧ OnlyIn (.link :: stopParts) s t ∧
      replyOf t = some (.answer tag 41 [.count (hoseNumber h), .code 7]) :=
  ⟨_, congrArg Host.Outcome.next (countRequest_ok hr (ownStop_of_stops (s := heard s) hn hs)),
    stopFill_stops (s := heard s) hs .hostStop,
    (((heard_touches s).mono (by decide)).then (stopFill_touches _ _ _) (by decide)).then
      (replied_touches _ _) (by decide), rfl⟩

/-- Settles O29: each stop event is `stopFill` with its cause, which `stopFill_stops` describes; the reports without
a use are `noUse_confirmed`, `noUse_lost` and `noUse_changed`. -/
theorem stopEventsDrainTheHose : Obligations.StopEventsDrainTheHose := by
  unfold Obligations.StopEventsDrainTheHose
  intro h s
  refine ⟨fun hs => ⟨nozzleHang_stops hs, fun tag b hr => stop_stops hs hr tag⟩,
    fun hp hf => ⟨?_, fun tx ht hm => ?_⟩, fun hp hs => ⟨?_, fun tx id ht hm hid => ?_⟩,
    fun id hp => ⟨fun hu => ?_, fun hf => ?_, fun hs => ?_⟩⟩
  · rintro ⟨n, hn⟩
    exact ⟨_, exec_noFlowTimerExpiry hp hn, stopFill_stops (.inl hf) _, stopFill_touches _ _ _⟩
  · have onTag : ∀ e, flowingOnTag h (takeHanded e s) = true :=
      fun e => flowingOnTag_of_tag (s := takeHanded e s) hf ht hm
    exact ⟨fun hg => ⟨_, (exec_lost hp h).trans (congrArg Host.Outcome.next (takeLost_stops (onTag _) hg)),
        stopFill_takeHanded _ _ (.inl hf)⟩,
      fun id => ⟨_, (exec_changed hp h id).trans (congrArg Host.Outcome.next (takeChanged_stops (onTag _))),
        stopFill_takeHanded _ _ (.inl hf)⟩⟩
  · rintro ⟨n, hn⟩
    exact ⟨_, exec_resumeGraceTimerExpiry hp hn, stopFill_stops (.inr hs) _, stopFill_touches _ _ _⟩
  · exact ⟨_, (exec_confirmed hp h id).trans
        (congrArg Host.Outcome.next (takeConfirmed_other (s := takeHanded _ s) hs ht hm hid)),
      stopFill_takeHanded _ _ (.inr hs)⟩
  · have unused : flowingOnTag h s = false ∧ (s.hose h).state ≠ .identifying ∧
        ((s.hose h).state = .paused → ∃ tx, s.tx h = some tx ∧ tx.manual = true) := by
      rcases hu with ⟨tx, ht, hm, hs⟩ | hs
      · exact ⟨flowingOnTag_of_manual ht hm, by rcases hs with hs | hs <;> simp [hs], fun _ => ⟨tx, ht, hm⟩⟩
      · have other : (s.hose h).state ≠ .flowing ∧ (s.hose h).state ≠ .identifying ∧
            (s.hose h).state ≠ .paused := by
          refine ⟨?_, ?_, ?_⟩ <;> intro hc <;> simp [hc, HoseState.stoppable, HoseState.isAwaiting] at hs
        obtain ⟨hf, hi, hpa⟩ := other
        exact ⟨flowingOnTag_of_not_flowing hf, hi, fun hc => absurd hc hpa⟩
    obtain ⟨hf, hi, hm⟩ := unused
    exact ⟨noUse_confirmed hp id hi hm, noUse_lost hp hf, noUse_changed hp id hf⟩
  · exact noUse_confirmed hp id (by simp [hf]) (by simp [hf])
  · have hf : flowingOnTag h s = false :=
      flowingOnTag_of_not_flowing (by rcases hs with hs | hs <;> simp [hs])
    exact ⟨noUse_lost hp hf, noUse_changed hp id hf⟩

end Sys2Proof.Machine
end

section
/-! PROOF. The laws of the registry, the contexts and the reservations (O21, O38) as laws that one change of the state
keeps: what the laws look at in a state, what it means for a change to keep them, and the changes that they do not
feel. -/

namespace Sys2Proof.Machine

variable {s t u : State} {g h : Hose} {c e : Comp} {k : Nat} {ps : List Part}

/-! ## What the laws look at -/

/-- R64: the entry that a hose in AWAITING names. -/
def HoseState.awaited : HoseState → Option Nat
  | .awaiting k _ => some k
  | .idle | .identifying | .refused _ | .blocked | .flowing | .paused | .draining | .finished => none

/-- What the laws see of a hose state: whether a fill is open in it, and the entry that it waits on. -/
def HoseState.role (st : HoseState) : Bool × Option Nat := (st.isFilling, st.awaited)

/-- What the laws of the records see of a transaction. -/
def Transaction.terms (tx : Transaction) : Nat × Nat × Nat := (tx.machine, tx.account, tx.reservation)

/-- What R91 and R116 see of a transaction. -/
def Transaction.metered (tx : Transaction) : Nat × Nat × Bool :=
  (tx.reservation, tx.volume.net, tx.overrunNoted)

theorem holding_eq (s : State) (h : Hose) : holding s h =
    if (s.hose h).state.role.1 then (s.tx h).map Transaction.machine else (s.hose h).state.role.2 := by
  cases hs : (s.hose h).state <;> simp [holding, hs, HoseState.role, HoseState.isFilling, HoseState.awaited]

theorem role_eq_of_not (st : HoseState) (hf : st.isFilling = false) (ha : st.isAwaiting = false) :
    st.role = (false, none) := by
  cases st with
  | awaiting => cases ha
  | flowing | paused | draining => cases hf
  | _ => rfl

theorem role_of_stops {st : HoseState} (hs : st.stops) : st.role = (true, none) := by
  rcases hs with rfl | rfl <;> rfl

/-- R91, R111: the overrun law of one compartment. -/
def OverrunAt (c : Comp) (s : State) : Prop :=
  (s.comp c).inhibit = none → ∀ h tx, compOf h = c → s.tx h = some tx →
    tx.volume.net / 1000 ≤ tx.reservation ∧ tx.overrunNoted = false

/-- R116: the stock law of one compartment. -/
def StockAt (c : Comp) (s : State) : Prop :=
  (s.comp c).inhibit = none → ((s.comp c).reservations : Int) ≤ max (s.comp c).book 0

theorem overrunLaw_iff (s : State) : OverrunLaw s ↔ ∀ c, OverrunAt c s :=
  ⟨fun l _ hi h tx hc ht => l h tx ht (hc ▸ hi), fun l h tx ht hi => l (compOf h) hi h tx rfl ht⟩

theorem stockLaw_iff (s : State) : StockLaw s ↔ ∀ c, StockAt c s := Iff.rfl

/-! ## What it means to keep the laws -/

/-- The laws of the stored records hold after a change where they held before. -/
structure StoreKept (s t : State) : Prop where
  capacity : CapacityLaw s → CapacityLaw t
  reservation : ReservationLaw s → ReservationLaw t
  naming : NamingLaw s → NamingLaw t
  entry : EntryReservationLaw s → EntryReservationLaw t
  account : NamingLaw s → AccountReservationLaw s → AccountReservationLaw t

/-- The laws of a compartment's meters and stock hold after a change where they held before. -/
structure MeterKept (c : Comp) (s t : State) : Prop where
  overrun : OverrunAt c s → OverrunAt c t
  stock : ReservationLaw s → OverrunAt c s → StockAt c s → StockAt c t

/-- The laws of the registry, the contexts and the records hold after a change where they held before. -/
structure RecordsKept (s t : State) : Prop where
  tag : TagLaw s → TagLaw t
  queue : QueueLaw s → QueueLaw t
  hold : HoldLaw s → HoldLaw t
  context : ContextLaw s → ContextLaw t
  store : ContextLaw s → StoreKept s t

/-- Every law of O21 and O38 holds after a change where it held before. -/
structure Keeps (s t : State) : Prop extends RecordsKept s t where
  meter : ContextLaw s → ∀ c, MeterKept c s t

theorem StoreKept.trans (a : StoreKept s t) (b : StoreKept t u) : StoreKept s u :=
  ⟨fun l => b.capacity (a.capacity l), fun l => b.reservation (a.reservation l), fun l => b.naming (a.naming l),
    fun l => b.entry (a.entry l), fun n l => b.account (a.naming n) (a.account n l)⟩

theorem MeterKept.trans (a : MeterKept c s t) (r : StoreKept s t) (b : MeterKept c t u) : MeterKept c s u :=
  ⟨fun l => b.overrun (a.overrun l), fun hr ho l => b.stock (r.reservation hr) (a.overrun ho) (a.stock hr ho l)⟩

theorem RecordsKept.trans (a : RecordsKept s t) (b : RecordsKept t u) : RecordsKept s u :=
  ⟨fun l => b.tag (a.tag l), fun l => b.queue (a.queue l), fun l => b.hold (a.hold l),
    fun l => b.context (a.context l), fun l => (a.store l).trans (b.store (a.context l))⟩

theorem Keeps.trans (a : Keeps s t) (b : Keeps t u) : Keeps s u :=
  ⟨a.toRecordsKept.trans b.toRecordsKept,
    fun l c => (a.meter l c).trans (a.store l) (b.meter (a.context l) c)⟩

theorem StoreKept.refl (s : State) : StoreKept s s := ⟨id, id, id, id, fun _ => id⟩

theorem MeterKept.refl (c : Comp) (s : State) : MeterKept c s s := ⟨id, fun _ _ => id⟩

theorem Keeps.refl (s : State) : Keeps s s := ⟨⟨id, id, id, id, fun _ => .refl s⟩, fun _ c => .refl c s⟩

theorem Keeps.ite {p : Prop} [Decidable p] (a : p → Keeps s t) (b : ¬ p → Keeps s u) :
    Keeps s (if p then t else u) := by
  split
  · exact a ‹_›
  · exact b ‹_›

/-- A compartment that is INHIBITED after a change has no law to keep. -/
theorem MeterKept.of_inhibited (hi : (t.comp c).inhibit.isSome) : MeterKept c s t := by
  have absurd_of : (t.comp c).inhibit = none → False := fun hn => by simp [hn] at hi
  exact ⟨fun _ hn => (absurd_of hn).elim, fun _ _ _ hn => (absurd_of hn).elim⟩

/-! ## Sums of reservations (R41, R52, R116) -/

/-- The reservation of a hose's transaction where it is taken by `p`, 0 otherwise. -/
def share (p : Hose → Transaction → Bool) (s : State) (h : Hose) : Nat :=
  match s.tx h with
  | some tx => if p h tx then tx.reservation else 0
  | none => 0

/-- The sum of the reservations of the transactions that are taken by `p`. -/
def shares (p : Hose → Transaction → Bool) (s : State) : Nat := share p s .h1 + share p s .h2 + share p s .h3

/-- The transactions of a compartment. -/
def inComp (c : Comp) (h : Hose) (_ : Transaction) : Bool := decide (compOf h = c)

/-- The transactions of a product that are taken by `f` to `k`. -/
def onIndex (f : Transaction → Nat) (k : Nat) (p : Product) (h : Hose) (tx : Transaction) : Bool :=
  decide (productOf h = p ∧ f tx = k)

theorem reservationLaw_iff (s : State) :
    ReservationLaw s ↔ ∀ c, (s.comp c).reservations = shares (inComp c) s := by
  have each (c : Comp) (h : Hose) :
      share (inComp c) s h = if compOf h = c then reservationOf s h else 0 := by
    unfold share reservationOf
    cases s.tx h <;> simp [inComp]
  constructor
  · rintro ⟨h1, h2⟩ c
    cases c <;> simp [shares, each, compOf, h1, h2]
  · intro l
    exact ⟨by simpa [shares, each, compOf] using l .c1, by simpa [shares, each, compOf] using l .c2⟩

theorem reservedOver_eq (f : Transaction → Nat) (k : Nat) (p : Product) (s : State) :
    reservedOver f k p s = shares (onIndex f k p) s := by
  have each (h : Hose) : share (onIndex f k p) s h =
      if productOf h = p ∧ (s.tx h).map f = some k then reservationOf s h else 0 := by
    unfold share reservationOf
    cases s.tx h <;> simp [onIndex]
  simp only [shares, each, reservedOver, allHoses, List.filter_cons, List.filter_nil, decide_eq_true_eq]
  split <;> split <;> split <;> simp [Nat.add_assoc]

/-- A change of one hose's transaction changes that hose's share alone. -/
theorem shares_change (p : Hose → Transaction → Bool) (ho : ∀ g, g ≠ h → t.tx g = s.tx g) :
    shares p t + share p s h = shares p s + share p t h := by
  have same (g : Hose) (hg : g ≠ h) : share p t g = share p s g := by simp only [share, ho g hg]
  cases h
  · rw [shares, shares, same .h2 (by decide), same .h3 (by decide)]; omega
  · rw [shares, shares, same .h1 (by decide), same .h3 (by decide)]; omega
  · rw [shares, shares, same .h1 (by decide), same .h2 (by decide)]; omega

theorem share_of_some {p : Hose → Transaction → Bool} {tx : Transaction} (ht : s.tx h = some tx) :
    share p s h = if p h tx then tx.reservation else 0 := by simp only [share, ht]

theorem share_of_none {p : Hose → Transaction → Bool} (ht : s.tx h = none) : share p s h = 0 := by
  simp only [share, ht]

/-- A sum over transactions sees no more of them than their terms. -/
theorem shares_of_terms {p : Hose → Transaction → Bool}
    (hp : ∀ h (a b : Transaction), a.terms = b.terms → p h a = p h b)
    (ht : ∀ h, (t.tx h).map Transaction.terms = (s.tx h).map Transaction.terms) : shares p t = shares p s := by
  have same (h : Hose) : share p t h = share p s h := by
    have ht := ht h
    cases hs : s.tx h with
    | none =>
      rw [hs, Option.map_none, Option.map_eq_none_iff] at ht
      rw [share_of_none hs, share_of_none ht]
    | some a =>
      rw [hs, Option.map_some, Option.map_eq_some_iff] at ht
      obtain ⟨b, hb, he⟩ := ht
      have hr : b.reservation = a.reservation := congrArg (fun x => x.2.2) he
      rw [share_of_some hs, share_of_some hb, hp h b a he, hr]
  rw [shares, shares, same, same, same]

theorem inComp_terms (c : Comp) (h : Hose) (a b : Transaction) : inComp c h a = inComp c h b := rfl

theorem onMachine_terms (k : Nat) (p : Product) (h : Hose) {a b : Transaction} (e : a.terms = b.terms) :
    onIndex Transaction.machine k p h a = onIndex Transaction.machine k p h b := by
  have hm : a.machine = b.machine := congrArg Prod.fst e
  simp only [onIndex, hm]

theorem onAccount_terms (k : Nat) (p : Product) (h : Hose) {a b : Transaction} (e : a.terms = b.terms) :
    onIndex Transaction.account k p h a = onIndex Transaction.account k p h b := by
  have ha : a.account = b.account := congrArg (fun x => x.2.1) e
  simp only [onIndex, ha]

/-! ## Changes that the laws do not feel -/

/-- The parts that the laws do not look at. -/
abbrev quietParts : List Part :=
  [.hoseConfigs, .pumpConfigs, .selector, .shift, .cal, .site, .clock, .channels, .meters, .sources, .pumps,
    .units, .inlet, .logWatch, .guard, .park, .link, .alarms, .inputs, .handed, .draws, .pending, .line]

/-- The parts that a calm change can change. -/
abbrev calmParts : List Part := .hoses :: .txs :: .comps :: .delivery :: .log :: quietParts

/-- A calm change leaves the registry, the queue and the accounts, the role of each hose, the terms of each
transaction and the reservations of each compartment. -/
structure Calm (s t : State) : Prop where
  only : OnlyIn calmParts s t
  roles : ∀ h, (t.hose h).state.role = (s.hose h).state.role
  terms : ∀ h, (t.tx h).map Transaction.terms = (s.tx h).map Transaction.terms
  reservations : ∀ c, (t.comp c).reservations = (s.comp c).reservations
  capacity : CapacityLaw s → CapacityLaw t

theorem holding_of_roles (hr : (t.hose h).state.role = (s.hose h).state.role)
    (ht : (t.tx h).map Transaction.terms = (s.tx h).map Transaction.terms) : holding t h = holding s h := by
  have hm : (t.tx h).map Transaction.machine = (s.tx h).map Transaction.machine := by
    simpa [Function.comp_def, Transaction.terms] using congrArg (Option.map Prod.fst) ht
  rw [holding_eq, holding_eq, hr, hm]

theorem held_congr (hh : ∀ h, holding t h = holding s h) (k : Nat) : held t k = held s k := by
  rw [Bool.eq_iff_iff, held_iff, held_iff]
  simp only [hh]

theorem tagOf_congr (hm : t.store.machines = s.store.machines) (hq : t.store.queue = s.store.queue)
    (k : Nat) (id : TagId) : TagOf t k id ↔ TagOf s k id := by
  rw [TagOf, TagOf, hm, hq]

/-- R39: a change that gives no entry a new tag keeps the tags unique. -/
theorem TagLaw.of_subset (ht : ∀ k id, TagOf t k id → TagOf s k id) (l : TagLaw s) : TagLaw t :=
  fun j k id hj hk => l j k id (ht j id hj) (ht k id hk)

theorem Calm.holding (a : Calm s t) (h : Hose) : holding t h = holding s h :=
  holding_of_roles (a.roles h) (a.terms h)

/-- What the laws of the records see of a state, but for the capacity of the log. -/
theorem StoreKept.of_same (cap : CapacityLaw s → CapacityLaw t) (hm : t.store.machines = s.store.machines)
    (hq : t.store.queue = s.store.queue) (ha : t.store.accounts = s.store.accounts)
    (ht : ∀ h, (t.tx h).map Transaction.terms = (s.tx h).map Transaction.terms)
    (hr : ∀ c, (t.comp c).reservations = (s.comp c).reservations) : StoreKept s t := by
  refine ⟨cap, ?_, ?_, ?_, fun _ => ?_⟩
  · intro l
    rw [reservationLaw_iff] at l ⊢
    intro c
    rw [hr, l, shares_of_terms (fun h a b _ => inComp_terms c h a b) ht]
  · rintro ⟨l, l'⟩
    refine ⟨fun k m hk => ?_, ?_⟩
    · rw [State.machine, hm] at hk
      rw [State.account, ha]
      exact l k m hk
    · rw [hq]
      intro u hu f hf
      rw [State.account, ha]
      exact l' u hu f hf
  · intro l k p
    rw [State.machine, hm, reservedOver_eq, shares_of_terms (fun h _ _ => onMachine_terms k p h) ht,
      ← reservedOver_eq]
    exact l k p
  · intro l k p
    rw [State.account, ha, reservedOver_eq, shares_of_terms (fun h _ _ => onAccount_terms k p h) ht,
      ← reservedOver_eq]
    exact l k p

theorem Calm.storeKept (a : Calm s t) : StoreKept s t :=
  .of_same a.capacity (a.only .machines (by decide)) (a.only .queue (by decide)) (a.only .accounts (by decide)) a.terms
    a.reservations

theorem Calm.records (a : Calm s t) : RecordsKept s t := by
  have hq : t.store.queue = s.store.queue := a.only .queue (by decide)
  have hm : t.store.machines = s.store.machines := a.only .machines (by decide)
  have hp : t.power = s.power := a.only .power (by decide)
  refine ⟨TagLaw.of_subset fun k id => (tagOf_congr hm hq k id).mp, ?_, ?_, ?_, fun _ => a.storeKept⟩
  · rintro ⟨hn, hh, hl⟩
    rw [QueueLaw, hq, hp]
    exact ⟨hn, fun hp u hu => by rw [held_congr a.holding]; exact hh hp u hu, hl⟩
  · intro l g h k hg hpr hk
    rw [a.holding] at hk ⊢
    exact l g h k hg hpr hk
  · intro l hon h
    have hf : (t.hose h).state.isFilling = (s.hose h).state.isFilling := congrArg Prod.fst (a.roles h)
    have hs : (t.tx h).isSome = (s.tx h).isSome := by simpa using congrArg Option.isSome (a.terms h)
    rw [hf, hs]
    exact l (hp ▸ hon) h

/-- A change that leaves what R91 and R116 see of a compartment and its transactions, or inhibits it, or moves the
book up, or moves it where nothing is reserved. -/
theorem MeterKept.of_same
    (ht : ∀ h, compOf h = c → (t.tx h).map Transaction.metered = (s.tx h).map Transaction.metered)
    (hi : (t.comp c).inhibit = none → (s.comp c).inhibit = none)
    (hr : (t.comp c).reservations = (s.comp c).reservations)
    (hb : (s.comp c).book ≤ (t.comp c).book ∨ (t.comp c).reservations = 0) : MeterKept c s t := by
  constructor
  · intro l hn h tx hc htx
    have hm := ht h hc
    rw [htx, Option.map_some, eq_comm, Option.map_eq_some_iff] at hm
    obtain ⟨a, ha, he⟩ := hm
    obtain ⟨hr, hv, ho⟩ : a.reservation = tx.reservation ∧ a.volume.net = tx.volume.net ∧
        a.overrunNoted = tx.overrunNoted := by simpa [Transaction.metered] using he
    rw [← hr, ← hv, ← ho]
    exact l (hi hn) h a hc ha
  · intro _ _ l hn
    have l := l (hi hn)
    rw [← hr] at l
    rcases hb with hb | hb <;> omega

/-- Nothing that the meters' laws look at has changed. -/
theorem OnlyIn.meterKept (ho : OnlyIn ps s t) (c : Comp) (ht : .txs ∉ ps := by decide)
    (hc : .comps ∉ ps := by decide) : MeterKept c s t :=
  .of_same (fun h _ => by rw [ho.tx h ht]) (fun hn => by rwa [← ho.comp c hc]) (by rw [ho.comp c hc])
    (.inl (by rw [ho.comp c hc]))

theorem Calm.keeps (a : Calm s t) (m : ∀ c, MeterKept c s t) : Keeps s t := ⟨a.records, fun _ => m⟩

/-- The contexts, and with them the commitments, are as many as they were. -/
theorem CapacityLaw.of_same (hl : t.store.log = s.store.log)
    (hd : t.store.delivery.isSome = s.store.delivery.isSome) (hx : ∀ h, (t.tx h).isSome = (s.tx h).isSome)
    (l : CapacityLaw s) : CapacityLaw t := by
  have h1 : t.store.txs.h1.isSome = s.store.txs.h1.isSome := hx .h1
  have h2 : t.store.txs.h2.isSome = s.store.txs.h2.isSome := hx .h2
  have h3 : t.store.txs.h3.isSome = s.store.txs.h3.isSome := hx .h3
  have hc : contextCount t.store = contextCount s.store := by simp only [contextCount, h1, h2, h3, hd]
  rw [CapacityLaw, hl, hc]
  exact l

/-- A change within the parts that the laws do not look at. -/
theorem OnlyIn.calm (ho : OnlyIn ps s t) (hp : ps ⊆ quietParts := by decide) : Calm s t := by
  have hq := ho.mono hp
  exact ⟨hq.mono (by decide), fun h => by rw [hq.hose], fun h => by rw [hq.tx], fun c => by rw [hq.comp],
    .of_same (hq .log (by decide)) (by rw [hq .delivery (by decide)]) fun h => by rw [hq.tx]⟩

theorem OnlyIn.keeps (ho : OnlyIn ps s t) (hp : ps ⊆ quietParts := by decide) : Keeps s t :=
  (ho.calm hp).keeps fun c => (ho.mono hp).meterKept c

/-- A change of hoses and transactions alone. -/
theorem Calm.of_hoses (ho : OnlyIn (.hoses :: .txs :: quietParts) s t)
    (hr : ∀ h, (t.hose h).state.role = (s.hose h).state.role)
    (ht : ∀ h, (t.tx h).map Transaction.terms = (s.tx h).map Transaction.terms) : Calm s t :=
  ⟨ho.mono (by decide), hr, ht, fun c => by rw [ho.comp],
    .of_same (ho .log (by decide)) (by rw [ho .delivery (by decide)]) fun h => by
      simpa using congrArg Option.isSome (ht h)⟩

/-- A change of compartments alone. -/
theorem Calm.of_comps (ho : OnlyIn (.comps :: quietParts) s t)
    (hr : ∀ c, (t.comp c).reservations = (s.comp c).reservations) : Calm s t :=
  ⟨ho.mono (by decide), fun h => by rw [ho.hose], fun h => by rw [ho.tx], hr,
    .of_same (ho .log (by decide)) (by rw [ho .delivery (by decide)]) fun h => by rw [ho.tx]⟩

/-- A change of the log and the delivery alone. -/
theorem Calm.of_log (ho : OnlyIn (.log :: .delivery :: quietParts) s t) (hc : CapacityLaw s → CapacityLaw t) :
    Calm s t :=
  ⟨ho.mono (by decide), fun h => by rw [ho.hose], fun h => by rw [ho.tx], fun c => by rw [ho.comp], hc⟩

end Sys2Proof.Machine
end

section
/-! PROOF. The laws of O21 and O38 over the deferred update queue and the end of a hold (R42, R43, R45, R46). -/

namespace Sys2Proof.Machine

variable {s t : State} {g h : Hose} {c : Comp} {k : Nat} {u : Update} {ps : List Part}

/-! ## Laws that a change outside their parts keeps -/

theorem shares_congr (p : Hose → Transaction → Bool) (ht : t.store.txs = s.store.txs) :
    shares p t = shares p s := by
  simp only [shares, share, State.tx, ht]

theorem OnlyIn.capacityLaw (ho : OnlyIn ps s t) (hl : .log ∉ ps := by decide) (hd : .delivery ∉ ps := by decide)
    (ht : .txs ∉ ps := by decide) : CapacityLaw s → CapacityLaw t :=
  .of_same (ho .log hl) (by rw [ho .delivery hd]) fun h => by rw [ho.tx h ht]

theorem OnlyIn.reservationLaw (ho : OnlyIn ps s t) (hc : .comps ∉ ps := by decide)
    (ht : .txs ∉ ps := by decide) : ReservationLaw s → ReservationLaw t := by
  intro l
  rw [reservationLaw_iff] at l ⊢
  intro c
  rw [ho.comp c hc, shares_congr _ (ho .txs ht)]
  exact l c

theorem OnlyIn.entryLaw (ho : OnlyIn ps s t) (hm : .machines ∉ ps := by decide) (ht : .txs ∉ ps := by decide) :
    EntryReservationLaw s → EntryReservationLaw t := by
  intro l k p
  rw [ho.machine k hm, reservedOver_eq, shares_congr _ (ho .txs ht), ← reservedOver_eq]
  exact l k p

theorem OnlyIn.accountLaw (ho : OnlyIn ps s t) (ha : .accounts ∉ ps := by decide) (ht : .txs ∉ ps := by decide) :
    AccountReservationLaw s → AccountReservationLaw t := by
  intro l k p
  rw [ho.account k ha, reservedOver_eq, shares_congr _ (ho .txs ht), ← reservedOver_eq]
  exact l k p

theorem OnlyIn.contextLaw (ho : OnlyIn ps s t) (hp : .power ∉ ps := by decide) (hh : .hoses ∉ ps := by decide)
    (ht : .txs ∉ ps := by decide) : ContextLaw s → ContextLaw t := by
  intro l hon h
  rw [ho.tx h ht, ho.hose h hh]
  exact l (by rw [← ho .power hp]; exact hon) h

theorem OnlyIn.holding (ho : OnlyIn ps s t) (h : Hose) (hh : .hoses ∉ ps := by decide)
    (ht : .txs ∉ ps := by decide) : holding t h = holding s h :=
  holding_of_roles (by rw [ho.hose h hh]) (by rw [ho.tx h ht])

theorem OnlyIn.held (ho : OnlyIn ps s t) (k : Nat) (hh : .hoses ∉ ps := by decide) (ht : .txs ∉ ps := by decide) :
    held t k = held s k :=
  held_congr (fun h => ho.holding h hh ht) k

theorem HoldLaw.of_holding (hh : ∀ h, holding t h = holding s h) (l : HoldLaw s) : HoldLaw t := by
  intro g h k hg hp hk
  rw [hh] at hk ⊢
  exact l g h k hg hp hk

/-- The laws of a change of the registry and the queue. -/
theorem StoreKept.of_registry (ho : OnlyIn [.machines, .queue] s t) (hn : NamingLaw s → NamingLaw t)
    (he : EntryReservationLaw s → EntryReservationLaw t) : StoreKept s t :=
  ⟨ho.capacityLaw, ho.reservationLaw, hn, he, fun _ => ho.accountLaw⟩

/-! ## One update (R45) -/

/-- R47: what an update writes names an account that is not EMPTY. -/
def Update.named (u : Update) (s : State) : Prop := ∀ f, u.contents = some f → (s.account f.account).isSome

/-- R39: an update gives its entry no tags but those that it carries. -/
theorem tagOf_applyContents {id : TagId} (h : TagOf (applyContents u s) k id) :
    TagOf s k id ∨ k = u.entry ∧ ∃ f, u.contents = some f ∧ (carries f id).isSome := by
  obtain ⟨m, hm, hc⟩ | hq := h
  · unfold applyContents at hm
    cases hu : u.contents with
    | none =>
      rw [hu] at hm
      exact .inl (.inl ⟨m, (List.mem_filter.mp hm).1, hc⟩)
    | some f =>
      rw [hu] at hm
      have written : ∀ n : MachineEntry, n.fields = f → (k, m) ∈ tablePut s.store.machines u.entry n →
          TagOf s k id ∨ k = u.entry ∧ ∃ f', some f = some f' ∧ (carries f' id).isSome := by
        intro n hn hm
        obtain ⟨hk, rfl⟩ | hm := mem_tablePut hm
        · exact .inr ⟨hk, f, rfl, hn ▸ hc⟩
        · exact .inl (.inl ⟨m, hm, hc⟩)
      dsimp only [writeEntry] at hm
      split at hm
      · exact written _ rfl hm
      · exact written _ rfl hm
  · rw [applyContents_touches u s .queue (by decide)] at hq
    exact .inl (.inr hq)

/-- R39: an update that waits gives its entry the tags that it has already. -/
theorem tagOf_of_queued {id : TagId} (hu : u ∈ s.store.queue) (h : TagOf (applyContents u s) k id) :
    TagOf s k id := by
  obtain h | ⟨rfl, f, hf, hc⟩ := tagOf_applyContents h
  · exact h
  · exact .inr ⟨u, hu, rfl, f, hf, hc⟩

theorem applyContents_naming (hn : u.named s) : NamingLaw s → NamingLaw (applyContents u s) := by
  have ho := applyContents_touches u s
  rintro ⟨hm, hq⟩
  refine ⟨fun k m hk => ?_, fun v hv f hf => ?_⟩
  · rw [ho.account]
    rw [applyContents_machine] at hk
    split at hk
    · obtain ⟨f, hf, rfl⟩ := Option.map_eq_some_iff.mp hk
      have hf := hn f hf
      cases s.machine k <;> exact hf
    · exact hm k m hk
  · rw [ho.account]
    rw [ho .queue (by decide)] at hv
    exact hq v hv f hf

/-- R41: an update keeps what its entry holds reserved, but for a deletion, which is of an entry that no transaction
names. -/
theorem applyContents_entryLaw
    (hd : u.contents = none → ∀ p, reservedOver Transaction.machine u.entry p s = 0) :
    EntryReservationLaw s → EntryReservationLaw (applyContents u s) := by
  intro l k p
  have ho := applyContents_touches u s
  have hl := l k p
  rw [reservedOver_eq, shares_congr _ (ho .txs (by decide)), ← reservedOver_eq, applyContents_machine]
  split
  · rename_i hk
    subst hk
    unfold updatedEntry
    cases hu : u.contents with
    | none => exact (hd hu p).symm
    | some f =>
      rw [← hl]
      cases s.machine u.entry with
      | none => cases p <;> rfl
      | some m => rfl
  · exact hl

theorem applyContents_storeKept (hn : NamingLaw s → u.named s)
    (hd : u.contents = none → ∀ p, reservedOver Transaction.machine u.entry p s = 0) :
    StoreKept s (applyContents u s) :=
  .of_registry ((applyContents_touches u s).mono (by decide)) (fun l => applyContents_naming (hn l) l)
    (applyContents_entryLaw hd)

/-- A queue of updates that waited already. -/
theorem NamingLaw.of_queue_subset (q : List Update) (hq : ∀ v ∈ q, v ∈ s.store.queue) (l : NamingLaw s) :
    NamingLaw (s.setQueue q) :=
  ⟨l.1, fun v hv => l.2 v (hq v hv)⟩

theorem storeKept_setQueue (q : List Update) (hn : NamingLaw s → NamingLaw (s.setQueue q)) :
    StoreKept s (s.setQueue q) :=
  have ho : OnlyIn [.queue] s (s.setQueue q) := only_setQueue q s
  .of_registry (ho.mono (by decide)) hn ho.entryLaw

theorem queued_named (hu : u ∈ s.store.queue) (l : NamingLaw s) : u.named s := l.2 u hu

/-! ## The end of a hold (R42, R45) -/

/-- R42: an entry that no hose holds has no transaction. -/
theorem reservedOver_of_not_held (hx : ContextLaw s) (hp : s.power = .on) (hk : held s k = false) (p : Product) :
    reservedOver Transaction.machine k p s = 0 := by
  have none_of (h : Hose) : share (onIndex Transaction.machine k p) s h = 0 := by
    unfold share
    cases ht : s.tx h with
    | none => rfl
    | some tx =>
      have hf := hx (by simp [hp]) h
      rw [ht, Option.isSome_some] at hf
      have hne : tx.machine ≠ k := by
        rintro rfl
        have hh : held s tx.machine = true :=
          (held_iff s _).mpr ⟨h, by rw [holding_eq]; simp [HoseState.role, ← hf, ht]⟩
        rw [hh] at hk
        cases hk
      simp [onIndex, hne]
  rw [reservedOver_eq, shares, none_of, none_of, none_of]

/-- The queue law but for the updates that wait for entry `k`, whose hold is about to end. -/
structure QueueBut (k : Nat) (s : State) : Prop where
  single : (s.store.queue.map Update.entry).Nodup
  held : s.power ≠ .off → ∀ u ∈ s.store.queue, u.entry ≠ k → held s u.entry = true
  bound : s.store.queue.length ≤ 16

theorem QueueLaw.but (l : QueueLaw s) (k : Nat) : QueueBut k s :=
  ⟨l.1, fun hp u hu _ => l.2.1 hp u hu, l.2.2⟩

/-- R45: the end of a hold leaves no update for an entry that is not held. -/
theorem endHold_queueLaw (l : QueueBut k s) : QueueLaw (endHold k s) := by
  obtain ⟨hn, hh, hl⟩ := l
  obtain ⟨he, hc⟩ | ⟨u, hk, hu, he⟩ := endHold_cases k s
  · rw [he]
    refine ⟨hn, fun hp v hv => ?_, hl⟩
    by_cases hv' : v.entry = k
    · rw [hv']
      refine hc.resolve_right fun hnone => ?_
      exact absurd hv' (by simpa using List.find?_eq_none.mp hnone v hv)
    · exact hh hp v hv hv'
  · have ho := applyUpdate_touches u s
    rw [he, QueueLaw, applyUpdate_queue, ho .power (by decide)]
    refine ⟨hn.sublist (List.Sublist.map _ List.filter_sublist), fun hp v hv => ?_,
      (List.length_filter_le _ _).trans hl⟩
    obtain ⟨hv, hne⟩ := List.mem_filter.mp hv
    rw [ho.held]
    exact hh hp v hv (by simpa [entry_of_pendingUpdate hu] using hne)

theorem mem_of_pendingUpdate (hu : pendingUpdate s k = some u) : u ∈ s.store.queue := List.mem_of_find?_eq_some hu

theorem applyUpdate_storeKept (hu : u ∈ s.store.queue)
    (hd : ∀ p, reservedOver Transaction.machine u.entry p s = 0) : StoreKept s (applyUpdate u s) :=
  (applyContents_storeKept (queued_named hu) fun _ => hd).trans
    (storeKept_setQueue _ (NamingLaw.of_queue_subset _ fun v hv => by
      rw [applyContents_touches u s .queue (by decide)]
      exact (List.mem_filter.mp hv).1))

theorem endHold_storeKept (k : Nat) (hp : s.power = .on) (hx : ContextLaw s) : StoreKept s (endHold k s) := by
  obtain ⟨he, -⟩ | ⟨u, hk, hu, he⟩ := endHold_cases k s
  · rw [he]; exact .refl s
  · rw [he]
    exact applyUpdate_storeKept (mem_of_pendingUpdate hu) fun p => by
      rw [entry_of_pendingUpdate hu]; exact reservedOver_of_not_held hx hp hk p

theorem endHold_tagLaw (k : Nat) (s : State) : TagLaw s → TagLaw (endHold k s) := by
  obtain ⟨he, -⟩ | ⟨u, hk, hu, he⟩ := endHold_cases k s
  · rw [he]; exact id
  · rw [he]
    refine TagLaw.of_subset fun j id hj => tagOf_of_queued (mem_of_pendingUpdate hu) ?_
    obtain hm | ⟨v, hv, hr⟩ := hj
    · exact .inl hm
    · rw [applyUpdate_queue] at hv
      refine .inr ⟨v, ?_, hr⟩
      rw [applyContents_touches u s .queue (by decide)]
      exact (List.mem_filter.mp hv).1

/-- The end of a hold keeps every law; the queue law holds after it where the update that it lets in was the only
one without a held entry. -/
theorem endHold_keeps (k : Nat) (hp : s.power = .on) : Keeps s (endHold k s) :=
  have ho := endHold_touches k s
  ⟨⟨endHold_tagLaw k s, fun l => endHold_queueLaw (l.but k), .of_holding fun h => ho.holding h, ho.contextLaw,
    endHold_storeKept k hp⟩, fun _ c => ho.meterKept c⟩

/-- A change that ends the hold of one hose, and no other: of a hose on entry `k`, then, the queue law stands but for
that entry. -/
theorem queueBut_of_leave (hq : t.store.queue = s.store.queue) (hp : t.power = s.power)
    (ho : ∀ g, g ≠ h → holding t g = holding s g) (hk : ∀ j, holding s h = some j → j = k) (l : QueueLaw s) :
    QueueBut k t := by
  obtain ⟨hn, hh, hl⟩ := l
  refine ⟨hq ▸ hn, fun hon u hu hne => ?_, hq ▸ hl⟩
  rw [hp] at hon
  rw [hq] at hu
  obtain ⟨g, hg⟩ := (held_iff s _).mp (hh hon u hu)
  have hgh : g ≠ h := by
    rintro rfl
    exact hne (hk _ hg)
  exact (held_iff t _).mpr ⟨g, (ho g hgh).trans hg⟩

/-- R62: a change after which one hose holds nothing, and every other what it held. -/
theorem HoldLaw.of_leave (hn : holding t h = none) (ho : ∀ g, g ≠ h → holding t g = holding s g) (l : HoldLaw s) :
    HoldLaw t := by
  have sub : ∀ g j, holding t g = some j → holding s g = some j := by
    intro g j hj
    by_cases hg : g = h
    · subst hg; rw [hn] at hj; cases hj
    · rw [← ho g hg]; exact hj
  exact fun a b j hab hp ha hb => l a b j hab hp (sub a j ha) (sub b j hb)

end Sys2Proof.Machine
end

section
/-! PROOF. The laws of O21 and O38 over a hose: the end of its wait, a stop event, a condition that reaches hoses, the
inhibit of a compartment and the stage of a fill. -/

namespace Sys2Proof.Machine

variable {s t v : State} {g h : Hose} {c : Comp} {k : Nat} {cause : StopCause} {r : Reason}

/-! ## Changes of hoses alone -/

/-- What a hose keeps of its transaction through a change of its other items. -/
structure TxKept (h : Hose) (s t : State) : Prop where
  terms : (t.tx h).map Transaction.terms = (s.tx h).map Transaction.terms
  metered : (t.tx h).map Transaction.metered = (s.tx h).map Transaction.metered

theorem TxKept.of_eq (ht : t.tx h = s.tx h) : TxKept h s t :=
  ⟨by rw [ht], by rw [ht]⟩

theorem TxKept.of_map {f : Transaction → Transaction} (ht : t.tx h = (s.tx h).map f)
    (hf : ∀ x, (f x).terms = x.terms) (hm : ∀ x, (f x).metered = x.metered) : TxKept h s t := by
  have terms : Transaction.terms ∘ f = Transaction.terms := funext hf
  have metered : Transaction.metered ∘ f = Transaction.metered := funext hm
  exact ⟨by rw [ht, Option.map_map, terms], by rw [ht, Option.map_map, metered]⟩

theorem Keeps.of_hoses (ho : OnlyIn (.hoses :: .txs :: quietParts) s t)
    (hr : ∀ g, (t.hose g).state.role = (s.hose g).state.role) (ht : ∀ g, TxKept g s t) : Keeps s t :=
  (Calm.of_hoses ho hr fun g => (ht g).terms).keeps fun c =>
    .of_same (fun g _ => (ht g).metered) (by rw [ho.comp]; exact id) (by rw [ho.comp])
      (.inl (by rw [ho.comp]))

/-- A change of one hose that leaves its role and the terms and measures of its transaction. -/
theorem Keeps.of_hose (ho : OnlyIn (.hoses :: .txs :: quietParts) s t) (hh : OtherHoses h s t)
    (hx : ∀ g, g ≠ h → t.tx g = s.tx g) (hr : (t.hose h).state.role = (s.hose h).state.role)
    (ht : TxKept h s t) : Keeps s t := by
  refine .of_hoses ho (fun g => ?_) fun g => ?_
  · by_cases hg : g = h
    · subst hg; exact hr
    · rw [hh g hg]
  · by_cases hg : g = h
    · subst hg; exact ht
    · exact .of_eq (hx g hg)

/-- A hose's own items change and its role stands. -/
theorem putHose_keeps (x : HoseCtl) (hr : x.state.role = (s.hose h).state.role) : Keeps s (s.putHose h x) :=
  .of_hose ((only_setHoses _ s).mono (by decide)) (fun _ hg => State.hose_putHose_ne _ _ hg) (fun _ _ => rfl)
    (by rw [State.hose_putHose]; exact hr) (.of_eq rfl)

/-- A transaction's own items change, and its terms and measures stand. -/
theorem putTx_keeps {f : Transaction → Transaction} (hf : ∀ x, (f x).terms = x.terms)
    (hm : ∀ x, (f x).metered = x.metered) : Keeps s (s.putTx h ((s.tx h).map f)) :=
  .of_hose (h := h) ((only_setTxs _ s).mono (by decide)) (fun _ _ => rfl) (fun _ hg => State.tx_putTx_ne _ _ hg)
    rfl (.of_map (State.tx_putTx _ _) hf hm)

theorem Keeps.of_some {tx tx' : Transaction} (ht : s.tx h = some tx) (hf : tx'.terms = tx.terms)
    (hm : tx'.metered = tx.metered) : Keeps s (s.putTx h (some tx')) :=
  .of_hose (h := h) ((only_setTxs _ s).mono (by decide)) (fun _ _ => rfl) (fun _ hg => State.tx_putTx_ne _ _ hg)
    rfl ⟨by rw [State.tx_putTx, ht]; exact congrArg some hf, by rw [State.tx_putTx, ht]; exact congrArg some hm⟩

/-! ## The end of a wait (R59, R60, R64, R70) -/

/-- A change that ends the hold of a hose on entry `k`, and keeps every law but that an update for `k` may wait for an
entry that is not held any longer. -/
structure Leaves (k : Nat) (s t : State) : Prop where
  tag : TagLaw s → TagLaw t
  queue : QueueLaw s → QueueBut k t
  hold : HoldLaw s → HoldLaw t
  context : ContextLaw s → ContextLaw t
  store : ContextLaw s → StoreKept s t
  meter : ContextLaw s → ∀ c, MeterKept c s t

/-- R45: the hold that a hose leaves ends, and with it every law is kept. -/
theorem Leaves.endHold (l : Leaves k s t) (hp : t.power = .on) : Keeps s (endHold k t) :=
  have e := endHold_keeps (s := t) k hp
  ⟨⟨fun a => e.tag (l.tag a), fun a => endHold_queueLaw (l.queue a), fun a => e.hold (l.hold a),
    fun a => e.context (l.context a), fun a => (l.store a).trans (e.store (l.context a))⟩,
    fun a c => (l.meter a c).trans (l.store a) (e.meter (l.context a) c)⟩

section Wait

variable {st : HoseState} (hf : (s.hose h).state.isFilling = false) (hst : st.isFilling = false)
  (hsa : st.isAwaiting = false)

include hst hsa in
theorem holding_moveHose_self : holding (moveHose h st s) h = none := by
  rw [holding_moveHose h h st s hst hsa, if_pos rfl]

include hst hsa in
theorem holding_moveHose_ne (hg : g ≠ h) : holding (moveHose h st s) g = holding s g := by
  rw [holding_moveHose h g st s hst hsa, if_neg hg]

include hf in
/-- R42: what a hose without a fill holds is the entry that it waits on. -/
theorem holding_of_not_filling : holding s h = (s.hose h).state.awaited := by
  rw [holding_eq, HoseState.role, hf]; rfl

include hf hst hsa in
theorem moveHose_leaves (hk : ∀ j, (s.hose h).state.awaited = some j → j = k) : Leaves k s (moveHose h st s) := by
  have ho : OnlyIn [.hoses] s (moveHose h st s) := moveHose_touches h st s
  have own : ((moveHose h st s).hose h).state = st := by rw [moveHose, State.hose_putHose]
  refine ⟨.of_subset fun k id => (tagOf_congr rfl rfl k id).mp,
    queueBut_of_leave rfl rfl (fun g hg => holding_moveHose_ne hst hsa hg)
      (by rw [holding_of_not_filling hf]; exact hk),
    .of_leave (holding_moveHose_self hst hsa) (fun g hg => holding_moveHose_ne hst hsa hg), fun l hon g => ?_,
    fun _ => .of_same ho.capacityLaw rfl rfl rfl (fun _ => rfl) (fun _ => rfl), fun _ c => ho.meterKept c⟩
  have l := l hon g
  by_cases hg : g = h
  · subst hg
    rw [own, hst]
    exact l.trans hf
  · rw [moveHose, State.hose_putHose_ne _ _ hg]
    exact l

include hf hst hsa in
/-- R42, R59, R60, R64: a hose that leaves its wait ends the hold that it took in AWAITING. -/
theorem leave_keeps (hp : s.power = .on) : Keeps s (endAwaitHold (s.hose h).state (moveHose h st s)) := by
  cases hs : (s.hose h).state with
  | awaiting k id =>
    have l : Leaves k s (moveHose h st s) := moveHose_leaves hf hst hsa fun j hj => by
      rw [hs] at hj
      exact (Option.some.inj hj).symm
    exact l.endHold hp
  | flowing | paused | draining => rw [hs] at hf; cases hf
  | _ =>
    refine putHose_keeps _ ?_
    rw [hs, role_eq_of_not st hst hsa]
    rfl

end Wait

theorem refuseHose_keeps (hp : s.power = .on) (hf : (s.hose h).state.isFilling = false) (r : Reason) :
    Keeps s (refuseHose h r s) :=
  leave_keeps hf rfl rfl hp

theorem idleHose_keeps (hp : s.power = .on) (hf : (s.hose h).state.isFilling = false) : Keeps s (idleHose h s) :=
  leave_keeps hf rfl rfl hp

/-! ## Stops and conditions (R59, R85, R88, R111, R174) -/

theorem stopFill_keeps (hs : (s.hose h).state.stops) (cause : StopCause) : Keeps s (stopFill h cause s) := by
  obtain ⟨hh, ht, -, hoh, hot, -⟩ := stopFill_stops hs cause
  refine .of_hose ((stopFill_touches h cause s).mono (by decide)) hoh hot ?_
    (.of_map ht (fun _ => rfl) fun _ => rfl)
  rw [hh, role_of_stops hs]
  rfl

theorem strike_keeps (hp : s.power = .on) : Keeps s (strike cause r h s) := by
  cases hs : (s.hose h).state with
  | flowing => rw [strike_of_stops (.inl hs)]; exact stopFill_keeps (.inl hs) cause
  | paused => rw [strike_of_stops (.inr hs)]; exact stopFill_keeps (.inr hs) cause
  | identifying => rw [strike_of_waits (.inl hs)]; exact refuseHose_keeps hp (by rw [hs]; rfl) r
  | awaiting k id => rw [strike_of_waits (.inr (by rw [hs]; rfl))]; exact refuseHose_keeps hp (by rw [hs]; rfl) r
  | draining => rw [strike_of_else (.inl hs)]; exact .refl s
  | _ => rw [strike_of_else (.inr (by rw [hs]; rfl))]; exact .refl s

theorem strikeAllHoses_keeps (hp : s.power = .on) (hs : List Hose) : Keeps s (strikeAll cause r hs s) :=
  (strikeAll_keeps (P := fun t => t.power = .on ∧ Keeps s t)
    (fun h t ⟨ht, hk⟩ => ⟨by rw [strike_touches cause r h t .power (by decide)]; exact ht,
      hk.trans (strike_keeps ht)⟩) hs ⟨hp, .refl s⟩).2

/-- A compartment's items change, but not its reservations, and its book falls only where nothing is reserved or where
it is INHIBITED. -/
theorem Keeps.of_comps (ho : OnlyIn (.comps :: quietParts) s t)
    (hr : ∀ c, (t.comp c).reservations = (s.comp c).reservations)
    (hm : ∀ c, (t.comp c).inhibit.isSome ∨ (t.comp c).inhibit = (s.comp c).inhibit ∧
      ((s.comp c).book ≤ (t.comp c).book ∨ (t.comp c).reservations = 0)) : Keeps s t := by
  refine (Calm.of_comps ho hr).keeps fun c => ?_
  obtain hi | ⟨hi, hb⟩ := hm c
  · exact .of_inhibited hi
  · exact .of_same (fun h _ => by rw [ho.tx]) (by rw [hi]; exact id) (hr c) hb

/-- One compartment's items change, but not its reservations. -/
theorem Keeps.of_comp (ho : OnlyIn (.comps :: quietParts) s t) (oc : OtherComp c s t)
    (hr : (t.comp c).reservations = (s.comp c).reservations)
    (hm : (t.comp c).inhibit.isSome ∨ (t.comp c).inhibit = (s.comp c).inhibit ∧
      ((s.comp c).book ≤ (t.comp c).book ∨ (t.comp c).reservations = 0)) : Keeps s t := by
  refine .of_comps ho (fun e => ?_) fun e => ?_
  · by_cases he : e = c
    · subst he; exact hr
    · rw [oc e he]
  · by_cases he : e = c
    · subst he; exact hm
    · rw [oc e he]; exact .inr ⟨rfl, .inl le_rfl⟩

theorem putComp_keeps (x : Compartment) (hr : x.reservations = (s.comp c).reservations)
    (hm : x.inhibit.isSome ∨ x.inhibit = (s.comp c).inhibit ∧
      ((s.comp c).book ≤ x.book ∨ x.reservations = 0)) : Keeps s (s.putComp c x) :=
  .of_comp (c := c) ((only_setComps _ s).mono (by decide)) (fun _ he => State.comp_putComp_ne _ _ he)
    (by rw [State.comp_putComp]; exact hr) (by rw [State.comp_putComp]; exact hm)

theorem inhibit_keeps (hp : s.power = .on) (c : Comp) (k : InhibitCause) : Keeps s (inhibit c k s) := by
  by_cases hn : (s.comp c).inhibit = none
  · have mark : Keeps s (markInhibited c k s) :=
      (putComp_keeps (c := c) { s.comp c with inhibit := some ⟨k, s.clock⟩ } rfl (.inl rfl)).trans
        (evalPump_touches _ _).keeps
    have hpm : (markInhibited c k s).power = .on := by
      rw [markInhibited_touches c k s .power (by decide)]; exact hp
    rw [inhibit_normal hn]
    exact (mark.trans (strikeAllHoses_keeps hpm _)).trans (evalRest_touches _ _).keeps
  · rw [inhibit_again hn]; exact .refl s

theorem enterFault_keeps (hp : s.power = .on) : Keeps s (enterFault s) := by
  have noted : OnlyIn [.guard, .alarms] s
      (raiseAlarm .metrologyFault (s.setGuard { s.guard with fault := true })) :=
    ((only_setGuard _ s).mono (by decide)).then (raiseAlarm_touches _ _) (by decide)
  exact noted.keeps.trans (strikeAllHoses_keeps (by rw [noted .power (by decide)]; exact hp) _)

theorem integrityCheck_keeps (hp : s.power = .on) : Keeps s (integrityCheck s) :=
  .ite (fun _ => .refl s) fun _ => enterFault_keeps hp

/-! ## The stage of a fill (R79) -/

theorem evalStage_keeps (hf : (s.hose h).state = .flowing) : Keeps s (evalStage h s) := by
  unfold evalStage
  split
  · exact .refl s
  · exact .ite (fun _ => stopFill_keeps (.inl hf) .limit) fun _ => putHose_keeps _ rfl

end Sys2Proof.Machine
end

section
/-! PROOF. The laws of O21 and O38 over the pulses of a hose meter (R1, R3, R79, R89, R91, R109). -/

namespace Sys2Proof.Machine

variable {s t u : State} {g h : Hose} {c e : Comp}

/-- Every law is kept but those that R91 and R116 set a compartment's meters. -/
structure KeepsBeside (c : Comp) (s t : State) : Prop extends RecordsKept s t where
  beside : ContextLaw s → ∀ e, e ≠ c → MeterKept e s t

theorem Keeps.keepsBeside (k : Keeps s t) (c : Comp) : KeepsBeside c s t := ⟨k.toRecordsKept, fun l e _ => k.meter l e⟩

theorem KeepsBeside.trans (a : KeepsBeside c s t) (b : KeepsBeside c t u) : KeepsBeside c s u :=
  ⟨a.toRecordsKept.trans b.toRecordsKept,
    fun l e he => (a.beside l e he).trans (a.store l) (b.beside (a.context l) e he)⟩

theorem KeepsBeside.keeps (a : KeepsBeside c s t) (m : MeterKept c s t) : Keeps s t :=
  ⟨a.toRecordsKept, fun l e => by
    by_cases he : e = c
    · subst he; exact m
    · exact a.beside l e he⟩

/-- A change of what is counted and noted in one hose's transaction. -/
theorem KeepsBeside.of_tx {f : Transaction → Transaction} (ho : OnlyIn (.txs :: quietParts) s t)
    (ht : t.tx h = (s.tx h).map f) (hx : ∀ g, g ≠ h → t.tx g = s.tx g) (hf : ∀ x, (f x).terms = x.terms) :
    KeepsBeside (compOf h) s t := by
  have terms : ∀ g, (t.tx g).map Transaction.terms = (s.tx g).map Transaction.terms := by
    intro g
    by_cases hg : g = h
    · subst hg
      have hf : Transaction.terms ∘ f = Transaction.terms := funext hf
      rw [ht, Option.map_map, hf]
    · rw [hx g hg]
  refine ⟨(Calm.of_hoses (ho.mono (by decide)) (fun g => by rw [ho.hose]) terms).records, fun _ e he => ?_⟩
  refine .of_same (fun g hg => ?_) (by rw [ho.comp]; exact id) (by rw [ho.comp]) (.inl (by rw [ho.comp]))
  rw [hx g]
  rintro rfl
  exact he hg.symm

theorem putTx_keepsBeside {f : Transaction → Transaction} (hf : ∀ x, (f x).terms = x.terms) :
    KeepsBeside (compOf h) s (s.putTx h ((s.tx h).map f)) :=
  .of_tx ((only_setTxs _ s).mono (by decide)) (State.tx_putTx _ _) (fun _ hg => State.tx_putTx_ne _ _ hg) hf

/-! ## The count (R3, R4) -/

theorem countHosePulse_tx (h : Hose) (s : State) : (countHosePulse h s).tx h =
    (s.tx h).map fun tx => { tx with volume := countVolume (pulseFactor (meterOf h) s) tx.volume } := by
  have same : (addToInterval (meterOf h) (pulseFactor (meterOf h) s) (drawFactor (meterOf h) s)).tx h = s.tx h :=
    (drawFactor_touches (meterOf h) s).tx h
  exact (State.tx_putTx _ _).trans (congrArg (Option.map _) same)

theorem countHosePulse_tx_ne (s : State) (hg : g ≠ h) : (countHosePulse h s).tx g = s.tx g :=
  (State.tx_putTx_ne _ _ hg).trans ((drawFactor_touches (meterOf h) s).tx g)

theorem countHosePulse_keepsBeside (h : Hose) (s : State) : KeepsBeside (compOf h) s (countHosePulse h s) :=
  .of_tx ((countHosePulse_touches h s).mono (by decide)) (countHosePulse_tx h s)
    (fun _ hg => countHosePulse_tx_ne s hg) fun _ => rfl

/-- R91: a transaction within its reservation passes it newly, or stays within it. -/
theorem within_of_not_newlyOverrun {tx : Transaction} (hn : newlyOverrun tx = false)
    (ho : tx.overrunNoted = false) : tx.volume.net / 1000 ≤ tx.reservation := by
  rw [newlyOverrun, ho, Bool.not_false, Bool.and_true] at hn
  exact Nat.not_lt.mp (of_decide_eq_false hn)

/-- R91: a counted pulse that does not pass the reservation newly keeps the laws of its compartment's meters. -/
theorem countHosePulse_meterKept
    (hn : (((countHosePulse h s).tx h).map newlyOverrun).getD false = false) :
    MeterKept (compOf h) s (countHosePulse h s) := by
  have hc : ∀ c, (countHosePulse h s).comp c = s.comp c := fun c => (countHosePulse_touches h s).comp c
  refine ⟨fun l hi g tx hg ht => ?_, fun _ _ l hi => ?_⟩
  · rw [hc] at hi
    by_cases hgh : g = h
    · subst hgh
      rw [ht] at hn
      rw [countHosePulse_tx, Option.map_eq_some_iff] at ht
      obtain ⟨x, hx, rfl⟩ := ht
      have noted : x.overrunNoted = false := (l hi g x hg hx).2
      exact ⟨within_of_not_newlyOverrun hn noted, noted⟩
    · rw [countHosePulse_tx_ne s hgh] at ht
      exact l hi g tx hg ht
  · rw [hc] at hi ⊢
    exact l hi

/-! ## The overrun (R91, R111) -/

/-- R85: a stop event keeps the laws wherever it comes. -/
theorem stopEvent_keeps (h : Hose) (cause : StopCause) (s : State) : Keeps s (stopFill h cause s) := by
  cases hs : (s.hose h).state with
  | flowing => exact stopFill_keeps (.inl hs) cause
  | paused => exact stopFill_keeps (.inr hs) cause
  | _ =>
    have same : stopFill h cause s = s := by simp only [stopFill, hs]
    rw [same]
    exact .refl s

theorem inhibit_inhibits (c : Comp) (k : InhibitCause) (s : State) : ((inhibit c k s).comp c).inhibit.isSome := by
  by_cases hn : (s.comp c).inhibit = none
  · rw [State.comp, inhibit_comps hn, PerComp.get_set_self]; rfl
  · rw [inhibit_again hn]; exact Option.isSome_iff_ne_none.mpr hn

theorem overrun_inhibits (h : Hose) (s : State) : ((overrun h s).comp (compOf h)).inhibit.isSome :=
  inhibit_inhibits (compOf h) (.overrun h) _

/-- R91: the first pulse above the reservation keeps the laws; the compartment of its hose has none to keep once it is
INHIBITED. -/
theorem overrun_keepsBeside (h : Hose) (hp : s.power = .on) : KeepsBeside (compOf h) s (overrun h s) := by
  have struck : OnlyIn (.hoses :: .txs :: quietParts) s (raiseAlarm (.overrun h)
      (stopFill h .overrun (s.putTx h ((s.tx h).map fun tx => { tx with cause := some .overrun })))) :=
    (((only_setTxs _ s).mono (by decide)).then (stopFill_touches _ _ _) (by decide)).then
      (raiseAlarm_touches _ _) (by decide)
  have noted := putTx_keepsBeside (h := h) (s := s) (f := fun tx => { tx with cause := some .overrun }) fun _ => rfl
  have stops := (noted.trans ((stopEvent_keeps h .overrun _).keepsBeside _)).trans
    ((raiseAlarm_touches (.overrun h) _).keeps.keepsBeside _)
  exact (stops.trans ((inhibit_keeps (by rw [struck .power (by decide)]; exact hp) _ _).keepsBeside _)).trans
    (putTx_keepsBeside fun _ => rfl)

/-! ## A pulse (R1) -/

theorem timed_keeps (h : Hose) (s : State) : Keeps s (timed h s) := putHose_keeps _ rfl

theorem pulseFlowing_keeps (hp : s.power = .on) (hf : (s.hose h).state = .flowing) : Keeps s (pulseFlowing h s) := by
  have ho := countHosePulse_touches h s
  have base : KeepsBeside (compOf h) s (timed h (countHosePulse h s)) :=
    (countHosePulse_keepsBeside h s).trans ((timed_keeps _ _).keepsBeside _)
  have hpt : (timed h (countHosePulse h s)).power = .on := (ho .power (by decide)).trans hp
  have hft : ((timed h (countHosePulse h s)).hose h).state = .flowing := by
    rw [timed, State.hose_putHose, ho.hose]; exact hf
  change Keeps s (if (((timed h (countHosePulse h s)).tx h).map newlyOverrun).getD false = true
    then overrun h (timed h (countHosePulse h s)) else evalStage h (timed h (countHosePulse h s)))
  split
  · exact (base.trans (overrun_keepsBeside h hpt)).keeps (.of_inhibited (overrun_inhibits h _))
  · rename_i hn
    have count : Keeps s (countHosePulse h s) :=
      (countHosePulse_keepsBeside h s).keeps (countHosePulse_meterKept (Bool.eq_false_of_not_eq_true hn))
    exact (count.trans (timed_keeps _ _)).trans (evalStage_keeps hft)

theorem pulseDraining_keeps (hp : s.power = .on) : Keeps s (pulseDraining h s) := by
  have hpt : (countHosePulse h s).power = .on := (countHosePulse_touches h s .power (by decide)).trans hp
  have tested : Keeps s (if (((countHosePulse h s).tx h).map newlyOverrun).getD false
      then overrun h (countHosePulse h s) else countHosePulse h s) :=
    .ite
      (fun _ => ((countHosePulse_keepsBeside h s).trans (overrun_keepsBeside h hpt)).keeps
        (.of_inhibited (overrun_inhibits h _)))
      fun hn => (countHosePulse_keepsBeside h s).keeps (countHosePulse_meterKept (Bool.eq_false_of_not_eq_true hn))
  exact tested.trans (putHose_keeps _ rfl)

theorem strayPulse_keeps (hp : s.power = .on) : Keeps s (strayPulse h s) := by
  rw [strayPulse_eq]
  exact (strayNoted_touches h s).keeps.trans
    (inhibit_keeps (by rw [strayNoted_touches h s .power (by decide)]; exact hp) _ _)

theorem hosePulse_keeps (hp : s.power = .on) : Keeps s (hosePulse h s) := by
  unfold hosePulse
  split
  · rename_i hf
    exact pulseFlowing_keeps hp hf
  · exact pulseDraining_keeps hp
  all_goals exact strayPulse_keeps hp

end Sys2Proof.Machine
end

section
/-! PROOF. The laws of O21 and O38 over the lookup and the grant (R61 to R68, R71 to R76). -/

namespace Sys2Proof.Machine

variable {s t : State} {h : Hose} {k : Nat} {m : MachineEntry} {g : GrantRequest} {tx : Transaction}
  {p : Hose → Transaction → Bool}

/-! ## Entries, accounts and holds -/

theorem QueueLaw.of_held (hq : t.store.queue = s.store.queue) (hp : t.power = s.power)
    (hh : ∀ j, held s j = true → held t j = true) (l : QueueLaw s) : QueueLaw t := by
  obtain ⟨hn, hl, hlen⟩ := l
  rw [QueueLaw, hq, hp]
  exact ⟨hn, fun hon u hu => hh _ (hl hon u hu), hlen⟩

/-- R39: a change of an entry's own counts gives it no tag. -/
theorem mem_onMachine {f : MachineEntry → MachineEntry} (hf : ∀ m, (f m).fields = m.fields) {j : Nat} {x : MachineEntry}
    (hx : (j, x) ∈ (s.onMachine k f).store.machines) : ∃ y, (j, y) ∈ s.store.machines ∧ x.fields = y.fields := by
  unfold State.onMachine at hx
  split at hx
  · rename_i m hm
    obtain ⟨rfl, rfl⟩ | hx := mem_tablePut hx
    · exact ⟨m, mem_of_tableFind hm, hf m⟩
    · exact ⟨x, hx, rfl⟩
  · exact ⟨x, hx, rfl⟩

theorem tagLaw_of_fields (hq : t.store.queue = s.store.queue)
    (hm : ∀ j x, (j, x) ∈ t.store.machines → ∃ y, (j, y) ∈ s.store.machines ∧ x.fields = y.fields) :
    TagLaw s → TagLaw t := by
  refine .of_subset fun j id hj => ?_
  obtain ⟨x, hx, hc⟩ | hu := hj
  · obtain ⟨y, hy, he⟩ := hm j x hx
    exact .inl ⟨y, hy, he ▸ hc⟩
  · rw [hq] at hu
    exact .inr hu

/-- R42: every hold stands, and a hose that held nothing takes a hold. -/
theorem held_of_holding (hh : ∀ g j, holding s g = some j → holding t g = some j) (j : Nat) :
    held s j = true → held t j = true := by
  rw [held_iff, held_iff]
  exact fun ⟨g, hg⟩ => ⟨g, hh g j hg⟩

/-- R61 test 5: no other hose of the product holds the entry. -/
theorem holding_of_not_heldByOther (hn : heldByOther s h k = false) {g : Hose} (hg : g ≠ h)
    (hp : productOf g = productOf h) : holding s g ≠ some k := by
  have all : g ∈ allHoses := by cases g <;> decide
  intro hk
  exact absurd (List.any_eq_false.mp hn g all) (by simp [hg, hp, hk])

/-- R62: a hose may take entry `k`: it holds it already, or holds nothing while no other hose of its product holds
it. -/
inductive MayHold (h : Hose) (k : Nat) (s : State) : Prop
  | held (hh : holding s h = some k)
  | free (hn : holding s h = none) (ho : heldByOther s h k = false)

/-- R42, R62: a hose takes a hold that it may take. -/
theorem holds_of_take (hm : MayHold h k s) (hk : holding t h = some k)
    (ho : ∀ g, g ≠ h → holding t g = holding s g) :
    (∀ g j, holding s g = some j → holding t g = some j) ∧ (HoldLaw s → HoldLaw t) := by
  obtain hs | ⟨hs, hn⟩ := hm
  · have same : ∀ g, holding t g = holding s g := by
      intro g
      by_cases hg : g = h
      · subst hg; rw [hk, hs]
      · exact ho g hg
    exact ⟨fun g j hj => (same g).trans hj, .of_holding same⟩
  · constructor
    · intro g j hj
      have hg : g ≠ h := by rintro rfl; rw [hs] at hj; cases hj
      exact (ho g hg).trans hj
    · intro l a b j hab hp ha hb
      by_cases hah : a = h
      · subst hah
        rw [hk] at ha
        cases ha
        rw [ho b hab.symm] at hb
        exact holding_of_not_heldByOther hn hab.symm hp.symm hb
      · by_cases hbh : b = h
        · subst hbh
          rw [hk] at hb
          cases hb
          rw [ho a hah] at ha
          exact holding_of_not_heldByOther hn hah hp ha
        · rw [ho a hah] at ha
          rw [ho b hbh] at hb
          exact l a b j hab hp ha hb

/-- R64: entry into AWAITING. -/
theorem enterAwaiting_keeps (id : TagId) (hf : (s.hose h).state.isFilling = false) (hm : MayHold h k s) :
    Keeps s (enterAwaiting h k id s) := by
  have ho : OnlyIn [.hoses] s (enterAwaiting h k id s) := only_setHoses _ s
  have own : ((enterAwaiting h k id s).hose h).state = .awaiting k id := by rw [enterAwaiting, State.hose_putHose]
  have others : ∀ g, g ≠ h → (enterAwaiting h k id s).hose g = s.hose g := fun g hg => State.hose_putHose_ne _ _ hg
  obtain ⟨stand, hold⟩ := holds_of_take (t := enterAwaiting h k id s) hm (by simp only [holding, own]) fun g hg =>
    holding_of_roles (by rw [others g hg]) rfl
  refine ⟨⟨.of_subset fun j i => (tagOf_congr rfl rfl j i).mp, .of_held rfl rfl (held_of_holding stand), hold,
    fun l hon g => ?_, fun _ => .of_same ho.capacityLaw rfl rfl rfl (fun _ => rfl) fun _ => rfl⟩,
    fun _ c => ho.meterKept c⟩
  by_cases hg : g = h
  · subst hg
    rw [own]
    exact (l hon g).trans hf
  · rw [others g hg]
    exact l hon g

/-! ## The limit (R72 to R74, R116) -/

theorem leastOf_le (x : Int) (l : List (Option Int)) :
    leastOf x l ≤ x ∧ ∀ y, some y ∈ l → leastOf x l ≤ y := by
  induction l generalizing x with
  | nil => exact ⟨le_rfl, fun y hy => by cases hy⟩
  | cons z l ih =>
    cases z with
    | none =>
      obtain ⟨hx, hl⟩ := ih x
      exact ⟨hx, fun y hy => hl y (by simpa using hy)⟩
    | some z =>
      obtain ⟨hx, hl⟩ := ih (min x z)
      refine ⟨hx.trans (min_le_left x z), fun y hy => ?_⟩
      obtain hy | hy := List.mem_cons.mp hy
      · cases hy
        exact hx.trans (min_le_right x z)
      · exact hl y hy

/-- R73: the limit of a grant leaves the overrun allowance within the available stock. -/
theorem limitOf_le_available (g : GrantRequest) (m : MachineEntry) (s : State) :
    limitOf g m s + ((s.config g.hose).overrunAllowance : Int) ≤ available (s.comp (compOf g.hose)) := by
  unfold limitOf
  dsimp only
  have stock := (leastOf_le (available (s.comp (compOf g.hose)))
    [accountHeadroom (accountOf s m.fields.account) (productOf g.hose), machineHeadroom m (productOf g.hose)]).1
  have bound := (leastOf_le Config.fillCeiling
    [g.preset, (m.fields.maxFill.get (productOf g.hose)).map Int.ofNat,
      if g.offline then some (s.store.site.offlineCap : Int) else none,
      some (leastOf (available (s.comp (compOf g.hose)))
        [accountHeadroom (accountOf s m.fields.account) (productOf g.hose), machineHeadroom m (productOf g.hose)] -
          ((s.config g.hose).overrunAllowance : Int))]).2 _
    (.tail _ (.tail _ (.tail _ (.head _))))
  omega

/-- R71: what a grant that is not refused has passed. -/
theorem grantRefusal_none (hr : grantRefusal g m s = none) : canCommit s = true ∧ 0 ≤ limitOf g m s := by
  unfold grantRefusal at hr
  split at hr
  · cases hr
  · split at hr
    · rename_i hc
      refine ⟨hc, ?_⟩
      unfold limitRefusal at hr
      dsimp only at hr
      split at hr
      · repeat' split at hr
        all_goals cases hr
      · omega
    · cases hr

/-! ## The transaction that a grant opens (R75, R76) -/

/-- The state that a grant leaves before the stage is evaluated, with the transaction `tx`. -/
def opened (h : Hose) (tx : Transaction) (s : State) : State :=
  let s := takeCommitment (reserve h tx.machine tx.account tx.reservation s)
  let s := startInterval (meterOf h) (s.putTx h (some tx))
  s.putHose h ((s.hose h).granted (s.config h))

theorem openFill_eq (g : GrantRequest) (m : MachineEntry) (s : State) :
    openFill g m s = settle (compOf g.hose)
      (evalStage g.hose (opened g.hose (newTransaction g m (limitOf g m s).toNat s) s)) := rfl

abbrev openedParts : List Part := .hoses :: .txs :: .machines :: .accounts :: .comps :: .log :: quietParts

theorem opened_touches (h : Hose) (tx : Transaction) (s : State) : OnlyIn openedParts s (opened h tx s) :=
  (((((reserve_touches _ _ _ _ s).mono (by decide)).then (takeCommitment_touches _) (by decide)).then
    (only_setTxs _ _) (by decide)).then (startInterval_touches _ _) (by decide)).then (only_setHoses _ _) (by decide)

/-- What follows the reservations leaves the records that they are made in. -/
theorem opened_after_reserve (h : Hose) (tx : Transaction) (s : State) :
    OnlyIn [.hoses, .txs, .log, .logWatch, .alarms, .meters]
      (reserve h tx.machine tx.account tx.reservation s) (opened h tx s) :=
  ((((takeCommitment_touches _).mono (by decide)).then (only_setTxs _ _) (by decide)).then
    (startInterval_touches _ _) (by decide)).then (only_setHoses _ _) (by decide)

theorem opened_tx (h : Hose) (tx : Transaction) (s : State) : (opened h tx s).tx h = some tx :=
  State.tx_putTx _ _

theorem opened_tx_ne (tx : Transaction) (s : State) {f : Hose} (hf : f ≠ h) : (opened h tx s).tx f = s.tx f :=
  (State.tx_putTx_ne _ _ hf).trans
    ((((reserve_touches h _ _ _ s).mono (by decide)).then (takeCommitment_touches _) (by decide) :
      OnlyIn [.machines, .accounts, .comps, .log, .logWatch, .alarms] s _).tx f)

theorem opened_state (h : Hose) (tx : Transaction) (s : State) : ((opened h tx s).hose h).state = .flowing := by
  unfold opened
  dsimp only
  rw [State.hose_putHose]
  rfl

theorem opened_hose_ne (tx : Transaction) (s : State) {f : Hose} (hf : f ≠ h) :
    (opened h tx s).hose f = s.hose f :=
  have before : OnlyIn (.txs :: .log :: .machines :: .accounts :: .comps :: quietParts) s
      (startInterval (meterOf h) ((takeCommitment (reserve h tx.machine tx.account tx.reservation s)).putTx h
        (some tx))) :=
    ((((reserve_touches h _ _ _ s).mono (by decide)).then (takeCommitment_touches _) (by decide)).then
      (only_setTxs _ _) (by decide)).then (startInterval_touches _ _) (by decide)
  (State.hose_putHose_ne _ _ hf).trans (before.hose f)

theorem opened_machine (h : Hose) (tx : Transaction) (s : State) (j : Nat) : (opened h tx s).machine j =
    if j = tx.machine then (s.machine j).map fun m =>
      { m with reserved := m.reserved.set (productOf h) (m.reserved.get (productOf h) + tx.reservation) }
    else s.machine j := by
  rw [(opened_after_reserve h tx s).machine]
  change ((s.onMachine _ _).onAccount _ _).machine j = _
  rw [(onAccount_touches _ _ _).machine]
  split
  · rename_i hj
    subst hj
    exact onMachine_self _ _ s
  · exact onMachine_ne _ s ‹_›

theorem opened_account (h : Hose) (tx : Transaction) (s : State) (j : Nat) : (opened h tx s).account j =
    if j = tx.account then (s.account j).map fun a =>
      { a with reserved := a.reserved.set (productOf h) (a.reserved.get (productOf h) + tx.reservation) }
    else s.account j := by
  rw [(opened_after_reserve h tx s).account]
  change ((s.onMachine _ _).onAccount _ _).account j = _
  split
  · rename_i hj
    subst hj
    rw [onAccount_self, (onMachine_touches _ _ s).account]
  · rw [onAccount_ne _ _ ‹_›, (onMachine_touches _ _ s).account]

theorem opened_comp (h : Hose) (tx : Transaction) (s : State) : (opened h tx s).comp (compOf h) =
    { s.comp (compOf h) with reservations := (s.comp (compOf h)).reservations + tx.reservation } := by
  have before : ∀ c, ((s.onMachine tx.machine fun m =>
      { m with reserved := m.reserved.set (productOf h) (m.reserved.get (productOf h) + tx.reservation) }).onAccount
      tx.account fun a =>
        { a with reserved := a.reserved.set (productOf h) (a.reserved.get (productOf h) + tx.reservation) }).comp c =
      s.comp c := fun c => by rw [(onAccount_touches _ _ _).comp, (onMachine_touches _ _ s).comp]
  rw [(opened_after_reserve h tx s).comp]
  refine (State.comp_putComp _ _).trans ?_
  rw [before]

theorem opened_comp_ne (tx : Transaction) (s : State) {c : Comp} (hc : c ≠ compOf h) :
    (opened h tx s).comp c = s.comp c := by
  rw [(opened_after_reserve h tx s).comp]
  refine (State.comp_putComp_ne _ _ hc).trans ?_
  rw [(onAccount_touches _ _ _).comp, (onMachine_touches _ _ s).comp]

theorem opened_log (h : Hose) (tx : Transaction) (s : State) :
    (opened h tx s).store.log = { s.store.log with commitments := s.store.log.commitments + 1 } := by
  change (takeCommitment (reserve h tx.machine tx.account tx.reservation s)).store.log = _
  unfold takeCommitment
  rw [watchLog_touches _ .log (by decide), State.setLog,
    reserve_touches h tx.machine tx.account tx.reservation s .log (by decide)]

/-- A sum over transactions after a hose that had none opened one. -/
theorem shares_of_opened (hn : s.tx h = none) (ht : t.tx h = some tx) (ho : ∀ g, g ≠ h → t.tx g = s.tx g) :
    shares p t = shares p s + if p h tx then tx.reservation else 0 := by
  have := shares_change p ho
  rw [share_of_none hn, share_of_some ht] at this
  exact this

/-- What a hose's context counts for among the commitments. -/
def contextOf (x : Option Transaction) : Nat := if x.isSome then 1 else 0

/-- A change of one hose's context, the delivery's standing. -/
theorem contextCount_change (ho : ∀ g, g ≠ h → t.tx g = s.tx g) (hd : t.store.delivery = s.store.delivery) :
    contextCount t.store + contextOf (s.tx h) = contextCount s.store + contextOf (t.tx h) := by
  have eq : ∀ s : State, contextCount s.store = contextOf (s.tx .h1) + contextOf (s.tx .h2) + contextOf (s.tx .h3) +
      if s.store.delivery.isSome then 1 else 0 := fun _ => rfl
  rw [eq, eq, hd]
  cases h
  · rw [ho .h2 (by decide), ho .h3 (by decide)]; omega
  · rw [ho .h1 (by decide), ho .h3 (by decide)]; omega
  · rw [ho .h1 (by decide), ho .h2 (by decide)]; omega

end Sys2Proof.Machine
end

section
/-! PROOF. The laws of O21 and O38 over the opening of a fill, and the grant, the lookup and the directed authorisation
that lead to it (R61 to R68, R71 to R76). -/

namespace Sys2Proof.Machine

variable {s t : State} {h : Hose} {k : Nat} {m : MachineEntry} {g : GrantRequest} {tx : Transaction}

/-- What a grant has found before it opens a fill `tx` at hose `h` on entry `m` (R62, R71 to R76, R116). -/
structure MayOpen (h : Hose) (tx : Transaction) (m : MachineEntry) (s : State) : Prop where
  hold : MayHold h tx.machine s
  slot : canCommit s = true
  entry : s.machine tx.machine = some m
  account : m.fields.account = tx.account
  uncounted : tx.volume.net = 0
  unnoted : tx.overrunNoted = false
  stock : (s.comp (compOf h)).reservations + tx.reservation ≤ max (s.comp (compOf h)).book 0

/-- R41, R52: a field that holds reservations after R mL are added for a product. -/
theorem reserved_added (v : PerProduct Nat) (h : Hose) (r : Nat) (p : Product) (i j : Nat) :
    (if j = i then (v.set (productOf h) (v.get (productOf h) + r)).get p else v.get p) =
      v.get p + if productOf h = p ∧ i = j then r else 0 := by
  by_cases hj : j = i
  · subst hj
    rw [if_pos rfl, PerProduct.get_set]
    by_cases hp : p = productOf h
    · subst hp; simp
    · rw [if_neg hp, if_neg fun e => hp e.1.symm, Nat.add_zero]
  · rw [if_neg hj, if_neg fun e => hj e.2.symm, Nat.add_zero]

section Opened

variable (hn : s.tx h = none)

include hn in
theorem shares_opened (p : Hose → Transaction → Bool) :
    shares p (opened h tx s) = shares p s + if p h tx then tx.reservation else 0 :=
  shares_of_opened hn (opened_tx h tx s) fun _ hg => opened_tx_ne tx s hg

include hn in
theorem opened_entryLaw (hm : s.machine tx.machine = some m) :
    EntryReservationLaw s → EntryReservationLaw (opened h tx s) := by
  intro l j p
  have lj := l j p
  rw [reservedOver_eq] at lj ⊢
  rw [shares_opened hn, ← lj, opened_machine]
  have added (x : MachineEntry) := reserved_added x.reserved h tx.reservation p tx.machine j
  simp only [onIndex, decide_eq_true_eq]
  cases hj : s.machine j with
  | none =>
    have hne : tx.machine ≠ j := by rintro rfl; rw [hm] at hj; cases hj
    simp [hne]
  | some x =>
    refine Eq.trans ?_ (added x)
    split <;> rfl

include hn in
theorem opened_accountLaw (ha : (s.account tx.account).isSome) :
    AccountReservationLaw s → AccountReservationLaw (opened h tx s) := by
  intro l j p
  have lj := l j p
  rw [reservedOver_eq] at lj ⊢
  rw [shares_opened hn, ← lj, opened_account]
  have added (x : Account) := reserved_added x.reserved h tx.reservation p tx.account j
  simp only [onIndex, decide_eq_true_eq]
  cases hj : s.account j with
  | none =>
    have hne : tx.account ≠ j := by rintro rfl; rw [hj] at ha; cases ha
    simp [hne]
  | some x =>
    refine Eq.trans ?_ (added x)
    split <;> rfl

include hn in
theorem opened_reservationLaw : ReservationLaw s → ReservationLaw (opened h tx s) := by
  intro l
  rw [reservationLaw_iff] at l ⊢
  intro c
  rw [shares_opened hn, ← l c]
  simp only [inComp, decide_eq_true_eq]
  by_cases hc : c = compOf h
  · subst hc
    rw [opened_comp, if_pos rfl]
  · rw [opened_comp_ne _ _ hc, if_neg fun e => hc e.symm, Nat.add_zero]

include hn in
/-- R147: the commitment is that of the context that opens. -/
theorem opened_capacityLaw (hc : canCommit s = true) : CapacityLaw s → CapacityLaw (opened h tx s) := by
  rintro ⟨hl, hle⟩
  have count := contextCount_change (s := s) (t := opened h tx s) (fun _ hg => opened_tx_ne tx s hg)
    (opened_touches h tx s .delivery (by decide))
  rw [hn, opened_tx] at count
  have count : contextCount (opened h tx s).store = contextCount s.store + 1 := count
  have free : s.store.log.records.length + s.store.log.commitments < 1024 := (of_decide_eq_true hc).1
  rw [CapacityLaw, opened_log, count]
  constructor
  · rw [← hl]
  · exact free

theorem opened_namingLaw : NamingLaw s → NamingLaw (opened h tx s) := by
  have accounts : ∀ j, (s.account j).isSome → ((opened h tx s).account j).isSome := by
    intro j hj
    rw [opened_account]
    split
    · rw [Option.isSome_map]; exact hj
    · exact hj
  rintro ⟨hm, hq⟩
  refine ⟨fun j x hx => accounts _ ?_, fun u hu f hf => accounts _ ?_⟩
  · rw [opened_machine] at hx
    split at hx
    · obtain ⟨y, hy, rfl⟩ := Option.map_eq_some_iff.mp hx
      exact hm j y hy
    · exact hm j x hx
  · rw [opened_touches h tx s .queue (by decide)] at hu
    exact hq u hu f hf

include hn in
theorem opened_storeKept (ho : MayOpen h tx m s) : StoreKept s (opened h tx s) :=
  ⟨opened_capacityLaw hn ho.slot, opened_reservationLaw hn, opened_namingLaw, opened_entryLaw hn ho.entry,
    fun l => opened_accountLaw hn (ho.account ▸ l.1 _ m ho.entry)⟩

/-- R91, R116: a fill begins with nothing counted, and within the stock of a NORMAL compartment. -/
theorem opened_meterKept (c : Comp) (ho : MayOpen h tx m s) : MeterKept c s (opened h tx s) := by
  have inhibits : ((opened h tx s).comp c).inhibit = (s.comp c).inhibit := by
    by_cases hc : c = compOf h
    · subst hc; rw [opened_comp]
    · rw [opened_comp_ne _ _ hc]
  refine ⟨fun l hi f x hf hx => ?_, fun _ _ l hi => ?_⟩
  · rw [inhibits] at hi
    by_cases hfh : f = h
    · subst hfh
      rw [opened_tx] at hx
      cases hx
      exact ⟨by simp [ho.uncounted], ho.unnoted⟩
    · rw [opened_tx_ne _ _ hfh] at hx
      exact l hi f x hf hx
  · rw [inhibits] at hi
    by_cases hc : c = compOf h
    · subst hc
      rw [opened_comp]
      exact_mod_cast ho.stock
    · rw [opened_comp_ne _ _ hc]
      exact l hi

end Opened

theorem tx_of_not_filling (l : ContextLaw s) (hp : s.power = .on) (hf : (s.hose h).state.isFilling = false) :
    s.tx h = none := by
  have l := l (by simp [hp]) h
  rwa [hf, Option.isSome_eq_false_iff, Option.isNone_iff_eq_none] at l

/-- R75, R76: a fill that opens keeps the laws. -/
theorem opened_keeps (hp : s.power = .on) (hf : (s.hose h).state.isFilling = false) (hx : MayOpen h tx m s) :
    Keeps s (opened h tx s) := by
  have ho := opened_touches h tx s
  have own := opened_state h tx s
  obtain ⟨stand, hold⟩ := holds_of_take (t := opened h tx s) hx.hold
    (by simp only [holding, own, opened_tx, Option.map_some]) fun g hg =>
      holding_of_roles (by rw [opened_hose_ne _ _ hg]) (by rw [opened_tx_ne _ _ hg])
  refine ⟨⟨tagLaw_of_fields (ho .queue (by decide)) fun j x hm => ?_,
    .of_held (ho .queue (by decide)) (ho .power (by decide)) (held_of_holding stand), hold, fun l hon g => ?_,
    fun l => opened_storeKept (tx_of_not_filling l hp hf) hx⟩,
    fun _ c => opened_meterKept c hx⟩
  · have machines : (opened h tx s).store.machines = (s.onMachine tx.machine _).store.machines :=
      (opened_after_reserve h tx s .machines (by decide)).trans (onAccount_touches _ _ _ .machines (by decide))
    rw [machines] at hm
    refine mem_onMachine ?_ hm
    exact fun _ => rfl
  · by_cases hg : g = h
    · subst hg
      rw [own, opened_tx]
      rfl
    · rw [opened_tx_ne _ _ hg, opened_hose_ne _ _ hg]
      exact l (by rw [hp]; decide) g

theorem settle_keeps (c : Comp) (s : State) : Keeps s (settle c s) := (settle_touches c s).keeps

theorem openFill_keeps (hp : s.power = .on) (hf : (s.hose g.hose).state.isFilling = false)
    (hh : MayHold g.hose g.machine s) (hm : s.machine g.machine = some m) (hr : grantRefusal g m s = none) :
    Keeps s (openFill g m s) := by
  obtain ⟨hc, hl⟩ := grantRefusal_none hr
  have stock : ((s.comp (compOf g.hose)).reservations +
      ((limitOf g m s).toNat + (s.config g.hose).overrunAllowance : Nat) : Int) ≤
        max (s.comp (compOf g.hose)).book 0 := by
    have bound := limitOf_le_available g m s
    rw [available] at bound
    omega
  rw [openFill_eq]
  exact ((opened_keeps hp hf ⟨hh, hc, hm, rfl, rfl, rfl, stock⟩).trans
    (evalStage_keeps (opened_state _ _ _))).trans (settle_keeps _ _)

/-- R71: a grant asked for by a hose that has no fill and may hold the entry. -/
theorem grant_keeps (hp : s.power = .on) (hf : (s.hose g.hose).state.isFilling = false)
    (hh : MayHold g.hose g.machine s) : Keeps s (grant g s) := by
  unfold grant
  split
  · exact .refl s
  · rename_i m hm
    split
    · exact refuseHose_keeps hp hf _
    · rename_i hr
      exact openFill_keeps hp hf hh hm hr

/-! ## The lookup and the directed authorisation (R61 to R63, R68) -/

theorem heldByOther_of_entryRefusal (hr : entryRefusal h k m s = none) : heldByOther s h k = false := by
  unfold entryRefusal at hr
  split at hr
  · cases hr
  · split at hr
    · cases hr
    · split at hr
      · cases hr
      · rename_i hb
        exact Bool.eq_false_of_not_eq_true hb

section Identifying

variable (hp : s.power = .on) (hi : (s.hose h).state = .identifying)

include hi in
theorem mayHold_of_identifying (hr : heldByOther s h k = false) : MayHold h k s :=
  .free (by simp only [holding, hi]) hr

include hp hi in
theorem identified_keeps (id : TagId) (hr : heldByOther s h k = false) : Keeps s (identified h k id m s) := by
  have hf : (s.hose h).state.isFilling = false := by rw [hi]; rfl
  have hh := mayHold_of_identifying hi hr
  unfold identified
  exact .ite (fun _ => .ite (fun _ => enterAwaiting_keeps id hf hh) fun _ => grant_keeps hp hf hh)
    fun _ => .ite (fun _ => grant_keeps hp hf hh) fun _ => refuseHose_keeps hp hf .noLink

include hp hi in
theorem lookup_keeps (id : TagId) : Keeps s (lookup h id s) := by
  have refused (r : Reason) : Keeps s (refuseHose h r s) := refuseHose_keeps hp (by rw [hi]; rfl) r
  unfold lookup
  split
  · exact refused _
  · split
    · exact refused _
    · unfold testEntry
      refine .ite (fun _ => refused _) fun _ => ?_
      split
      · exact refused _
      · rename_i hr
        exact identified_keeps hp hi id (heldByOther_of_entryRefusal hr)

include hp hi in
theorem authorise_keeps (preset : Option Int) : Keeps s (authorise h k preset m s) := by
  have hf : (s.hose h).state.isFilling = false := by rw [hi]; rfl
  unfold authorise
  refine .ite (fun _ => refuseHose_keeps hp hf _) fun _ => ?_
  split
  · exact refuseHose_keeps hp hf _
  · rename_i hr
    exact grant_keeps hp hf (mayHold_of_identifying hi (heldByOther_of_entryRefusal hr))

end Identifying

end Sys2Proof.Machine
end

section
/-! PROOF. The laws of O21 and O38 over the close of a fill (R41, R45, R52, R92 to R94). -/

namespace Sys2Proof.Machine

variable {s t : State} {h : Hose} {x tx : Transaction}

/-- R92 steps 2 to 7: the state with a fill of hose `h` charged as `x` and its transaction gone. -/
def settledFill (h : Hose) (x : Transaction) (s : State) : State := (chargeFill h x s).putTx h none

theorem settledFill_touches (h : Hose) (x : Transaction) (s : State) :
    OnlyIn (.machines :: .accounts :: .txs :: .comps :: .log :: quietParts) s (settledFill h x s) :=
  ((chargeFill_touches h x s).mono (by decide)).then (only_setTxs _ _) (by decide)

theorem settledFill_tx (h : Hose) (x : Transaction) (s : State) : (settledFill h x s).tx h = none :=
  State.tx_putTx _ _

theorem settledFill_tx_ne (x : Transaction) (s : State) {g : Hose} (hg : g ≠ h) :
    (settledFill h x s).tx g = s.tx g :=
  (State.tx_putTx_ne _ _ hg).trans ((chargeFill_touches h x s).tx g)

theorem settledFill_machine (h : Hose) (x : Transaction) (s : State) (j : Nat) : (settledFill h x s).machine j =
    if j = x.machine then (s.machine j).map (chargedEntry h x s) else s.machine j := by
  change (chargeFill h x s).machine j = _
  split
  · rename_i hj
    subst hj
    exact chargeFill_machine h x s
  · exact chargeFill_machine_ne h s ‹_›

theorem settledFill_account (h : Hose) (x : Transaction) (s : State) (j : Nat) : (settledFill h x s).account j =
    if j = x.account then (s.account j).map (Account.charge (productOf h) x.volume.netMl x.reservation
      (chargeOf x.volume.netMl x.rate)) else s.account j := by
  change (chargeFill h x s).account j = _
  rw [State.account, chargeFill_accounts]
  split
  · rename_i hj
    subst hj
    exact onAccount_self _ _ s
  · exact onAccount_ne _ s ‹_›

/-- R41, R52: a field that holds reservations after R mL are released for a product. -/
theorem reserved_released (v : PerProduct Nat) (h : Hose) (r : Nat) (p : Product) (i j : Nat) :
    (if j = i then (releaseReserved (productOf h) r v).get p else v.get p) =
      v.get p - if productOf h = p ∧ i = j then r else 0 := by
  by_cases hj : j = i
  · subst hj
    rw [if_pos rfl, releaseReserved, PerProduct.get_set]
    by_cases hp : p = productOf h
    · subst hp; simp
    · rw [if_neg hp, if_neg fun e => hp e.1.symm, Nat.sub_zero]
  · rw [if_neg hj, if_neg fun e => hj e.2.symm, Nat.sub_zero]

section Settled

variable (ht : s.tx h = some tx) (hx : x.terms = tx.terms)

theorem reservation_of_terms (hx : x.terms = tx.terms) : x.reservation = tx.reservation :=
  congrArg (fun y => y.2.2) hx

include ht hx in
theorem shares_settled (p : Hose → Transaction → Bool) (hp : p h x = p h tx) :
    shares p (settledFill h x s) + (if p h x then x.reservation else 0) = shares p s := by
  have change := shares_change p (s := s) (t := settledFill h x s) fun _ hg => settledFill_tx_ne x s hg
  rw [share_of_none (settledFill_tx h x s), share_of_some ht] at change
  rw [hp, reservation_of_terms hx]
  exact change

include ht hx in
theorem settledFill_entryLaw : EntryReservationLaw s → EntryReservationLaw (settledFill h x s) := by
  intro l j p
  have lj := l j p
  have sum := shares_settled ht hx _ (onMachine_terms j p h hx)
  have released (m : MachineEntry) := reserved_released m.reserved h x.reservation p x.machine j
  rw [reservedOver_eq] at lj ⊢
  rw [← lj] at sum
  simp only [onIndex, decide_eq_true_eq] at sum
  rw [settledFill_machine]
  cases hj : s.machine j with
  | none =>
    rw [hj] at sum
    have gone : (0 : Nat) = shares (onIndex Transaction.machine j p) (settledFill h x s) := by
      simp only [Option.map_none, Option.getD_none] at sum
      exact (Nat.eq_zero_of_add_eq_zero_right sum).symm
    refine Eq.trans ?_ gone
    split <;> rfl
  | some m =>
    rw [hj] at sum
    have value : ((if j = x.machine then (some m).map (chargedEntry h x s) else some m).map
        fun m => m.reserved.get p).getD 0 = m.reserved.get p -
          if productOf h = p ∧ x.machine = j then x.reservation else 0 := by
      rw [← released m]
      split <;> rfl
    exact value.trans (Nat.eq_sub_of_add_eq sum).symm

include ht hx in
theorem settledFill_accountLaw : AccountReservationLaw s → AccountReservationLaw (settledFill h x s) := by
  intro l j p
  have lj := l j p
  have sum := shares_settled ht hx _ (onAccount_terms j p h hx)
  have released (a : Account) := reserved_released a.reserved h x.reservation p x.account j
  rw [reservedOver_eq] at lj ⊢
  rw [← lj] at sum
  simp only [onIndex, decide_eq_true_eq] at sum
  rw [settledFill_account]
  cases hj : s.account j with
  | none =>
    rw [hj] at sum
    have gone : (0 : Nat) = shares (onIndex Transaction.account j p) (settledFill h x s) := by
      simp only [Option.map_none, Option.getD_none] at sum
      exact (Nat.eq_zero_of_add_eq_zero_right sum).symm
    refine Eq.trans ?_ gone
    split <;> rfl
  | some a =>
    rw [hj] at sum
    have value : ((if j = x.account then (some a).map (Account.charge (productOf h) x.volume.netMl x.reservation
        (chargeOf x.volume.netMl x.rate)) else some a).map fun a => a.reserved.get p).getD 0 = a.reserved.get p -
          if productOf h = p ∧ x.account = j then x.reservation else 0 := by
      rw [← released a]
      split <;> rfl
    exact value.trans (Nat.eq_sub_of_add_eq sum).symm

theorem settledFill_comp (h : Hose) (x : Transaction) (s : State) :
    ((settledFill h x s).comp (compOf h)).book = (s.comp (compOf h)).book - (x.volume.net / 1000 : Nat) ∧
      ((settledFill h x s).comp (compOf h)).reservations = (s.comp (compOf h)).reservations - x.reservation ∧
      ((settledFill h x s).comp (compOf h)).inhibit = (s.comp (compOf h)).inhibit := by
  have same : (settledFill h x s).comp (compOf h) = (chargeFill h x s).comp (compOf h) := rfl
  rw [same, chargeFill_comp]
  exact ⟨rfl, rfl, rfl⟩

theorem settledFill_comp_ne (h : Hose) (x : Transaction) (s : State) : OtherComp (compOf h) s (settledFill h x s) :=
  chargeFill_otherComp h x s

include ht hx in
theorem settledFill_reservationLaw : ReservationLaw s → ReservationLaw (settledFill h x s) := by
  intro l
  rw [reservationLaw_iff] at l ⊢
  intro c
  have sum := shares_settled ht hx (inComp c) rfl
  simp only [inComp, decide_eq_true_eq] at sum
  rw [← l c] at sum
  by_cases hc : c = compOf h
  · subst hc
    obtain ⟨-, hr, -⟩ := settledFill_comp h x s
    rw [if_pos rfl] at sum
    rw [hr]
    exact (Nat.eq_sub_of_add_eq sum).symm
  · rw [if_neg fun e => hc e.symm, Nat.add_zero] at sum
    rw [settledFill_comp_ne h x s c hc]
    exact sum.symm

include ht in
/-- R148: the record takes the slot of the context that ends. -/
theorem settledFill_capacityLaw : CapacityLaw s → CapacityLaw (settledFill h x s) := by
  rintro ⟨hl, hle⟩
  have count := contextCount_change (s := s) (t := settledFill h x s) (fun _ hg => settledFill_tx_ne x s hg)
    (settledFill_touches h x s .delivery (by decide))
  rw [ht, settledFill_tx] at count
  have count : contextCount (settledFill h x s).store + 1 = contextCount s.store := count
  have log : (settledFill h x s).store.log = (chargeFill h x s).store.log := rfl
  rw [CapacityLaw, log, chargeFill_log]
  dsimp only
  rw [List.length_append, List.length_singleton]
  omega

theorem settledFill_namingLaw : NamingLaw s → NamingLaw (settledFill h x s) := by
  have accounts : ∀ j, (s.account j).isSome → ((settledFill h x s).account j).isSome := by
    intro j hj
    rw [settledFill_account]
    split
    · rw [Option.isSome_map]; exact hj
    · exact hj
  rintro ⟨hm, hq⟩
  refine ⟨fun j m hj => accounts _ ?_, fun u hu f hf => accounts _ ?_⟩
  · rw [settledFill_machine] at hj
    split at hj
    · obtain ⟨y, hy, rfl⟩ := Option.map_eq_some_iff.mp hj
      exact hm j y hy
    · exact hm j m hj
  · rw [settledFill_touches h x s .queue (by decide)] at hu
    exact hq u hu f hf

include ht hx in
theorem settledFill_storeKept : StoreKept s (settledFill h x s) :=
  ⟨settledFill_capacityLaw ht, settledFill_reservationLaw ht hx, settledFill_namingLaw, settledFill_entryLaw ht hx,
    fun _ => settledFill_accountLaw ht hx⟩

include ht hx in
/-- R91, R116: a fill within its reservation takes no more from the book of a NORMAL compartment than it releases. -/
theorem settledFill_meterKept (c : Comp) (hv : x.volume = tx.volume) : MeterKept c s (settledFill h x s) := by
  obtain ⟨hb, hr, hi⟩ := settledFill_comp h x s
  have inhibits : ((settledFill h x s).comp c).inhibit = (s.comp c).inhibit := by
    by_cases hc : c = compOf h
    · subst hc; exact hi
    · rw [settledFill_comp_ne h x s c hc]
  refine ⟨fun l hn g y hg hy => ?_, fun lr lo l hn => ?_⟩
  · rw [inhibits] at hn
    have hgh : g ≠ h := by rintro rfl; rw [settledFill_tx] at hy; cases hy
    rw [settledFill_tx_ne x s hgh] at hy
    exact l hn g y hg hy
  · rw [inhibits] at hn
    by_cases hc : c = compOf h
    · subst hc
      have stock := l hn
      obtain ⟨within, -⟩ := lo hn h tx rfl ht
      have sum := shares_settled ht hx (inComp (compOf h)) rfl
      rw [← (reservationLaw_iff s).mp lr] at sum
      simp only [inComp, decide_true, if_true] at sum
      rw [hb, hr, hv, reservation_of_terms hx]
      rw [reservation_of_terms hx] at sum
      omega
    · rw [settledFill_comp_ne h x s c hc]
      exact l hn

end Settled

/-! ## The close (R92) -/

theorem mem_settledFill {j : Nat} {m : MachineEntry} (hm : (j, m) ∈ (settledFill h x s).store.machines) :
    ∃ y, (j, y) ∈ s.store.machines ∧ m.fields = y.fields := by
  have hm : (j, m) ∈ (chargeFill h x s).store.machines := hm
  rw [chargeFill_eq] at hm
  obtain ⟨y, hy, he⟩ := mem_onMachine (by intro _; rfl) hm
  rw [chargedRecorded_machines] at hy
  obtain ⟨z, hz, he'⟩ := mem_onMachine (by intro _; rfl) hy
  exact ⟨z, hz, he.trans he'⟩

theorem settledFill_tagLaw : TagLaw s → TagLaw (settledFill h x s) :=
  tagLaw_of_fields (settledFill_touches h x s .queue (by decide)) fun _ _ hm => mem_settledFill hm

/-- R92 steps 2 to 9: the state with a fill charged and its hose at rest, before the hold on the entry ends. -/
def closedFill (h : Hose) (x : Transaction) (s : State) : State :=
  (settledFill h x s).putHose h { HoseCtl.atRest (closedState h (settledFill h x s)) with
    completion := some (completionOf x s.store.log.nextSeq) }

theorem closeFill_eq (ht : s.tx h = some tx) : closeFill h s =
    settle (compOf h) (stopInterval (meterOf h) (endHold tx.machine (closedFill h tx s))) := by
  simp only [closeFill, ht]
  rfl

theorem closedFill_touches (h : Hose) (x : Transaction) (s : State) :
    OnlyIn (.hoses :: .machines :: .accounts :: .txs :: .comps :: .log :: quietParts) s (closedFill h x s) :=
  ((settledFill_touches h x s).mono (by decide)).then (only_setHoses _ _) (by decide)

theorem closedFill_state (h : Hose) (x : Transaction) (s : State) :
    ((closedFill h x s).hose h).state = closedState h (settledFill h x s) := by
  rw [closedFill, State.hose_putHose]
  rfl

theorem closedFill_hose_ne (x : Transaction) (s : State) {g : Hose} (hg : g ≠ h) :
    (closedFill h x s).hose g = s.hose g :=
  (State.hose_putHose_ne _ _ hg).trans ((settledFill_touches h x s).hose g)

theorem role_closedState (h : Hose) (s : State) : (closedState h s).role = (false, none) := by
  unfold closedState
  split <;> rfl

/-- R42: the close of a fill ends the hold of its hose on the entry. -/
theorem closedFill_leaves (ht : s.tx h = some tx) (hf : (s.hose h).state.isFilling) :
    Leaves tx.machine s (closedFill h tx s) := by
  have ho := closedFill_touches h tx s
  have rest : OnlyIn [.hoses] (settledFill h tx s) (closedFill h tx s) := only_setHoses _ _
  have own : holding (closedFill h tx s) h = none := by
    rw [holding_eq, closedFill_state, role_closedState]
    rfl
  have others : ∀ g, g ≠ h → holding (closedFill h tx s) g = holding s g := fun g hg =>
    holding_of_roles (by rw [closedFill_hose_ne _ _ hg]) (by rw [rest.tx, settledFill_tx_ne _ _ hg])
  have held : ∀ j, holding s h = some j → j = tx.machine := by
    intro j hj
    rw [holding_eq, HoseState.role, hf, ht] at hj
    exact (Option.some.inj hj).symm
  refine ⟨fun l => ?_, queueBut_of_leave (ho .queue (by decide)) (ho .power (by decide)) others held,
    .of_leave own others, fun l hon g => ?_,
    fun _ => (settledFill_storeKept ht rfl).trans (.of_same rest.capacityLaw rfl rfl rfl (fun _ => rfl) fun _ => rfl),
    fun _ c => (settledFill_meterKept ht rfl c rfl).trans (settledFill_storeKept ht rfl) (rest.meterKept c)⟩
  · exact .of_subset (fun j id => (tagOf_congr (rest .machines (by decide)) (rest .queue (by decide)) j id).mp)
      (settledFill_tagLaw l)
  · by_cases hg : g = h
    · subst hg
      rw [rest.tx, settledFill_tx, closedFill_state]
      exact (congrArg Prod.fst (role_closedState g (settledFill g tx s))).symm
    · rw [rest.tx, settledFill_tx_ne _ _ hg, closedFill_hose_ne _ _ hg]
      exact l (by rw [← ho .power (by decide)]; exact hon) g

/-- R92: the close of a fill keeps every law. -/
theorem closeFill_keeps (hp : s.power = .on) (hf : (s.hose h).state.isFilling) : Keeps s (closeFill h s) := by
  cases ht : s.tx h with
  | none =>
    have same : closeFill h s = s := by simp only [closeFill, ht]
    rw [same]
    exact .refl s
  | some tx =>
    have hpc : (closedFill h tx s).power = .on := by rw [closedFill_touches h tx s .power (by decide)]; exact hp
    rw [closeFill_eq ht]
    exact (((closedFill_leaves ht hf).endHold hpc).trans (stopInterval_touches _ _).keeps).trans (settle_keeps _ _)

end Sys2Proof.Machine
end

section
/-! PROOF. The laws of O21 and O38 over the compartments, the deliveries and the log (R115, R119, R124, R131, R134 to
R148, R155, R156, R161). -/

namespace Sys2Proof.Machine

variable {s t u : State} {h : Hose} {c : Comp} {d : Delivery}

/-! ## Compartments -/

theorem setStale_keeps (c : Comp) (s : State) : Keeps s (setStale c s) :=
  putComp_keeps _ rfl (.inr ⟨rfl, .inl le_rfl⟩)

theorem afterBookChange_keeps (c : Comp) (s : State) : Keeps s (afterBookChange c s) :=
  (setStale_keeps c s).trans (watchStock_touches _ _).keeps

theorem setTank_keeps (c : Comp) (o : TankOperands) (s : State) : Keeps s (setTank c o s) :=
  putComp_keeps _ rfl (.inr ⟨rfl, .inl le_rfl⟩)

theorem completeRun_keeps (c : Comp) (reqs : List Requester) (n sum : Nat) (s : State) :
    Keeps s (completeRun c reqs n sum s) := by
  have gauged : Keeps s (s.putComp c { s.comp c with gauging :=
      { ok := true, stale := false, values := some (valuesOf c (gaugeLevel c (sum / n) s) s) } }) :=
    putComp_keeps _ rfl (.inr ⟨rfl, .inl le_rfl⟩)
  exact (gauged.trans (setRun_touches c .idle _).keeps).trans (handResults_touches c _ reqs _).keeps

theorem failRun_keeps (c : Comp) (reqs : List Requester) (s : State) : Keeps s (failRun c reqs s) := by
  have failed : Keeps s (s.putComp c { s.comp c with gauging := { (s.comp c).gauging with ok := false } }) :=
    putComp_keeps _ rfl (.inr ⟨rfl, .inl le_rfl⟩)
  exact ((failed.trans (raiseAlarm_touches (.levelProbeFault c) _).keeps).trans (setRun_touches c .idle _).keeps).trans
    (handResults_touches c _ reqs _).keeps

theorem sampleRun_keeps (c : Comp) (level : Nat) (s : State) : Keeps s (sampleRun c level s) := by
  unfold sampleRun
  split
  · exact .ite (fun _ => completeRun_keeps _ _ _ _ s) fun _ => (setRun_touches _ _ s).keeps
  all_goals exact .refl s

theorem faultRun_keeps (c : Comp) (s : State) : Keeps s (faultRun c s) := by
  unfold faultRun
  split
  · exact failRun_keeps _ _ s
  all_goals exact .refl s

/-! ## Deliveries -/

/-- A change of an open delivery, which stays open. -/
theorem Keeps.of_delivery (ho : OnlyIn (.delivery :: quietParts) s t)
    (hd : t.store.delivery.isSome = s.store.delivery.isSome) : Keeps s t :=
  (Calm.of_log (ho.mono (by decide)) (.of_same (ho .log (by decide)) hd fun h => by rw [ho.tx])).keeps fun c =>
    ho.meterKept c

theorem drainDelivery_isSome (d : Delivery) (s : State) : (drainDelivery d s).store.delivery.isSome := by
  unfold drainDelivery
  rw [evalRest_touches _ _ .delivery (by decide)]
  rfl

theorem drainDelivery_keeps (d : Delivery) (hs : s.store.delivery.isSome) : Keeps s (drainDelivery d s) :=
  .of_delivery ((drainDelivery_touches d s).mono (by decide)) ((drainDelivery_isSome d s).trans hs.symm)

theorem isSome_of_delivery (hd : s.store.delivery = some d) : s.store.delivery.isSome := by rw [hd]; rfl

theorem closeInlet_keeps (cause : DeliveryCause) (s : State) : Keeps s (closeInlet cause s) := by
  unfold closeInlet
  split
  · rename_i d hd
    split
    · exact drainDelivery_keeps _ (isSome_of_delivery hd)
    all_goals exact .refl s
  · exact .refl s

theorem enterReceiving_isSome (d : Delivery) (s : State) : (enterReceiving d s).store.delivery.isSome := by
  unfold enterReceiving
  dsimp only
  split
  · exact drainDelivery_isSome _ _
  · rw [evalRest_touches _ _ .delivery (by decide)]
    rfl

theorem enterReceiving_keeps (d : Delivery) (hs : s.store.delivery.isSome) : Keeps s (enterReceiving d s) :=
  .of_delivery ((enterReceiving_touches d s).mono (by decide)) ((enterReceiving_isSome d s).trans hs.symm)

theorem countInletPulse_keeps (d : Delivery) (hs : s.store.delivery.isSome) : Keeps s (countInletPulse d s) :=
  .of_delivery ((countInletPulse_touches d s).mono (by decide)) hs.symm

theorem inletPulse_keeps (s : State) : Keeps s (inletPulse s) := by
  have stray : Keeps s (strayInletPulse s) := (strayInletPulse_touches s).keeps
  unfold inletPulse
  split
  · rename_i d hd
    split
    · exact countInletPulse_keeps d (isSome_of_delivery hd)
    · exact (countInletPulse_keeps d (isSome_of_delivery hd)).trans (only_setInlet _ _).keeps
    all_goals exact stray
  · exact stray

theorem offerLevel_keeps (c : Comp) (s : State) : Keeps s (offerLevel c s) := by
  unfold offerLevel
  split
  · exact .refl s
  · rename_i d hd
    refine .ite (fun _ => ?_) fun _ => .refl s
    split
    · exact .ite (fun _ => (raiseAlarm_touches _ s).keeps.trans (closeInlet_keeps _ _)) fun _ => .refl s
    · have noted : Keeps s (s.setDelivery (some { d with levelFault := true })) :=
        .of_delivery ((only_setDelivery _ s).mono (by decide)) (isSome_of_delivery hd).symm
      exact noted.trans (closeInlet_keeps _ _)

theorem recomputeHose_keeps (h : Hose) (s : State) : Keeps s (recomputeHose h s) := by
  unfold recomputeHose
  split
  · rename_i tx ht
    exact .of_some ht rfl rfl
  · exact .refl s

theorem recomputeVcf_keeps (m : Meter) (s : State) : Keeps s (recomputeVcf m s) := by
  unfold recomputeVcf
  cases m with
  | m1 => exact recomputeHose_keeps .h1 s
  | m2 => exact recomputeHose_keeps .h2 s
  | m3 => exact recomputeHose_keeps .h3 s
  | m4 =>
    dsimp only
    split
    · rename_i d hd
      exact .of_delivery ((only_setDelivery _ s).mono (by decide)) (isSome_of_delivery hd).symm
    · exact .refl s

theorem creditDelivery_isSome (d : Delivery) (s : State) : (creditDelivery d s).store.delivery.isSome := by
  rw [creditDelivery_eq, afterBookChange_touches _ _ .delivery (by decide)]
  rfl

theorem creditDelivery_calm (d : Delivery) (hs : s.store.delivery.isSome) : Calm s (creditDelivery d s) := by
  have ho := creditDelivery_touches d s
  refine ⟨ho.mono (by decide), fun h => by rw [ho.hose], fun h => by rw [ho.tx], fun c => ?_,
    .of_same (ho .log (by decide)) ((creditDelivery_isSome d s).trans hs.symm) fun h => by rw [ho.tx]⟩
  by_cases hc : c = d.comp
  · subst hc; rw [creditDelivery_comp]
  · rw [creditDelivery_otherComp d s c hc]

/-- R116, R143: a credit adds to the book. -/
theorem creditDelivery_keeps (d : Delivery) (hs : s.store.delivery.isSome) : Keeps s (creditDelivery d s) := by
  have ho := creditDelivery_touches d s
  have calm := creditDelivery_calm d hs
  refine calm.keeps fun c => ?_
  by_cases hc : c = d.comp
  · subst hc
    have comp := creditDelivery_comp d s
    exact .of_same (fun h _ => by rw [ho.tx]) (by rw [comp]; exact id) (calm.reservations _)
      (.inl (by rw [comp]; exact Int.le_add_of_nonneg_right (Int.natCast_nonneg _)))
  · have comp := creditDelivery_otherComp d s c hc
    exact .of_same (fun h _ => by rw [ho.tx]) (by rw [comp]; exact id) (calm.reservations _) (.inl (by rw [comp]))

theorem endDrain_keeps (cut : Bool) (s : State) : Keeps s (endDrain cut s) := by
  unfold endDrain
  split
  · exact .refl s
  · rename_i d hd
    split
    · exact ((creditDelivery_keeps _ (isSome_of_delivery hd)).trans (evalRest_touches _ _).keeps).trans
        (requestRun_touches _ _ _).keeps
    all_goals exact .refl s

/-! ## The log and its commitments (R147, R148) -/

theorem contextCount_congr (ht : t.store.txs = s.store.txs) (hd : t.store.delivery = s.store.delivery) :
    contextCount t.store = contextCount s.store := by
  unfold contextCount
  rw [ht, hd]

/-- What the delivery counts for among the commitments. -/
def contextOfDelivery (x : Option Delivery) : Nat := if x.isSome then 1 else 0

/-- A change of the delivery's context, the hoses' standing. -/
theorem contextCount_delivery (ht : t.store.txs = s.store.txs) :
    contextCount t.store + contextOfDelivery s.store.delivery =
      contextCount s.store + contextOfDelivery t.store.delivery := by
  simp only [contextCount, ht, contextOfDelivery]
  omega

/-- A change of the log and the delivery, the commitments staying those of the contexts. -/
theorem Keeps.of_log (ho : OnlyIn (.log :: .delivery :: quietParts) s t) (hc : CapacityLaw s → CapacityLaw t) :
    Keeps s t :=
  (Calm.of_log ho hc).keeps fun c => ho.meterKept c

/-- The same commitments with no more records. -/
theorem Keeps.of_fewer (ho : OnlyIn (.log :: quietParts) s t)
    (hl : t.store.log.records.length ≤ s.store.log.records.length)
    (hc : t.store.log.commitments = s.store.log.commitments) : Keeps s t := by
  refine .of_log (ho.mono (by decide)) fun ⟨h1, h2⟩ => ?_
  have same := contextCount_congr (ho .txs (by decide)) (ho .delivery (by decide))
  exact ⟨by rw [hc, same]; exact h1, by rw [hc]; exact (Nat.add_le_add_right hl _).trans h2⟩

theorem recordDelivery_calm (d : Delivery) (post : Option DeliveryGauge) (hs : s.store.delivery.isSome) :
    Calm s (recordDelivery d post s) := by
  have ho := recordDelivery_touches d post s
  refine .of_log (ho.mono (by decide)) fun ⟨hl, hle⟩ => ?_
  have count := contextCount_delivery (ho .txs (by decide))
  have before : contextOfDelivery s.store.delivery = 1 := if_pos hs
  have after : contextOfDelivery (recordDelivery d post s).store.delivery = 0 := rfl
  have log : (recordDelivery d post s).store.log = _ := writeRecord_log _ s
  rw [CapacityLaw, log]
  dsimp only
  rw [List.length_append, List.length_singleton]
  omega

theorem recordDelivery_keeps (d : Delivery) (post : Option DeliveryGauge) (hs : s.store.delivery.isSome) :
    Keeps s (recordDelivery d post s) :=
  (recordDelivery_calm d post hs).keeps fun c => (recordDelivery_touches d post s).meterKept c

theorem cancelDelivery_calm (hs : s.store.delivery.isSome) : Calm s (cancelDelivery s) := by
  have ho := cancelDelivery_touches s
  refine .of_log (ho.mono (by decide)) fun ⟨hl, hle⟩ => ?_
  have count := contextCount_delivery (ho .txs (by decide))
  have before : contextOfDelivery s.store.delivery = 1 := if_pos hs
  have after : contextOfDelivery (cancelDelivery s).store.delivery = 0 := rfl
  rw [CapacityLaw, cancelDelivery_log, released]
  dsimp only
  omega

theorem cancelDelivery_keeps (hs : s.store.delivery.isSome) : Keeps s (cancelDelivery s) :=
  (cancelDelivery_calm hs).keeps fun c => (cancelDelivery_touches s).meterKept c

theorem takeCommitment_log (s : State) : (takeCommitment s).store.log =
    { s.store.log with commitments := s.store.log.commitments + 1 } :=
  watchLog_touches _ .log (by decide)

theorem free_of_canCommit (hc : canCommit s = true) :
    s.store.log.records.length + s.store.log.commitments < 1024 := (of_decide_eq_true hc).1

theorem openDelivery_keeps (docket : Text) (declared : Option Int) (hn : s.store.delivery.isSome = false)
    (hc : canCommit s = true) : Keeps s (openDelivery c docket declared s) := by
  have ho : OnlyIn (.log :: .delivery :: quietParts) s
      ((takeCommitment s).setDelivery (some (newDelivery c docket declared))) :=
    ((takeCommitment_touches s).mono (by decide)).then (only_setDelivery _ _) (by decide)
  have opened : Keeps s ((takeCommitment s).setDelivery (some (newDelivery c docket declared))) := by
    refine .of_log ho fun ⟨hl, hle⟩ => ?_
    have count := contextCount_delivery (ho .txs (by decide))
    have before : contextOfDelivery s.store.delivery = 0 := if_neg (by simp [hn])
    have after : contextOfDelivery
        ((takeCommitment s).setDelivery (some (newDelivery c docket declared))).store.delivery = 1 := rfl
    have free := free_of_canCommit hc
    have log : ((takeCommitment s).setDelivery (some (newDelivery c docket declared))).store.log = _ :=
      takeCommitment_log s
    rw [CapacityLaw, log]
    dsimp only
    omega
  exact (opened.trans (only_setSelector _ _).keeps).trans (requestRun_touches _ _ _).keeps

theorem closeDelivery_keeps (hd : s.store.delivery = some d) : Keeps s (closeDelivery d s) := by
  unfold closeDelivery
  split
  · have hs : (cancelRequest d.comp .preDelivery s).store.delivery.isSome := by
      rw [cancelRequest_touches _ _ _ .delivery (by decide)]
      exact isSome_of_delivery hd
    exact (cancelRequest_touches _ _ _).keeps.trans (cancelDelivery_keeps hs)
  · exact closeInlet_keeps _ s
  all_goals exact .refl s

/-- R147, R148: a record that is written into a slot committed with it leaves the other commitments. -/
theorem committedRecord_capacityLaw (body : RecordBody) (hc : canCommit s = true)
    (hl : u.store.log = (takeCommitment s).store.log) (ht : u.store.txs = s.store.txs)
    (hd : u.store.delivery = s.store.delivery) : CapacityLaw s → CapacityLaw (writeRecord body u) := by
  rintro ⟨hcount, hle⟩
  have free := free_of_canCommit hc
  have ho := writeRecord_touches body u
  have same := contextCount_congr ((ho .txs (by decide)).trans ht) ((ho .delivery (by decide)).trans hd)
  rw [CapacityLaw, writeRecord_log, hl, takeCommitment_log, same]
  dsimp only
  rw [List.length_append, List.length_singleton]
  omega

/-- The state with a slot committed and the book of a compartment set, before the adjustment is recorded. -/
def bookSet (c : Comp) (after : Int) (s : State) : State :=
  (takeCommitment s).putComp c (((takeCommitment s).comp c).adjust after)

/-- R116, R131: a book that is adjusted while nothing is reserved. -/
theorem adjustBook_keeps (o : AdjustOperands) (after : Int) (hr : (s.comp c).reservations = 0)
    (hc : canCommit s = true) : Keeps s (adjustBook c o after s) := by
  have take := takeCommitment_touches s
  have same : (takeCommitment s).comp c = s.comp c := take.comp c
  have write := writeRecord_touches (.adjust (adjustRecord c o after s)) (bookSet c after s)
  have ho : OnlyIn (.comps :: .log :: quietParts) s
      (writeRecord (.adjust (adjustRecord c o after s)) (bookSet c after s)) :=
    ((take.mono (by decide)).then (only_setComps _ _) (by decide)).then write (by decide)
  have own : (writeRecord (.adjust (adjustRecord c o after s)) (bookSet c after s)).comp c =
      (s.comp c).adjust after := by
    rw [write.comp, bookSet, State.comp_putComp, same]
  have others : OtherComp c s (writeRecord (.adjust (adjustRecord c o after s)) (bookSet c after s)) := fun e he => by
    rw [write.comp, bookSet, State.comp_putComp_ne _ _ he, take.comp]
  have calm : Calm s (writeRecord (.adjust (adjustRecord c o after s)) (bookSet c after s)) := by
    refine ⟨ho.mono (by decide), fun h => by rw [ho.hose], fun h => by rw [ho.tx], fun e => ?_,
      committedRecord_capacityLaw _ hc rfl (take .txs (by decide)) (take .delivery (by decide))⟩
    by_cases he : e = c
    · subst he; rw [own]; rfl
    · rw [others e he]
  refine (calm.keeps fun e => ?_).trans (afterBookChange_keeps _ _)
  by_cases he : e = c
  · subst he
    exact .of_same (fun h _ => by rw [ho.tx]) (by rw [own]; exact id) (by rw [own]; rfl) (.inr (by rw [own]; exact hr))
  · exact .of_same (fun h _ => by rw [ho.tx]) (by rw [others e he]; exact id) (by rw [others e he])
      (.inl (by rw [others e he]))

end Sys2Proof.Machine
end

section
/-! PROOF. The laws of O21 and O38 over the writes of the registry and the accounts, the close of a shift and the
clearing of an inhibit (R39, R41, R43, R44, R47, R48, R53, R54, R112, R161). -/

namespace Sys2Proof.Machine

variable {s t : State} {h : Hose} {c : Comp} {k : Nat} {u v : Update} {q : List Update} {f : MachineFields}
  {id : TagId}

/-- An update that a request may bring: it finds a slot (R44), names an account that is not EMPTY (R47), and its tags
are of no other entry (R39). -/
structure Admitted (u : Update) (s : State) : Prop where
  slot : queueBusy s u.entry = false
  named : u.named s
  untaken : ∀ f id, u.contents = some f → (carries f id).isSome → tagTaken s u.entry id = false

/-! ## The queue after an update joins it (R44) -/

theorem mem_enqueue (hv : v ∈ enqueue u q) : v = u ∨ v ∈ q := by
  induction q with
  | nil => exact .inl (by simpa [enqueue] using hv)
  | cons w q ih =>
    simp only [enqueue] at hv
    split at hv
    · exact (List.mem_cons.mp hv).imp_right (List.mem_cons_of_mem _)
    · obtain rfl | hv := List.mem_cons.mp hv
      · exact .inr List.mem_cons_self
      · exact (ih hv).imp_right (List.mem_cons_of_mem _)

/-- R44: an update takes the place of the one for its entry, or the tail. -/
theorem enqueue_entries (u : Update) (q : List Update) : (enqueue u q).map Update.entry =
    if u.entry ∈ q.map Update.entry then q.map Update.entry else q.map Update.entry ++ [u.entry] := by
  induction q with
  | nil => simp [enqueue]
  | cons w q ih =>
    simp only [enqueue]
    by_cases hw : w.entry = u.entry
    · simp [hw]
    · rw [if_neg hw, List.map_cons, ih]
      have hw' : u.entry ≠ w.entry := fun e => hw e.symm
      by_cases hm : u.entry ∈ q.map Update.entry
      · simp [hm]
      · simp [hm, hw']

theorem enqueue_nodup (hn : (q.map Update.entry).Nodup) : ((enqueue u q).map Update.entry).Nodup := by
  rw [enqueue_entries]
  split
  · exact hn
  · rename_i hm
    exact List.nodup_append.mpr ⟨hn, List.nodup_singleton _, fun a ha b hb e => by
      rw [List.mem_singleton.mp hb] at e
      exact hm (e ▸ ha)⟩

/-- R43, R44: an update that the queue is not busy for leaves it at most 16 long. -/
theorem enqueue_length (hq : s.store.queue.length ≤ 16) (hk : held s u.entry = true)
    (hb : queueBusy s u.entry = false) : (enqueue u s.store.queue).length ≤ 16 := by
  have entries := congrArg List.length (enqueue_entries u s.store.queue)
  rw [List.length_map] at entries
  rw [entries]
  split
  · rw [List.length_map]; exact hq
  · rename_i hm
    have free : pendingUpdate s u.entry = none := List.find?_eq_none.mpr fun v hv he =>
      hm (of_decide_eq_true he ▸ List.mem_map_of_mem hv)
    have slots : ¬ 16 ≤ s.store.queue.length := by
      rw [queueBusy, hk, free] at hb
      exact of_decide_eq_false hb
    rw [List.length_append, List.length_map, List.length_singleton]
    omega

/-! ## Tags that a write gives (R39) -/

theorem tagTaken_of_tagOf {j : Nat} (ht : TagOf s j id) (hj : j ≠ k) : tagTaken s k id = true := by
  obtain ⟨m, hm, hc⟩ | ⟨w, hw, rfl, f, hf, hc⟩ := ht
  · exact Bool.or_eq_true_iff.mpr (.inl (List.any_eq_true.mpr ⟨_, hm, by simp [hj, hc]⟩))
  · exact Bool.or_eq_true_iff.mpr (.inr (List.any_eq_true.mpr ⟨w, hw, by simp [hj, hf, hc]⟩))

/-- R39: an entry that takes tags which no other entry has keeps the tags unique. -/
theorem TagLaw.of_untaken (ht : ∀ j id, TagOf t j id → TagOf s j id ∨ j = k ∧ tagTaken s k id = false) :
    TagLaw s → TagLaw t := by
  intro l i j id hi hj
  have own : ∀ j, TagOf s j id → tagTaken s k id = false → j = k := fun j hj hn => by
    by_contra hne
    rw [tagTaken_of_tagOf hj hne] at hn
    cases hn
  obtain hi | ⟨hi, hn⟩ := ht i id hi
  · obtain hj | ⟨hj, hn⟩ := ht j id hj
    · exact l i j id hi hj
    · exact (own i hi hn).trans hj.symm
  · obtain hj | ⟨hj, -⟩ := ht j id hj
    · exact hi.trans (own j hj hn).symm
    · exact hi.trans hj.symm

theorem tags_of_carries (hc : (carries f id).isSome) : f.tags.diesel = some id ∨ f.tags.fluid = some id := by
  unfold carries at hc
  split at hc
  · exact .inl ‹_›
  · split at hc
    · exact .inr ‹_›
    · cases hc

theorem tagTaken_of_not_duplicate (hd : duplicateTag s k f = false) (hc : (carries f id).isSome) :
    tagTaken s k id = false := by
  obtain ⟨hd, hf⟩ := Bool.or_eq_false_iff.mp hd
  obtain h | h := tags_of_carries hc
  · simpa [h] using hd
  · simpa [h] using hf

/-! ## MACHINE WRITE and MACHINE DELETE (R44, R47, R48) -/

theorem applyNow_keeps (hp : s.power = .on) (hk : held s u.entry = false) (hu : Admitted u s) :
    Keeps s (applyContents u s) := by
  have ho := applyContents_touches u s
  refine ⟨⟨.of_untaken (k := u.entry) fun j id hj => ?_, .of_held (ho .queue (by decide)) (ho .power (by decide))
    fun j hj => (ho.held j).trans hj, .of_holding fun h => ho.holding h, ho.contextLaw,
    fun l => applyContents_storeKept (fun _ => hu.named) fun _ p => reservedOver_of_not_held l hp hk p⟩,
    fun _ c => ho.meterKept c⟩
  obtain hj | ⟨hj, f, hf, hc⟩ := tagOf_applyContents hj
  · exact .inl hj
  · exact .inr ⟨hj, hu.untaken f id hf hc⟩

theorem enqueue_keeps (hk : held s u.entry = true) (hu : Admitted u s) :
    Keeps s (s.setQueue (enqueue u s.store.queue)) := by
  have ho : OnlyIn [.queue] s (s.setQueue (enqueue u s.store.queue)) := only_setQueue _ s
  refine ⟨⟨.of_untaken (k := u.entry) fun j id hj => ?_, fun ⟨hd, hh, hl⟩ => ⟨enqueue_nodup hd, fun hp v hv => ?_,
    enqueue_length hl hk hu.slot⟩, .of_holding fun h => ho.holding h, ho.contextLaw,
    fun _ => storeKept_setQueue _ fun ⟨hm, hq⟩ => ⟨hm, fun v hv => ?_⟩⟩, fun _ c => ho.meterKept c⟩
  · obtain hm | ⟨v, hv, he, f, hf, hc⟩ := hj
    · exact .inl (.inl hm)
    · obtain rfl | hv := mem_enqueue hv
      · exact .inr ⟨he.symm, hu.untaken f id hf hc⟩
      · exact .inl (.inr ⟨v, hv, he, f, hf, hc⟩)
  · rw [ho.held]
    obtain rfl | hv := mem_enqueue hv
    · exact hk
    · exact hh hp v hv
  · obtain rfl | hv := mem_enqueue hv
    · exact hu.named
    · exact hq v hv

theorem writeOrQueue_keeps (hp : s.power = .on) (hu : Admitted u s) : Keeps s (writeOrQueue u s) :=
  .ite (fun hk => enqueue_keeps hk hu) fun hk => applyNow_keeps hp (Bool.eq_false_of_not_eq_true hk) hu

/-! ## Accounts (R53, R54) -/

theorem Keeps.of_accounts (ho : OnlyIn [.accounts] s t) (hn : NamingLaw s → NamingLaw t)
    (ha : AccountReservationLaw s → AccountReservationLaw t) : Keeps s t :=
  ⟨⟨.of_subset fun j id => (tagOf_congr (ho .machines (by decide)) (ho .queue (by decide)) j id).mp,
    .of_held (ho .queue (by decide)) (ho .power (by decide)) fun j hj => (ho.held j).trans hj,
    .of_holding fun h => ho.holding h, ho.contextLaw,
    fun _ => ⟨ho.capacityLaw, ho.reservationLaw, hn, ho.entryLaw, fun _ => ha⟩⟩, fun _ c => ho.meterKept c⟩

/-- R47, R54: every account that is named stands. -/
theorem NamingLaw.of_accounts (ho : OnlyIn [.accounts] s t)
    (hm : ∀ j m, s.machine j = some m → (s.account m.fields.account).isSome → (t.account m.fields.account).isSome)
    (hq : ∀ v ∈ s.store.queue, ∀ f, v.contents = some f → (s.account f.account).isSome →
      (t.account f.account).isSome) : NamingLaw s → NamingLaw t := by
  rintro ⟨lm, lq⟩
  refine ⟨fun j m hj => ?_, fun v hv f hf => ?_⟩
  · rw [ho.machine] at hj
    exact hm j m hj (lm j m hj)
  · rw [ho .queue (by decide)] at hv
    exact hq v hv f hf (lq v hv f hf)

/-- R41, R52: what an account of this name holds reserved, 0 where it is EMPTY. -/
def accountReserved (p : Product) (a : Option Account) : Nat := (a.map fun a => a.reserved.get p).getD 0

theorem accountLaw_of_reserved (ho : OnlyIn [.accounts] s t)
    (hr : ∀ j p, accountReserved p (t.account j) = accountReserved p (s.account j)) :
    AccountReservationLaw s → AccountReservationLaw t := by
  intro l j p
  rw [reservedOver_eq, shares_congr _ (ho .txs (by decide)), ← reservedOver_eq]
  exact (hr j p).trans (l j p)

/-- R53: a write of an account. -/
def accountWritten (k : Nat) (f : AccountFields) (s : State) : State :=
  s.setAccounts (tablePut s.store.accounts k (writtenAccount f (s.account k)))

theorem accountWritten_account (k : Nat) (f : AccountFields) (s : State) (j : Nat) :
    (accountWritten k f s).account j = if j = k then some (writtenAccount f (s.account k)) else s.account j := by
  split
  · rename_i hj
    subst hj
    exact tableFind_tablePut_self _ _ _
  · exact tableFind_tablePut_ne _ _ ‹_›

theorem accountWritten_keeps (k : Nat) (f : AccountFields) (s : State) : Keeps s (accountWritten k f s) := by
  have ho : OnlyIn [.accounts] s (accountWritten k f s) := only_setAccounts _ s
  have stands : ∀ j, (s.account j).isSome → ((accountWritten k f s).account j).isSome := by
    intro j hj
    rw [accountWritten_account]
    split
    · rfl
    · exact hj
  refine .of_accounts ho (.of_accounts ho (fun _ _ _ => stands _) fun _ _ _ _ => stands _)
    (accountLaw_of_reserved ho fun j p => ?_)
  rw [accountWritten_account]
  split
  · rename_i hj
    subst hj
    cases s.account j with
    | none => cases p <;> rfl
    | some a => rfl
  · rfl

/-- R54: the deletion of an account. -/
def accountDeleted (k : Nat) (s : State) : State := s.setAccounts (tableErase s.store.accounts k)

theorem accountDeleted_account (k : Nat) (s : State) (j : Nat) :
    (accountDeleted k s).account j = if j = k then none else s.account j := by
  split
  · rename_i hj
    subst hj
    exact tableFind_tableErase_self _ _
  · exact tableFind_tableErase_ne _ ‹_›

/-- R54 checks 2 and 3: an account that is deleted is named by nothing and holds nothing reserved. -/
theorem accountDeleted_keeps {a : Account} (ha : s.account k = some a) (hn : accountNamed s k = false)
    (hr : ∀ p, a.reserved.get p = 0) : Keeps s (accountDeleted k s) := by
  have ho : OnlyIn [.accounts] s (accountDeleted k s) := only_setAccounts _ s
  obtain ⟨entries, writes⟩ := Bool.or_eq_false_iff.mp hn
  have stands : ∀ j, j ≠ k → (s.account j).isSome → ((accountDeleted k s).account j).isSome := by
    intro j hj hs
    rw [accountDeleted_account, if_neg hj]
    exact hs
  refine .of_accounts ho (.of_accounts ho (fun j m hj => stands _ ?_) fun v hv f hf => stands _ ?_)
    (accountLaw_of_reserved ho fun j p => ?_)
  · simpa using List.any_eq_false.mp entries _ (mem_of_tableFind hj)
  · simpa [hf] using List.any_eq_false.mp writes v hv
  · rw [accountDeleted_account]
    split
    · rename_i hj
      rw [hj, ha]
      exact (hr p).symm
    · rfl

/-! ## The close of a shift (R161) -/

theorem tableFind_tableMap {α : Type} (f : α → α) (l : Table α) (k : Nat) :
    tableFind (tableMap f l) k = (tableFind l k).map f := by
  induction l with
  | nil => rfl
  | cons e l ih =>
    obtain ⟨j, a⟩ := e
    by_cases hj : j = k
    · simp [tableMap, tableFind, hj]
    · simpa [tableMap, tableFind, hj] using ih

/-- R161 steps 2 to 4: the totals of the entries, the accounts and the compartments begin again. -/
def shiftTurned (s : State) : State :=
  ((s.setMachines (tableMap MachineEntry.newShift s.store.machines)).setAccounts
    (tableMap Account.newShift s.store.accounts)).setComps
      ⟨(s.comp .c1).newShift, (s.comp .c2).newShift⟩

theorem shiftTurned_machine (s : State) (j : Nat) :
    (shiftTurned s).machine j = (s.machine j).map MachineEntry.newShift :=
  tableFind_tableMap _ _ _

theorem shiftTurned_account (s : State) (j : Nat) : (shiftTurned s).account j = (s.account j).map Account.newShift :=
  tableFind_tableMap _ _ _

theorem shiftTurned_comp (s : State) (c : Comp) : (shiftTurned s).comp c = (s.comp c).newShift := by
  cases c <;> rfl

theorem shiftTurned_touches (s : State) : OnlyIn [.machines, .accounts, .comps] s (shiftTurned s) :=
  (((only_setMachines _ s).mono (by decide)).then (only_setAccounts _ _) (by decide)).then (only_setComps _ _)
    (by decide)

theorem shiftTurned_storeKept (s : State) : StoreKept s (shiftTurned s) := by
  have ho := shiftTurned_touches s
  have sums := fun p => shares_congr p (ho .txs (by decide))
  have stands : ∀ j, (s.account j).isSome → ((shiftTurned s).account j).isSome := by
    intro j hj
    rw [shiftTurned_account, Option.isSome_map]
    exact hj
  refine ⟨ho.capacityLaw, fun l => ?_, fun ⟨lm, lq⟩ => ⟨fun j m hj => ?_, fun v hv f hf => ?_⟩, fun l j p => ?_,
    fun _ l j p => ?_⟩
  · rw [reservationLaw_iff] at l ⊢
    intro c
    rw [sums, shiftTurned_comp]
    exact l c
  · rw [shiftTurned_machine, Option.map_eq_some_iff] at hj
    obtain ⟨y, hy, rfl⟩ := hj
    exact stands _ (lm j y hy)
  · rw [ho .queue (by decide)] at hv
    exact stands _ (lq v hv f hf)
  · have l := l j p
    rw [reservedOver_eq] at l ⊢
    rw [sums, shiftTurned_machine, ← l, Option.map_map]
    rfl
  · have l := l j p
    rw [reservedOver_eq] at l ⊢
    rw [sums, shiftTurned_account, ← l, Option.map_map]
    rfl

theorem shiftTurned_keeps (s : State) : Keeps s (shiftTurned s) := by
  have ho := shiftTurned_touches s
  refine ⟨⟨tagLaw_of_fields (ho .queue (by decide)) fun j x hx => ?_,
    .of_held (ho .queue (by decide)) (ho .power (by decide)) fun j hj => (ho.held j).trans hj,
    .of_holding fun h => ho.holding h, ho.contextLaw, fun _ => shiftTurned_storeKept s⟩, fun _ c => ?_⟩
  · obtain ⟨⟨i, y⟩, hy, he⟩ := List.mem_map.mp (show (j, x) ∈ tableMap MachineEntry.newShift s.store.machines from hx)
    cases he
    exact ⟨y, hy, rfl⟩
  · exact .of_same (fun h _ => by rw [ho.tx]) (by rw [shiftTurned_comp]; exact id) (by rw [shiftTurned_comp]; rfl)
      (.inl (by rw [shiftTurned_comp]; exact le_rfl))

theorem closeShift_keeps (hc : canCommit s = true) : Keeps s (closeShift s) := by
  have take := takeCommitment_touches s
  have recorded : Keeps s (writeRecord (.shift (shiftRecord s)) (takeCommitment s)) :=
    .of_log ((((take.mono (by decide)).then (writeRecord_touches _ _) (by decide)) :
      OnlyIn (.log :: .delivery :: quietParts) s _))
      (committedRecord_capacityLaw _ hc rfl (take .txs (by decide)) (take .delivery (by decide)))
  exact (recorded.trans (shiftTurned_keeps _)).trans (only_setShift _ _).keeps

/-! ## The clearing of an inhibit (R112) -/

/-- R112 check 3: a compartment whose hoses are not engaged has no transaction. -/
theorem tx_of_not_engaged (l : ContextLaw s) (hp : s.power = .on) (he : (hosesOf c).any (hoseEngaged s) = false)
    (hc : compOf h = c) : s.tx h = none := by
  refine tx_of_not_filling l hp ?_
  have idle := Bool.eq_false_of_not_eq_true (List.any_eq_false.mp he h (mem_hosesOf.mpr hc))
  cases hs : (s.hose h).state <;> simp_all [hoseEngaged, HoseState.stoppable, HoseState.isFilling]

theorem clearInhibit_keeps (hp : s.power = .on) (he : (hosesOf c).any (hoseEngaged s) = false) :
    Keeps s (clearInhibit c s) := by
  have cleared : Keeps s (s.putComp c { s.comp c with inhibit := none }) := by
    have ho : OnlyIn (.comps :: quietParts) s (s.putComp c { s.comp c with inhibit := none }) :=
      (only_setComps _ s).mono (by decide)
    have calm : Calm s (s.putComp c { s.comp c with inhibit := none }) := by
      refine .of_comps ho fun e => ?_
      by_cases h : e = c
      · subst h; rw [State.comp_putComp]
      · rw [State.comp_putComp_ne _ _ h]
    refine ⟨calm.records, fun l e => ?_⟩
    by_cases h : e = c
    · subst h
      have free : ∀ g, compOf g = e → s.tx g = none := fun g hg => tx_of_not_engaged l hp he hg
      refine ⟨fun _ _ g tx hg ht => ?_, fun lr _ _ _ => ?_⟩
      · rw [ho.tx, free g hg] at ht
        cases ht
      · have none_of (g : Hose) : share (inComp e) s g = 0 := by
          by_cases hg : compOf g = e
          · exact share_of_none (free g hg)
          · unfold share
            split
            · exact if_neg (by simpa [inComp] using hg)
            · rfl
        have sum := (reservationLaw_iff s).mp lr e
        rw [shares, none_of, none_of, none_of] at sum
        rw [State.comp_putComp]
        dsimp only
        rw [sum]
        exact le_max_right _ _
    · exact .of_same (fun g _ => by rw [ho.tx]) (by rw [State.comp_putComp_ne _ _ h]; exact id)
        (by rw [State.comp_putComp_ne _ _ h]) (.inl (by rw [State.comp_putComp_ne _ _ h]))
  exact cleared.trans (evalPump_touches _ _).keeps

end Sys2Proof.Machine
end

section
/-! PROOF. The laws of O21 and O38 over the requests: what a frame does before and after its owner (R186 to R189), and
each owner that accepts one. -/

namespace Sys2Proof.Machine

variable {s t : State} {c : Comp} {h : Hose} {r : RefusalCode} {fields : List Field} {o o' : Owned}

/-! ## A request and its owner (R187) -/

/-- An owner that accepts a request keeps the laws. -/
inductive KeepsIfTaken (s : State) : Owned → Prop
  | error {r : RefusalCode} : KeepsIfTaken s (.error r)
  | ok {t : State} {fields : List Field} (k : Keeps s t) : KeepsIfTaken s (.ok (t, fields))

/-- A request that reads the state leaves it. -/
theorem KeepsIfTaken.read : KeepsIfTaken s (.ok (s, fields)) := .ok (.refl s)

theorem KeepsIfTaken.ite {p : Prop} [Decidable p] (a : p → KeepsIfTaken s o) (b : ¬ p → KeepsIfTaken s o') :
    KeepsIfTaken s (if p then o else o') := by
  split
  · exact a ‹_›
  · exact b ‹_›

/-- R189: a long answer leaves what its state leaves. -/
theorem KeepsIfTaken.long (x : Except RefusalCode (List Field)) (k : Keeps s t) :
    KeepsIfTaken s (x.map fun fs => (t, fs)) := by
  cases x with
  | error r => exact .error
  | ok fs => exact .ok k

theorem link_keeps (v : Link) (s : State) : Keeps s (s.setLink v) := (only_setLink v s).keeps

/-- R186, R187: a frame reaches its handler at a part that runs, in a state in which the link and the park alone have
changed. -/
theorem takeFrame_keeps {tag : SeqTag} {code : Septet} {handle : State → State}
    (hh : ∀ u, u.power = .on → Keeps u (handle u)) : Keeps s (takeFrame tag code handle s) := by
  unfold takeFrame
  split
  · exact .refl s
  · exact (link_keeps _ s).trans (link_keeps _ _)
  · rename_i hp
    refine .ite (fun _ => (link_keeps _ s).trans (link_keeps _ _)) fun _ => ?_
    have good : Keeps s (goodFrame s) := (link_keeps _ s).trans (link_keeps _ _)
    have handled : ∀ u, u.power = .on → Keeps s u → Keeps s (handle u) := fun u hu k => k.trans (hh u hu)
    split
    · exact (good.trans (only_setPark _ _).keeps).trans (link_keeps _ _)
    · exact handled _ hp ((good.trans (wake_touches _ _).keeps).trans (link_keeps _ _))
    · exact handled _ hp (good.trans (link_keeps _ _))
    · exact handled _ hp (good.trans (link_keeps _ _))

section Request

variable {α : Type} {tag : SeqTag} {parse : List Septet → Option α} {owner : α → State → Owned} {body : List Septet}

theorem handleRequest_keeps {code : Septet} (ho : ∀ a, KeepsIfTaken s (owner a s)) :
    Keeps s (handleRequest tag code parse body owner s) := by
  unfold handleRequest
  split
  · exact (link_keeps _ s).trans (link_keeps _ _)
  · rename_i a _
    split
    · exact link_keeps _ s
    · rename_i u fields hu
      obtain - | ⟨k⟩ := hu ▸ ho a
      exact k.trans (link_keeps _ u)

theorem takeRequest_keeps {code : Nat} (ho : ∀ a u, u.power = .on → KeepsIfTaken u (owner a u)) :
    Keeps s (takeRequest tag code parse body owner s) :=
  takeFrame_keeps fun u hu => handleRequest_keeps fun a => ho a u hu

theorem handlePart_keeps {code part : Septet} {fragment : List Septet} (s : State) :
    Keeps s (handlePart tag code part fragment s) := by
  unfold handlePart
  split
  · exact ((link_keeps _ s).trans (link_keeps _ _)).trans (link_keeps _ _)
  · exact (link_keeps _ s).trans (link_keeps _ _)

theorem handleLast_keeps {code : Septet} (ho : ∀ a u, KeepsIfTaken u (owner a u)) (s : State) :
    Keeps s (handleLast tag code parse body owner s) := by
  unfold handleLast
  split
  · refine .ite (fun _ => link_keeps _ s) fun _ => .ite (fun _ => handlePart_keeps s) fun _ => ?_
    split
    · exact ((link_keeps _ s).trans (link_keeps _ _)).trans (link_keeps _ _)
    · exact (link_keeps _ s).trans (handleRequest_keeps fun a => ho a _)
  all_goals exact (link_keeps _ s).trans (link_keeps _ _)

end Request

/-! ## The site link, the registry and the accounts (R190 to R197, R47 to R55) -/

theorem ownSettingsWrite_keeps (o : SiteOperands) (s : State) : KeepsIfTaken s (ownSettingsWrite o s) :=
  .ite (fun _ => .ok ((only_setSite _ s).keeps.trans (.ite (fun _ => link_keeps _ _) fun _ => .refl _))) fun _ => .error

/-- R197: from the acceptance of a RESTART the part does not run, but its store is as it was. -/
theorem ownRestart_keeps (hp : s.power = .on) : KeepsIfTaken s (ownRestart () s) := by
  refine .ite (fun _ => .ok ?_) fun _ => .error
  have ho : OnlyIn [.power] s (s.setPower .restarting) := only_setPower _ s
  refine ⟨⟨.of_subset fun _ _ => id, fun ⟨hn, hh, hl⟩ => ⟨hn, fun _ u hu => hh (by simp [hp]) u hu, hl⟩,
    .of_holding fun _ => rfl, fun l _ => l (by simp [hp]),
    fun _ => .of_same ho.capacityLaw rfl rfl rfl (fun _ => rfl) fun _ => rfl⟩, fun _ c => ho.meterKept c⟩

theorem ownMachineRead_keeps (o : Nat × Option Nat) (s : State) : KeepsIfTaken s (ownMachineRead o s) :=
  .ite (fun _ => .error) fun _ => .long _ (.refl s)

theorem ownMachineWrite_keeps (o : MachineOperands) (hp : s.power = .on) : KeepsIfTaken s (ownMachineWrite o s) := by
  refine .ite (fun _ => .error) fun _ => .ite (fun _ => .error) fun _ => .ite (fun _ => .error) fun ha =>
    .ite (fun _ => .error) fun hd => .ite (fun _ => .error) fun hb => .ok ?_
  refine writeOrQueue_keeps hp ⟨Bool.eq_false_of_not_eq_true hb, fun f hf => ?_, fun f id hf hc => ?_⟩
  · cases hf
    rw [Option.isNone_iff_eq_none] at ha
    exact Option.isSome_iff_ne_none.mpr ha
  · cases hf
    exact tagTaken_of_not_duplicate (Bool.eq_false_of_not_eq_true hd) hc

theorem ownMachineDelete_keeps (k : Nat) (hp : s.power = .on) : KeepsIfTaken s (ownMachineDelete k s) := by
  refine .ite (fun _ => .error) fun _ => .ite (fun _ => .error) fun _ => .ite (fun _ => .error) fun hb => .ok ?_
  exact writeOrQueue_keeps hp ⟨Bool.eq_false_of_not_eq_true hb, nofun, nofun⟩

theorem ownMachineFind_keeps (n : Nat) (s : State) : KeepsIfTaken s (ownMachineFind n s) := by
  refine .ite (fun _ => .error) fun _ => ?_
  split
  · exact .read
  · split
    · exact .read
    · exact .error

theorem ownMachineList_keeps (k : Nat) (s : State) : KeepsIfTaken s (ownMachineList k s) :=
  .ite (fun _ => .error) fun _ => .read

theorem ownAccountRead_keeps (k : Nat) (s : State) : KeepsIfTaken s (ownAccountRead k s) :=
  .ite (fun _ => .error) fun _ => .read

theorem ownAccountWrite_keeps (o : AccountOperands) (s : State) : KeepsIfTaken s (ownAccountWrite o s) :=
  .ite (fun _ => .error) fun _ => .ok (accountWritten_keeps _ _ s)

theorem ownAccountDelete_keeps (k : Nat) (s : State) : KeepsIfTaken s (ownAccountDelete k s) := by
  refine .ite (fun _ => .error) fun _ => ?_
  split
  · exact .error
  · rename_i a ha
    refine .ite (fun _ => .error) fun hn => .ite (fun _ => .error) fun hr => .ok ?_
    obtain ⟨hd, hf⟩ := not_or.mp hr
    refine accountDeleted_keeps ha (Bool.eq_false_of_not_eq_true hn) fun p => ?_
    cases p
    · exact not_not.mp hd
    · exact not_not.mp hf

/-! ## The hoses (R35, R65 to R68, R87, R97 to R100) -/

theorem ownTagChannelRead_keeps (n : Nat) (s : State) : KeepsIfTaken s (ownTagChannelRead n s) := by
  unfold ownTagChannelRead
  split
  · exact .error
  · exact .read

theorem ownApprove_keeps (o : Nat × Option Int) (hp : s.power = .on) : KeepsIfTaken s (ownApprove o s) := by
  unfold ownApprove
  split
  · exact .error
  · refine .ite (fun _ => .error) fun _ => ?_
    split
    · rename_i k id hs
      exact .ok (grant_keeps hp (by rw [hs]; rfl) (.held (by simp only [holding, hs])))
    all_goals exact .error

theorem not_filling_of_awaiting (ha : (s.hose h).state.isAwaiting = true) : (s.hose h).state.isFilling = false := by
  cases hs : (s.hose h).state <;> simp_all [HoseState.isAwaiting, HoseState.isFilling]

theorem ownDecline_keeps (n : Nat) (hp : s.power = .on) : KeepsIfTaken s (ownDecline n s) := by
  unfold ownDecline
  split
  · exact .error
  · exact .ite (fun ha => .ok (refuseHose_keeps hp (not_filling_of_awaiting ha) _)) fun _ => .error

theorem ownAuthorise_keeps (o : Nat × Nat × Option Int) (hp : s.power = .on) : KeepsIfTaken s (ownAuthorise o s) := by
  unfold ownAuthorise
  split
  · exact .error
  · refine .ite (fun _ => .error) fun _ => .ite (fun _ => .error) fun hi => .ite (fun _ => .error) fun _ => ?_
    split
    · exact .error
    · exact .ok (authorise_keeps hp (not_not.mp hi) _)

theorem ownHoseStatus_keeps (n : Nat) (s : State) : KeepsIfTaken s (ownHoseStatus n s) := by
  unfold ownHoseStatus
  split
  · exact .error
  · exact .ok (putHose_keeps _ rfl)

theorem stopHose_keeps (h : Hose) (hp : s.power = .on) : Keeps s (stopHose h s) := by
  unfold stopHose
  split
  · rename_i hs; exact refuseHose_keeps hp (by rw [hs]; rfl) _
  · rename_i hs; exact refuseHose_keeps hp (by rw [hs]; rfl) _
  · exact stopEvent_keeps h _ s
  · exact stopEvent_keeps h _ s
  all_goals exact .refl s

theorem ownStop_keeps (n : Nat) (hp : s.power = .on) : KeepsIfTaken s (ownStop n s) := by
  unfold ownStop
  split
  · exact .error
  · exact .ite (fun _ => .error) fun _ => .ok (stopHose_keeps _ hp)

theorem config_keeps (v : HoseConfig) (s : State) : Keeps s (s.putConfig h v) := (only_setHoseConfigs _ s).keeps

/-- A hose without a fill or a wait moves to a state of that kind. -/
theorem moveHose_keeps {st : HoseState} (hs : (s.hose h).state.role = (false, none)) (hst : st.role = (false, none)) :
    Keeps s (moveHose h st s) :=
  putHose_keeps _ (hst.trans hs.symm)

theorem role_startedState (e l : Bool) : (startedState e l).role = (false, none) := by
  cases e <;> cases l <;> rfl

theorem ownHoseEnable_keeps (n : Nat) (s : State) : KeepsIfTaken s (ownHoseEnable n s) := by
  unfold ownHoseEnable
  split
  · exact .error
  · rename_i h _
    refine .ok ((config_keeps _ s).trans (.ite (fun hb => ?_) fun _ => .refl _))
    have hb : (s.hose h).state = .blocked := hb
    exact moveHose_keeps (congrArg HoseState.role hb) (role_startedState _ _)

theorem role_of_resting {st : HoseState} (hr : st.resting = true) : st.role = (false, none) := by
  cases st <;> simp_all [HoseState.resting, HoseState.role, HoseState.isFilling, HoseState.awaited]

theorem ownHoseDisable_keeps (n : Nat) (s : State) : KeepsIfTaken s (ownHoseDisable n s) := by
  unfold ownHoseDisable
  split
  · exact .error
  · rename_i h _
    refine .ite (fun _ => .error) fun hr => .ok ?_
    have rest : (s.hose h).state.resting = true := by simpa using hr
    exact ((config_keeps _ s).trans (moveHose_keeps (role_of_resting rest) rfl)).trans (channelOff_touches _ _).keeps

theorem ownHoseSettingsRead_keeps (n : Nat) (s : State) : KeepsIfTaken s (ownHoseSettingsRead n s) := by
  unfold ownHoseSettingsRead
  split
  · exact .error
  · exact .read

theorem ownHoseSettingsWrite_keeps (o : HoseOperands) (s : State) : KeepsIfTaken s (ownHoseSettingsWrite o s) := by
  unfold ownHoseSettingsWrite
  split
  · exact .error
  · exact .ite (fun _ => .error) fun _ => .ite (fun _ => .error) fun _ => .ok (config_keeps _ s)

/-! ## The pumps and the compartments (R106, R112, R119, R120, R123, R130 to R132) -/

theorem ownPumpSettingsRead_keeps (n : Nat) (s : State) : KeepsIfTaken s (ownPumpSettingsRead n s) := by
  unfold ownPumpSettingsRead
  split
  · exact .error
  · exact .read

theorem ownPumpSettingsWrite_keeps (o : Nat × Nat × Nat) (s : State) : KeepsIfTaken s (ownPumpSettingsWrite o s) := by
  unfold ownPumpSettingsWrite
  split
  · exact .error
  · exact .ite (fun _ => .error) fun _ => .ite (fun _ => .error) fun _ => .ok (only_setPumpConfigs _ s).keeps

theorem ownInhibitClear_keeps (n : Nat) (hp : s.power = .on) : KeepsIfTaken s (ownInhibitClear n s) := by
  unfold ownInhibitClear
  split
  · exact .error
  · exact .ite (fun _ => .error) fun _ => .ite (fun _ => .error) fun he =>
      .ok (clearInhibit_keeps hp (Bool.eq_false_of_not_eq_true he))

theorem ownStockStatus_keeps (n : Nat) (s : State) : KeepsIfTaken s (ownStockStatus n s) := by
  unfold ownStockStatus
  split
  · exact .error
  · exact .read

theorem ownTankSetupRead_keeps (n : Nat) (s : State) : KeepsIfTaken s (ownTankSetupRead n s) := by
  unfold ownTankSetupRead
  split
  · exact .error
  · exact .read

theorem ownTankSetupWrite_keeps (o : TankOperands) (s : State) : KeepsIfTaken s (ownTankSetupWrite o s) := by
  unfold ownTankSetupWrite
  split
  · exact .error
  · exact .ite (fun _ => .error) fun _ => .ite (fun _ => .error) fun _ => .ite (fun _ => .error) fun _ =>
      .ok ((setTank_keeps _ o s).trans (watchStock_touches _ _).keeps)

theorem ownStrappingRead_keeps (o : Nat × Option Nat) (s : State) : KeepsIfTaken s (ownStrappingRead o s) := by
  unfold ownStrappingRead
  split
  · exact .error
  · exact .long _ (.refl s)

theorem ownStrappingWrite_keeps (o : Nat × List (Nat × Int)) (s : State) :
    KeepsIfTaken s (ownStrappingWrite o s) := by
  unfold ownStrappingWrite
  split
  · exact .error
  · refine .ite (fun _ => .error) fun _ => .ite (fun _ => .error) fun _ => .ite (fun _ => .error) fun _ => .ok ?_
    refine Keeps.trans ?_ (setStale_keeps _ _)
    exact putComp_keeps _ rfl (.inr ⟨rfl, .inl le_rfl⟩)

theorem ownGauge_keeps (n : Nat) (s : State) : KeepsIfTaken s (ownGauge n s) := by
  unfold ownGauge
  split
  · exact .error
  · exact .ok (requestRun_touches _ _ s).keeps

theorem ownGaugeRead_keeps (n : Nat) (s : State) : KeepsIfTaken s (ownGaugeRead n s) := by
  unfold ownGaugeRead
  split
  · exact .error
  · exact .read

theorem ownBookAdjust_keeps (o : AdjustOperands) (s : State) : KeepsIfTaken s (ownBookAdjust o s) := by
  unfold ownBookAdjust
  split
  · exact .error
  · refine .ite (fun _ => .error) fun _ => .ite (fun _ => .error) fun hr => .ite (fun _ => .error) fun _ =>
      .ite (fun _ => .error) fun hc => ?_
    split
    · exact .error
    · exact .ok (adjustBook_keeps o _ (not_not.mp (not_or.mp hr).1) (by simpa using hc))

/-! ## Deliveries, the log, the shifts, the guard and the park (R134, R141, R154 to R163, R166 to R172, R176) -/

theorem ownDeliveryOpen_keeps (o : Nat × Text × Option Int) (s : State) : KeepsIfTaken s (ownDeliveryOpen o s) := by
  unfold ownDeliveryOpen
  split
  · exact .error
  · refine .ite (fun _ => .error) fun _ => .ite (fun _ => .error) fun hd => .ite (fun _ => .error) fun _ =>
      .ite (fun _ => .error) fun hc => .ok ?_
    exact openDelivery_keeps _ _ (Bool.eq_false_of_not_eq_true (not_or.mp hd).1) (by simpa using hc)

theorem ownDeliveryClose_keeps (s : State) : KeepsIfTaken s (ownDeliveryClose () s) := by
  unfold ownDeliveryClose
  split
  · exact .error
  · rename_i hd
    exact .ok (closeDelivery_keeps hd)

theorem keepAndAnswer_keeps (full : List Septet) (k : Keeps s t) : KeepsIfTaken s (keepAndAnswer full t) :=
  .long _ (k.trans (only_setLogWatch _ t).keeps)

theorem ownLogRead_keeps (part : Option Nat) (s : State) : KeepsIfTaken s (ownLogRead part s) := by
  unfold ownLogRead
  split
  · exact .error
  · unfold handOverRecord
    split
    · rename_i r _
      have marked : Keeps s (s.setLog (markSent r.seq s.store.log)) :=
        .of_fewer ((only_setLog _ s).mono (by decide)) (by simp [markSent]) rfl
      exact keepAndAnswer_keeps _ marked
    · exact keepAndAnswer_keeps _ (.refl s)
  · unfold laterPart
    split
    · exact .error
    · exact .long _ (.refl s)

theorem removeSent_keeps (n : Nat) (s : State) : Keeps s (removeSent n s) := by
  have removed : Keeps s (s.setLog { s.store.log with
      records := s.store.log.records.filter fun r => !confirmable n r }) :=
    .of_fewer ((only_setLog _ s).mono (by decide)) (List.length_filter_le _ _) rfl
  exact removed.trans (watchLog_touches _).keeps

theorem ownLogConfirm_keeps (n : Nat) (s : State) : KeepsIfTaken s (ownLogConfirm n s) :=
  .ite (fun _ => .error) fun _ => .ite (fun _ => .error) fun _ => .ok (removeSent_keeps n s)

theorem ownLogRewind_keeps (s : State) : KeepsIfTaken s (ownLogRewind () s) :=
  .ok (.of_fewer ((only_setLog _ s).mono (by decide)) (by simp [rewind]) rfl)

theorem ownClockSet_keeps (n : Nat) (s : State) : KeepsIfTaken s (ownClockSet n s) :=
  .ite (fun _ => .error) fun _ => .ok (only_setClock _ s).keeps

theorem ownShiftClose_keeps (s : State) : KeepsIfTaken s (ownShiftClose () s) :=
  .ite (fun _ => .error) fun _ => .ite (fun _ => .error) fun hc => .ok (closeShift_keeps (by simpa using hc))

theorem ownShiftTotals_keeps (k : Nat) (s : State) : KeepsIfTaken s (ownShiftTotals k s) := by
  refine .ite (fun _ => .error) fun _ => ?_
  split
  · exact .error
  · exact .read

theorem ownCalRead_keeps (n : Nat) (s : State) : KeepsIfTaken s (ownCalRead n s) := by
  unfold ownCalRead
  split
  · exact .error
  · exact .read

theorem ownCalOpen_keeps (s : State) : KeepsIfTaken s (ownCalOpen () s) :=
  .ite (fun _ => .error) fun _ => .ok (only_setGuard _ s).keeps

theorem ownCalClose_keeps (s : State) : KeepsIfTaken s (ownCalClose () s) :=
  .ite (fun _ => .error) fun _ => .ok (only_setGuard _ s).keeps

theorem writeItem_keeps (item : CalItem) (v : CalValue) (s : State) : Keeps s (writeItem item v s) := by
  have base : OnlyIn [.cal, .guard] s ((s.setCal (s.store.cal.write item v s.now)).setGuard
      { s.guard with fault := false, window := .running Config.windowTime }) :=
    ((only_setCal _ s).mono (by decide)).then (only_setGuard _ _) (by decide)
  cases item with
  | alpha c => exact base.keeps.trans (setStale_keeps c _)
  | meter m => exact base.keeps
  | offset p => exact base.keeps

theorem ownCalWrite_keeps (o : Option (CalItem × CalValue)) (s : State) : KeepsIfTaken s (ownCalWrite o s) := by
  obtain ⟨r, -, he⟩ | ⟨-, -, he⟩ | ⟨item, v, -, -, ⟨-, he⟩ | ⟨-, -, he⟩ | ⟨-, -, fields, he⟩⟩ :=
    ownCalWrite_cases o s <;> rw [he]
  · exact .error
  · exact .error
  · exact .error
  · exact .error
  · exact .ok (writeItem_keeps item v s)

theorem ownAuditRead_keeps (n : Nat) (s : State) : KeepsIfTaken s (ownAuditRead n s) := by
  refine .ite (fun _ => .error) fun _ => ?_
  split
  · exact .error
  · exact .read

theorem ownPark_keeps (s : State) : KeepsIfTaken s (ownPark () s) :=
  .ite (fun _ => .error) fun _ => .ite (fun _ => .error) fun _ => .ok (beginPark_touches s).keeps

end Sys2Proof.Machine
end

section
/-! PROOF. The laws of O21 and O38 over a start-up and a loss of power (R19, R46, R101, R146, R151). -/

namespace Sys2Proof.Machine

variable {s t u : State} {h : Hose} {tx : Transaction} {ps : List Part}

/-! ## What each stage of a start-up leaves of the records -/

/-- A stage of a start-up gives no entry a tag, and keeps the laws of the store; the hoses have no part in them. -/
structure StoreStage (s t : State) : Prop where
  tags : ∀ k id, TagOf t k id → TagOf s k id
  store : StoreKept s t

theorem StoreStage.trans (a : StoreStage s t) (b : StoreStage t u) : StoreStage s u :=
  ⟨fun k id hk => a.tags k id (b.tags k id hk), a.store.trans b.store⟩

theorem StoreStage.refl (s : State) : StoreStage s s := ⟨fun _ _ => id, .refl s⟩

theorem Calm.stage (a : Calm s t) : StoreStage s t :=
  ⟨fun k id => (tagOf_congr (a.only .machines (by decide)) (a.only .queue (by decide)) k id).mp, a.storeKept⟩

/-- A change of the hoses and of parts that the laws do not look at. -/
theorem OnlyIn.stage (ho : OnlyIn ps s t) (hp : ps ⊆ .power :: .hoses :: quietParts := by decide) :
    StoreStage s t := by
  have hq := ho.mono hp
  have hm := hq .machines (by decide)
  have hqu := hq .queue (by decide)
  exact ⟨fun k id => (tagOf_congr hm hqu k id).mp, .of_same hq.capacityLaw hm hqu (hq .accounts (by decide))
    (fun h => by rw [hq.tx]) fun c => by rw [hq.comp]⟩

/-- R151: the volatile start leaves the store; the commitments are those of the contexts already. -/
theorem closesFrom_stage (clock : Stamp) (s : State) : StoreStage s (closesFrom clock s) := by
  refine ⟨fun _ _ => id, .of_same (fun ⟨hl, hle⟩ => ⟨rfl, ?_⟩) rfl rfl rfl (fun _ => rfl) fun _ => rfl⟩
  rw [hl] at hle
  exact hle

theorem tagOf_settledFill {x : Transaction} {k : Nat} {id : TagId} (hk : TagOf (settledFill h x s) k id) :
    TagOf s k id := by
  obtain ⟨m, hm, hc⟩ | hq := hk
  · obtain ⟨y, hy, he⟩ := mem_settledFill hm
    exact .inl ⟨y, hy, he ▸ hc⟩
  · rw [settledFill_touches h x s .queue (by decide)] at hq
    exact .inr hq

/-- R101: the close of an interrupted fill. -/
theorem closeInterrupted_stage (h : Hose) (s : State) : StoreStage s (closeInterrupted h s) := by
  cases ht : s.tx h with
  | none => rw [closeInterrupted_none ht]; exact .refl s
  | some tx =>
    rw [closeInterrupted_some ht]
    exact ⟨fun _ _ => tagOf_settledFill (x := tx.lost), settledFill_storeKept ht rfl⟩

/-- R146: the end of an interrupted delivery. -/
theorem endInterrupted_stage (s : State) : StoreStage s (endInterrupted s) := by
  cases hd : s.store.delivery with
  | none => rw [endInterrupted_none hd]; exact .refl s
  | some d =>
    have hs := isSome_of_delivery hd
    have counted (hc : d.state = .receiving ∨ d.state = .draining) : StoreStage s (endInterrupted s) := by
      rw [endInterrupted_counting hd hc]
      exact (creditDelivery_calm _ hs).stage.trans (recordDelivery_calm _ _ (creditDelivery_isSome _ _)).stage
    cases hc : d.state with
    | preGauge => rw [endInterrupted_preGauge hd hc]; exact (cancelDelivery_calm hs).stage
    | receiving => exact counted (.inl hc)
    | draining => exact counted (.inr hc)
    | postGauge => rw [endInterrupted_postGauge hd hc]; exact (recordDelivery_calm _ _ hs).stage

theorem closedFrom_stage (clock : Stamp) (s : State) : StoreStage s (closedFrom clock s) :=
  ((((closesFrom_stage clock s).trans (closeInterrupted_stage .h1 _)).trans (closeInterrupted_stage .h2 _)).trans
    (closeInterrupted_stage .h3 _)).trans (endInterrupted_stage _)

/-! ## The queued updates (R46) -/

theorem reservedOver_of_no_tx (ht : ∀ h, s.tx h = none) (f : Transaction → Nat) (k : Nat) (p : Product) :
    reservedOver f k p s = 0 := by
  rw [reservedOver_eq, shares, share_of_none (ht _), share_of_none (ht _), share_of_none (ht _)]

/-- R46: updates that waited, applied where no transaction is left. -/
theorem applyAll_stage (l : List Update) (hl : ∀ u ∈ l, u ∈ s.store.queue) (ht : ∀ h, s.tx h = none) :
    StoreStage s (l.foldl (fun s u => applyContents u s) s) := by
  induction l generalizing s with
  | nil => exact .refl s
  | cons u l ih =>
    have ho := applyContents_touches u s
    have hu : u ∈ s.store.queue := hl u List.mem_cons_self
    have first : StoreStage s (applyContents u s) :=
      ⟨fun _ _ => tagOf_of_queued hu,
        applyContents_storeKept (queued_named hu) fun _ p => reservedOver_of_no_tx ht _ _ p⟩
    refine first.trans (ih (fun v hv => ?_) fun h => by rw [ho.tx]; exact ht h)
    rw [ho .queue (by decide)]
    exact hl v (List.mem_cons_of_mem _ hv)

theorem applyQueue_stage (ht : ∀ h, s.tx h = none) : StoreStage s (applyQueue s) := by
  refine (applyAll_stage s.store.queue (fun _ => id) ht).trans ⟨fun k id hk => ?_, ?_⟩
  · obtain hm | ⟨u, hu, -⟩ := hk
    · exact .inl hm
    · exact absurd hu List.not_mem_nil
  · exact storeKept_setQueue [] fun l => NamingLaw.of_queue_subset [] (fun v hv => absurd hv List.not_mem_nil) l

theorem setStale_stage (c : Comp) (s : State) : StoreStage s (setStale c s) := by
  refine (Calm.of_comps ((setStale_touches c s).mono (by decide)) fun e => ?_).stage
  by_cases he : e = c
  · subst he; rw [setStale, State.comp_putComp]
  · rw [setStale, State.comp_putComp_ne _ _ he]

theorem staled_stage {a : State} (ht : ∀ h, a.tx h = none) : StoreStage a (staled a) := by
  have watch := watchLog_touches a
  have none' : ∀ h, (watchLog a).tx h = none := fun h => by rw [watch.tx]; exact ht h
  exact (((watch.stage.trans (applyQueue_stage none')).trans (startHoses_touches _).stage).trans
    (setStale_stage .c1 _)).trans (setStale_stage .c2 _)

/-! ## The whole start-up, and the loss of power -/

theorem startUpAt_stage (clock : Stamp) (s : State) : StoreStage s (startUpAt clock s) := by
  have none_of : ∀ h, (closedFrom clock s).tx h = none := by
    intro h
    obtain ⟨-, -, -, -, -, -, -, -, hoses, -⟩ := startUpAt_startedUp clock s
    obtain ⟨-, ht, -⟩ := hoses h
    rw [← (started_touches (closedFrom_no_fault clock s)).tx h]
    exact ht
  rw [startUpAt_eq]
  exact ((closedFrom_stage clock s).trans (staled_stage none_of)).trans
    (started_after_staled (closedFrom_no_fault clock s)).stage

/-- A state in which no hose has a transaction has nothing reserved in a compartment. -/
theorem reservations_of_no_tx (ht : ∀ h, s.tx h = none) (l : ReservationLaw s) (c : Comp) :
    (s.comp c).reservations = 0 := by
  rw [(reservationLaw_iff s).mp l c, shares, share_of_none (ht _), share_of_none (ht _), share_of_none (ht _)]

theorem meterKept_of_no_tx (c : Comp) (ht : ∀ h, t.tx h = none) (k : StoreKept s t) : MeterKept c s t := by
  refine ⟨fun _ _ h tx _ hx => ?_, fun l _ _ _ => ?_⟩
  · rw [ht h] at hx
    cases hx
  · rw [reservations_of_no_tx ht (k.reservation l)]
    exact le_max_right _ _

theorem holdLaw_of_none (hn : ∀ h, holding s h = none) : HoldLaw s := fun g h k _ _ hg => by
  rw [hn g] at hg
  cases hg

theorem startUpAt_keeps (clock : Stamp) (s : State) : Keeps s (startUpAt clock s) := by
  have stage := startUpAt_stage clock s
  obtain ⟨-, -, -, -, -, -, -, -, hoses, -, -, -, -, hq, -⟩ := startUpAt_startedUp clock s
  have none_of : ∀ h, (startUpAt clock s).tx h = none := by
    intro h
    obtain ⟨-, ht, -⟩ := hoses h
    exact ht
  have role : ∀ h, ((startUpAt clock s).hose h).state.role = (false, none) := by
    intro h
    obtain ⟨-, -, hh⟩ := hoses h
    rw [hh]
    exact role_startedState _ _
  refine ⟨⟨.of_subset stage.tags, fun _ => ?_, fun _ => holdLaw_of_none fun h => ?_, fun _ _ h => ?_,
    fun _ => stage.store⟩, fun _ c => meterKept_of_no_tx c none_of stage.store⟩
  · rw [QueueLaw, hq]
    exact ⟨List.nodup_nil, fun _ u hu => absurd hu List.not_mem_nil, Nat.zero_le _⟩
  · rw [holding_eq, role]
    rfl
  · rw [none_of]
    exact (congrArg Prod.fst (role h)).symm

theorem losePower_touches (s : State) :
    OnlyIn [.clock, .channels, .hoses, .meters, .sources, .pumps, .units, .inlet, .logWatch, .guard, .park, .link,
      .alarms, .power, .handed] s (losePower s) := by
  intro p hp
  cases p <;> first | rfl | simp at hp

/-- R19: without power nothing is held, and the queue and the contexts wait for the start-up. -/
theorem losePower_keeps (s : State) : Keeps s (losePower s) := by
  have ho := losePower_touches s
  obtain ⟨hoses, -⟩ := losePower_volatile s
  refine ⟨⟨.of_subset ho.stage.tags, fun ⟨hn, _, hl⟩ => ⟨hn, fun hp => absurd rfl hp, hl⟩,
    fun _ => holdLaw_of_none fun h => ?_, fun _ hp => absurd rfl hp, fun _ => ho.stage.store⟩,
    fun _ c => ho.meterKept c⟩
  rw [holding_eq, (hoses h).1]
  rfl

end Sys2Proof.Machine
end

section
/-! PROOF. The laws of O21 and O38 over every command and every step: what the line brings, the bowser's events, the
reports, the results and the timers, and then the dispatch. -/

namespace Sys2Proof.Machine

variable {s t : State} {c : Comp} {h : Hose}

/-! ## What the line brings (R185 to R187) -/

theorem takeBadCheck_keeps (tag : SeqTag) (code : Septet) (s : State) : Keeps s (takeBadCheck tag code s) :=
  .ite (fun _ => (link_keeps _ s).trans (link_keeps _ _))
    fun _ => ((link_keeps _ s).trans (link_keeps _ _)).trans (link_keeps _ _)

theorem takeBroken_keeps (kind : BrokenFrame) (s : State) : Keeps s (takeBroken kind s) :=
  .ite (fun _ => (link_keeps _ s).trans (link_keeps _ _)) fun _ => (link_keeps _ s).trans (link_keeps _ _)

theorem endReply_keeps (s : State) : Keeps s (endReply s) :=
  .ite (fun _ => startUpAt_keeps _ s) fun _ => link_keeps _ s

/-! ## A part that runs (R197) -/

theorem on_of_live (hl : s.live = true) : s.power = .on := of_decide_eq_true hl

/-- An event that a part takes only while it runs. -/
theorem keeps_live (a : s.power = .on → Keeps s t) : Keeps s (if s.live then t else s) :=
  .ite (fun hl => a (on_of_live hl)) fun _ => .refl s

/-- A timer expires at a part that runs, where it runs itself. -/
theorem keeps_expiry {b : Bool} (a : s.power = .on → Keeps s t) : Keeps s (if s.live && b then t else s) :=
  .ite (fun hl => a (on_of_live (Bool.and_eq_true_iff.mp hl).1)) fun _ => .refl s

/-- A timer of a hose expires at a part that runs, where the hose is in the timer's state. -/
theorem keeps_hose_expiry {p q : Bool} (a : s.power = .on → p = true → Keeps s t) :
    Keeps s (if s.live && p && q then t else s) := by
  refine .ite (fun hl => ?_) fun _ => .refl s
  obtain ⟨hl, -⟩ := Bool.and_eq_true_iff.mp hl
  obtain ⟨hl, hp⟩ := Bool.and_eq_true_iff.mp hl
  exact a (on_of_live hl) hp

theorem inputs_keeps (v : Inputs) (s : State) : Keeps s (s.setInputs v) := (only_setInputs v s).keeps

/-- A discrete input changes its level; a part that runs takes the change as an event. -/
theorem keeps_input {p : Prop} [Decidable p] {v : Inputs} (a : s.power = .on → Keeps (s.setInputs v) t) :
    Keeps s (if p then s else if s.live then t else s.setInputs v) :=
  .ite (fun _ => .refl s) fun _ => .ite (fun hl => (inputs_keeps v s).trans (a (on_of_live hl)))
    fun _ => inputs_keeps v s

/-! ## The bowser's inputs -/

theorem liftHose_keeps (h : Hose) (s : State) : Keeps s (liftHose h s) := by
  unfold liftHose
  split
  · rename_i hs
    have idle : (s.hose h).state.role = (false, none) := by rw [hs]; rfl
    split
    · exact moveHose_keeps idle rfl
    · refine Keeps.trans ?_ (channelOn_touches h _).keeps
      exact putHose_keeps _ (by rw [idle]; rfl)
  all_goals exact .refl s

theorem hangHose_keeps (h : Hose) (hp : s.power = .on) : Keeps s (hangHose h s) := by
  have off (t : State) : Keeps t (channelOff h t) := (channelOff_touches h t).keeps
  unfold hangHose
  split
  · rename_i hs; exact (idleHose_keeps hp (by rw [hs]; rfl)).trans (off _)
  · rename_i hs; exact (idleHose_keeps hp (by rw [hs]; rfl)).trans (off _)
  · exact (stopEvent_keeps h _ s).trans (off _)
  · exact (stopEvent_keeps h _ s).trans (off _)
  · exact off s
  · rename_i hs; exact (moveHose_keeps (by rw [hs]; rfl) rfl).trans (off _)
  · rename_i hs; exact (moveHose_keeps (by rw [hs]; rfl) rfl).trans (off _)
  all_goals exact .refl s

/-- R107: the emergency stop reaches the park, the pumps, the hoses and the delivery. -/
theorem emergencyStop_keeps (hp : s.power = .on) : Keeps s (emergencyStop s) := by
  have before : OnlyIn quietParts s (evalPump .c2 (evalPump .c1 (disturbPark .emergency .emergency s))) :=
    (((disturbPark_touches _ _ s).mono (by decide)).then (evalPump_touches _ _) (by decide)).then
      (evalPump_touches _ _) (by decide)
  have struck := strikeAllHoses_keeps (cause := .emergency) (r := .emergency)
    ((before .power (by decide)).trans hp) allHoses
  exact ((((before.keeps.trans struck).trans (closeInlet_keeps _ _)).trans (raiseAlarm_touches _ _).keeps).trans
    (evalRest_touches _ _).keeps).trans (evalRest_touches _ _).keeps

theorem overfillDelivery_keeps (c : Comp) (s : State) : Keeps s (overfillDelivery c s) :=
  .ite (fun _ => closeInlet_keeps _ s) fun _ => .refl s

theorem onChannel_keeps (h : Hose) (f : Channel → Channel) (s : State) : Keeps s (onChannel h f s) :=
  .ite (fun _ => (only_setChannels _ s).keeps) fun _ => .refl s

theorem takeValid_keeps (h : Hose) (id : TagId) (s : State) : Keeps s (takeValid h id s) :=
  .ite (fun _ => (only_setChannels _ s).keeps.trans (report_touches h _ _).keeps) fun _ => .refl s

theorem takeInverted_keeps (h : Hose) (s : State) : Keeps s (takeInverted h s) :=
  .ite (fun _ => (only_setChannels _ s).keeps.trans (.ite (fun _ => (raiseAlarm_touches _ _).keeps) fun _ => .refl _))
    fun _ => .refl s

/-! ## The reports of the channels (R61, R83, R84) -/

theorem pauseFill_keeps (hf : (s.hose h).state = .flowing) : Keeps s (pauseFill h s) := by
  refine Keeps.trans (Keeps.trans ?_ (stopInterval_touches _ _).keeps) (settle_keeps _ _)
  exact putHose_keeps _ (by rw [hf]; rfl)

/-- The state of a fill that resumes, before its stage is evaluated. -/
def resumed (h : Hose) (tx : Transaction) (s : State) : State :=
  startInterval (meterOf h) ((s.putTx h (some { tx with pauses := bump 255 tx.pauses })).putHose h
    { s.hose h with
      state := .flowing
      lowUntil := tx.volume.netMl + (s.config h).startVolume
      noFlow := (s.hose h).noFlow.thaw
      grace := .stopped })

theorem resumeFill_eq (h : Hose) (tx : Transaction) (s : State) :
    resumeFill h tx s = settle (compOf h) (evalStage h (resumed h tx s)) := rfl

theorem resumeFill_keeps {tx : Transaction} (hs : (s.hose h).state = .paused) (ht : s.tx h = some tx) :
    Keeps s (resumeFill h tx s) := by
  have counted : Keeps s (s.putTx h (some { tx with pauses := bump 255 tx.pauses })) := .of_some ht rfl rfl
  have flows : ((resumed h tx s).hose h).state = .flowing := by
    rw [resumed, (startInterval_touches _ _).hose, State.hose_putHose]
  have moved : Keeps s (resumed h tx s) := by
    refine counted.trans (Keeps.trans ?_ (startInterval_touches _ _).keeps)
    exact putHose_keeps _ (congrArg HoseState.role hs).symm
  rw [resumeFill_eq]
  exact (moved.trans (evalStage_keeps flows)).trans (settle_keeps _ _)

theorem takeConfirmed_keeps (h : Hose) (id : TagId) (hp : s.power = .on) : Keeps s (takeConfirmed h id s) := by
  unfold takeConfirmed
  split
  · rename_i hs
    exact lookup_keeps hp hs id
  · rename_i hs
    unfold confirmPaused
    split
    · exact .refl s
    · rename_i tx ht
      exact .ite (fun _ => .refl s) fun _ => .ite (fun _ => resumeFill_keeps hs ht) fun _ => stopEvent_keeps h _ s
  all_goals exact .refl s

theorem takeLost_keeps (h : Hose) (s : State) : Keeps s (takeLost h s) :=
  .ite (fun hf => .ite (fun _ => stopEvent_keeps h _ s) fun _ =>
    pauseFill_keeps (of_decide_eq_true (Bool.and_eq_true_iff.mp hf).1)) fun _ => .refl s

theorem takeChanged_keeps (h : Hose) (s : State) : Keeps s (takeChanged h s) :=
  .ite (fun _ => stopEvent_keeps h _ s) fun _ => .refl s

theorem takeHanded_keeps (e : Handed) (s : State) : Keeps s (takeHanded e s) := (takeHanded_touches e s).keeps

/-! ## The results of gauging runs (R125) -/

theorem takePreGauge_keeps (c : Comp) (r : GaugeResult) (s : State) : Keeps s (takePreGauge c r s) := by
  unfold takePreGauge
  split
  · exact .refl s
  · rename_i hd
    exact .ite (fun _ => enterReceiving_keeps _ (isSome_of_delivery hd)) fun _ => .refl s

theorem takePostGauge_keeps (c : Comp) (r : GaugeResult) (s : State) : Keeps s (takePostGauge c r s) := by
  unfold takePostGauge
  split
  · exact .refl s
  · rename_i hd
    exact .ite (fun _ => recordDelivery_keeps _ _ (isSome_of_delivery hd)) fun _ => .refl s

theorem takeAwaited_keeps (c : Comp) (r : GaugeResult) (s : State) : Keeps s (takeAwaited c r s) :=
  .ite (fun _ => (takeBaseline_touches c r s).keeps) fun _ => .refl s

/-! ## The timers -/

/-- R88, R111: the inhibit of a compartment does not reach a hose that drains. -/
theorem inhibit_draining (hd : (s.hose h).state = .draining) (c : Comp) (k : InhibitCause) :
    (inhibit c k s).hose h = s.hose h ∧ (inhibit c k s).tx h = s.tx h := by
  by_cases hn : (s.comp c).inhibit = none
  · by_cases hc : compOf h = c
    · obtain ⟨u, hh, ht, hih, hit⟩ := inhibit_at hn k hc
      rw [hih, hit, strike_of_else (.inl (by rw [hh]; exact hd))]
      exact ⟨hh, ht⟩
    · exact inhibit_hose_ne k s hc
  · rw [inhibit_again hn]
    exact ⟨rfl, rfl⟩

/-- The state with DRAIN_CUT set and LEAK raised, before the compartment is inhibited. -/
def cutNoted (h : Hose) (s : State) : State :=
  raiseAlarm (.leak h) (s.putTx h ((s.tx h).map fun tx => { tx with drainCut := true }))

theorem cutDrain_eq (h : Hose) (s : State) :
    cutDrain h s = inhibit (compOf h) (.drainCut (meterOf h)) (cutNoted h s) := rfl

theorem cutNoted_touches (h : Hose) (s : State) : OnlyIn [.txs, .alarms] s (cutNoted h s) :=
  ((only_setTxs _ s).mono (by decide)).then (raiseAlarm_touches _ _) (by decide)

theorem cutNoted_keeps (h : Hose) (s : State) : Keeps s (cutNoted h s) :=
  have cut := putTx_keeps (s := s) (h := h) (f := fun tx => { tx with drainCut := true }) (fun _ => rfl) fun _ => rfl
  cut.trans (raiseAlarm_touches _ _).keeps

theorem cutDrain_keeps (h : Hose) (hp : s.power = .on) : Keeps s (cutDrain h s) :=
  (cutNoted_keeps h s).trans (inhibit_keeps (s := cutNoted h s) hp _ _)

/-- R90: the cap of a drain leaves its hose draining. -/
theorem cutDrain_hose (hd : (s.hose h).state = .draining) : (cutDrain h s).hose h = s.hose h :=
  (inhibit_draining (s := cutNoted h s) hd _ _).1

theorem cutDrain_power (h : Hose) (hp : s.power = .on) : (cutDrain h s).power = .on := by
  rw [cutDrain_eq, inhibit_touches _ _ _ .power (by decide)]
  exact hp

theorem drainEnd_keeps (hp : s.power = .on) (hd : draining s h = true) : Keeps s (closeFill h s) :=
  closeFill_keeps hp (by rw [of_decide_eq_true hd]; rfl)

theorem drainCap_keeps (hp : s.power = .on) (hd : draining s h = true) : Keeps s (closeFill h (cutDrain h s)) :=
  (cutDrain_keeps h hp).trans
    (drainEnd_keeps (cutDrain_power h hp) (by rw [draining, cutDrain_hose (of_decide_eq_true hd)]; exact hd))

theorem guardPump_keeps (c : Comp) (hp : s.power = .on) : Keeps s (guardPump c s) := by
  have rests : Keeps s (s.putPump c (.resting (s.store.pumpConfigs.get c).restTime)) := (only_setPumps _ s).keeps
  have struck := strikeAllHoses_keeps (cause := .pumpGuard) (r := .pumpResting)
    (s := s.putPump c (.resting (s.store.pumpConfigs.get c).restTime)) hp (hosesOf c)
  exact ((rests.trans struck).trans (raiseAlarm_touches _ _).keeps).trans (evalRest_touches _ _).keeps

/-- R67: the drop of the link refuses a waiting hose or grants it offline. -/
theorem dropLink_keeps (h : Hose) (hp : s.power = .on) : Keeps s (dropLink h s) := by
  unfold dropLink
  split
  · rename_i hs
    have hf : (s.hose h).state.isFilling = false := by rw [hs]; rfl
    exact .ite (fun _ => grant_keeps hp hf (.held (by simp only [holding, hs]))) fun _ => refuseHose_keeps hp hf _
  all_goals exact .refl s

theorem dropLink_touches (h : Hose) (s : State) : OnlyIn grantParts s (dropLink h s) := by
  unfold dropLink
  split
  · exact .ite (grant_touches _ s) ((refuseHose_touches _ _ s).mono (by decide))
  all_goals exact .refl _ s

theorem dropLinks_keeps (hs : List Hose) (hp : s.power = .on) : Keeps s (hs.foldl (fun s h => dropLink h s) s) := by
  induction hs generalizing s with
  | nil => exact .refl s
  | cons h hs ih =>
    exact (dropLink_keeps h hp).trans (ih ((dropLink_touches h s .power (by decide)).trans hp))

theorem elapseTimers_keeps (s : State) : Keeps s (elapseTimers s) := by
  have hoses : Keeps s (s.setHoses ⟨s.hoses.h1.elapse, s.hoses.h2.elapse, s.hoses.h3.elapse⟩) :=
    .of_hoses ((only_setHoses _ s).mono (by decide)) (fun g => by cases g <;> rfl) fun _ => .of_eq rfl
  have rest : OnlyIn quietParts (s.setHoses ⟨s.hoses.h1.elapse, s.hoses.h2.elapse, s.hoses.h3.elapse⟩)
      (elapseTimers s) :=
    ((((((((only_setChannels _ _).mono (by decide)).then (only_setMeters _ _) (by decide)).then
      (only_setSources _ _) (by decide)).then (only_setPumps _ _) (by decide)).then
      (only_setInlet _ _) (by decide)).then (only_setGuard _ _) (by decide)).then
      (only_setPark _ _) (by decide)).then (only_setLink _ _) (by decide)
  exact hoses.trans rest.keeps

/-! ## Every command and every step -/

/-- An outcome after which every law holds that held before. -/
inductive Upholds (s : State) : Host.Outcome State Fault Refusal → Prop
  | next {t : State} (k : Keeps s t) : Upholds s (.next t)

theorem Upholds.keeps (u : Upholds s (.next t)) : Keeps s t := by
  cases u
  assumption

/-- A request keeps the laws where its owner does at a part that runs. -/
theorem upholds_request {α : Type} {tag : SeqTag} {code : Nat} {parse : List Septet → Option α} {body : List Septet}
    {owner : α → State → Owned} (ho : ∀ a u, u.power = .on → KeepsIfTaken u (owner a u)) :
    Upholds s (.next (takeRequest tag code parse body owner s)) := .next (takeRequest_keeps ho)

theorem exec_upholds (i : Instr) (s : State) : Upholds s (exec i s) := by
  cases i with
  | siteStatus => exact upholds_request fun _ _ _ => .read
  | alarms => exact upholds_request fun _ u _ => .ok (only_setAlarms _ u).keeps
  | linkCounters => exact upholds_request fun _ u _ => .ok (link_keeps _ u)
  | settingsRead => exact upholds_request fun _ _ _ => .read
  | settingsWrite => exact upholds_request fun o u _ => ownSettingsWrite_keeps o u
  | restart => exact upholds_request fun _ _ hp => ownRestart_keeps hp
  | tagChannelRead => exact upholds_request fun n u _ => ownTagChannelRead_keeps n u
  | machineRead => exact upholds_request fun o u _ => ownMachineRead_keeps o u
  | machineWrite => exact upholds_request fun o _ hp => ownMachineWrite_keeps o hp
  | machineDelete => exact upholds_request fun k _ hp => ownMachineDelete_keeps k hp
  | machineFind => exact upholds_request fun n u _ => ownMachineFind_keeps n u
  | machineList => exact upholds_request fun k u _ => ownMachineList_keeps k u
  | accountRead => exact upholds_request fun k u _ => ownAccountRead_keeps k u
  | accountWrite => exact upholds_request fun o u _ => ownAccountWrite_keeps o u
  | accountDelete => exact upholds_request fun k u _ => ownAccountDelete_keeps k u
  | approve => exact upholds_request fun o _ hp => ownApprove_keeps o hp
  | decline => exact upholds_request fun n _ hp => ownDecline_keeps n hp
  | authorise => exact upholds_request fun o _ hp => ownAuthorise_keeps o hp
  | hoseStatus => exact upholds_request fun n u _ => ownHoseStatus_keeps n u
  | stop => exact upholds_request fun n _ hp => ownStop_keeps n hp
  | hoseEnable => exact upholds_request fun n u _ => ownHoseEnable_keeps n u
  | hoseDisable => exact upholds_request fun n u _ => ownHoseDisable_keeps n u
  | hoseSettingsRead => exact upholds_request fun n u _ => ownHoseSettingsRead_keeps n u
  | hoseSettingsWrite => exact upholds_request fun o u _ => ownHoseSettingsWrite_keeps o u
  | equipmentStatus => exact upholds_request fun _ _ _ => .read
  | pumpSettingsRead => exact upholds_request fun n u _ => ownPumpSettingsRead_keeps n u
  | pumpSettingsWrite => exact upholds_request fun o u _ => ownPumpSettingsWrite_keeps o u
  | inhibitClear => exact upholds_request fun n _ hp => ownInhibitClear_keeps n hp
  | stockStatus => exact upholds_request fun n u _ => ownStockStatus_keeps n u
  | tankSetupRead => exact upholds_request fun n u _ => ownTankSetupRead_keeps n u
  | tankSetupWrite => exact upholds_request fun o u _ => ownTankSetupWrite_keeps o u
  | strappingRead => exact upholds_request fun o u _ => ownStrappingRead_keeps o u
  | strappingWrite => exact .next (takeFrame_keeps fun u _ => handleLast_keeps ownStrappingWrite_keeps u)
  | strappingWritePart => exact .next (takeFrame_keeps fun u _ => handlePart_keeps u)
  | gauge => exact upholds_request fun n u _ => ownGauge_keeps n u
  | gaugeRead => exact upholds_request fun n u _ => ownGaugeRead_keeps n u
  | bookAdjust => exact upholds_request fun o u _ => ownBookAdjust_keeps o u
  | deliveryStatus => exact upholds_request fun _ _ _ => .read
  | deliveryOpen => exact upholds_request fun o u _ => ownDeliveryOpen_keeps o u
  | deliveryClose => exact upholds_request fun _ u _ => ownDeliveryClose_keeps u
  | logStatus => exact upholds_request fun _ _ _ => .read
  | logRead => exact upholds_request fun part u _ => ownLogRead_keeps part u
  | logConfirm => exact upholds_request fun n u _ => ownLogConfirm_keeps n u
  | logRewind => exact upholds_request fun _ u _ => ownLogRewind_keeps u
  | clockSet => exact upholds_request fun n u _ => ownClockSet_keeps n u
  | shiftClose => exact upholds_request fun _ u _ => ownShiftClose_keeps u
  | shiftTotals => exact upholds_request fun k u _ => ownShiftTotals_keeps k u
  | calRead => exact upholds_request fun n u _ => ownCalRead_keeps n u
  | calOpen => exact upholds_request fun _ u _ => ownCalOpen_keeps u
  | calWrite => exact upholds_request fun o u _ => ownCalWrite_keeps o u
  | calClose => exact upholds_request fun _ u _ => ownCalClose_keeps u
  | auditRead => exact upholds_request fun n u _ => ownAuditRead_keeps n u
  | parkStatus => exact upholds_request fun _ _ _ => .read
  | park => exact upholds_request fun _ u _ => ownPark_keeps u
  | unknown => exact .next (takeFrame_keeps fun u _ => (link_keeps _ u).trans (link_keeps _ _))
  | check tag code => exact .next (.ite (fun _ => takeBadCheck_keeps tag code s) fun _ => .refl s)
  | overlap => exact .next (.ite (fun _ => (link_keeps _ s).trans (link_keeps _ _)) fun _ => .refl s)
  | brokenFrame kind => exact .next (.ite (fun _ => takeBroken_keeps kind s) fun _ => .refl s)
  | byteError => exact .next (.ite (fun _ => (link_keeps _ s).trans (link_keeps _ _)) fun _ => .refl s)
  | waking => exact .next (.ite (fun _ => takeFrame_keeps fun u _ => .refl u) fun _ => .refl s)
  | nozzleLift h =>
    exact .next (keeps_input fun _ => (disturbPark_touches _ _ _).keeps.trans (liftHose_keeps h _))
  | nozzleHang h => exact .next (keeps_input fun hp => hangHose_keeps h hp)
  | meterPulse m =>
    refine .next (keeps_live fun hp => ?_)
    cases m with
    | m1 => exact hosePulse_keeps hp
    | m2 => exact hosePulse_keeps hp
    | m3 => exact hosePulse_keeps hp
    | m4 => exact inletPulse_keeps s
  | tempReading p r => exact .next (keeps_live fun _ => (takeReading_touches p r s).keeps)
  | tempFaultIndication p => exact .next (keeps_live fun _ => (takeFault_touches p s).keeps)
  | levelReading c level =>
    exact .next (keeps_live fun _ =>
      ((setLevel_touches c _ s).keeps.trans (offerLevel_keeps c _)).trans (sampleRun_keeps c level _))
  | levelFaultIndication c =>
    exact .next (keeps_live fun _ =>
      ((setLevel_touches c _ s).keeps.trans (offerLevel_keeps c _)).trans (faultRun_keeps c _))
  | valid h id => exact .next (keeps_live fun _ => takeValid_keeps h id s)
  | inverted h => exact .next (keeps_live fun _ => takeInverted_keeps h s)
  | checkBad h => exact .next (keeps_live fun _ => onChannel_keeps h _ s)
  | badStart h => exact .next (keeps_live fun _ => onChannel_keeps h _ s)
  | confirmed h id =>
    exact .next (keeps_live fun hp => (takeHanded_keeps _ s).trans (takeConfirmed_keeps h id hp))
  | lost h => exact .next (keeps_live fun _ => (takeHanded_keeps _ s).trans (takeLost_keeps h _))
  | changed h => exact .next (keeps_live fun _ => (takeHanded_keeps _ s).trans (takeChanged_keeps h _))
  | emergencyStopActive => exact .next (keeps_input fun hp => emergencyStop_keeps hp)
  | emergencyStopInactive =>
    exact .next (keeps_input fun _ => (evalPump_touches _ _).keeps.trans (evalPump_touches _ _).keeps)
  | overfillSwitchActive c =>
    exact .next (keeps_input fun _ => (raiseAlarm_touches _ _).keeps.trans (overfillDelivery_keeps c _))
  | overfillSwitchInactive => exact .next (inputs_keeps _ s)
  | sealSwitchOpen => exact .next (keeps_input fun _ => (raiseAlarm_touches _ _).keeps)
  | sealSwitchClosed => exact .next (keeps_input fun _ => (only_setGuard _ _).keeps)
  | storeDisturbance => exact .next (only_setCal _ s).keeps
  | startUp => exact .next (startUpAt_keeps _ s)
  | intervalEnd m =>
    exact .next (keeps_expiry fun _ => (endInterval_touches m s).keeps.trans (recomputeVcf_keeps m _))
  | sourceHoldTimerExpiry p => exact .next (keeps_expiry fun _ => (enterDefault_touches p s).keeps)
  | channelHoldTimerExpiry h =>
    exact .next (keeps_expiry fun _ => (only_setChannels _ s).keeps.trans (report_touches h _ _).keeps)
  | identifyTimerExpiry h =>
    exact .next (keeps_hose_expiry fun hp hi => refuseHose_keeps hp (by rw [of_decide_eq_true hi]; rfl) _)
  | approvalTimerExpiry h =>
    exact .next (keeps_hose_expiry fun hp ha => refuseHose_keeps hp (not_filling_of_awaiting ha) _)
  | noFlowTimerExpiry h => exact .next (keeps_expiry fun _ => stopEvent_keeps h _ s)
  | resumeGraceTimerExpiry h => exact .next (keeps_expiry fun _ => stopEvent_keeps h _ s)
  | hoseDrainQuietExpiry h => exact .next (keeps_hose_expiry fun hp hd => drainEnd_keeps hp hd)
  | hoseDrainCapExpiry h => exact .next (keeps_hose_expiry fun hp hd => drainCap_keeps hp hd)
  | deliveryDrainQuietExpiry => exact .next (keeps_expiry fun _ => endDrain_keeps false s)
  | deliveryDrainCapExpiry => exact .next (keeps_expiry fun _ => endDrain_keeps true s)
  | maxRunReached c => exact .next (keeps_expiry fun hp => guardPump_keeps c hp)
  | restTimerExpiry => exact .next (keeps_expiry fun _ => (only_setPumps _ s).keeps)
  | windowTimerExpiry => exact .next (keeps_expiry fun _ => (only_setGuard _ s).keeps)
  | checkTimerExpiry => exact .next (keeps_expiry fun hp => (only_setGuard _ s).keeps.trans (integrityCheck_keeps hp))
  | watchdogExpiry order => exact .next (keeps_expiry fun hp => (link_keeps _ s).trans (dropLinks_keeps _ hp))
  | watchTimerExpiry =>
    exact .next (keeps_expiry fun _ => ((only_setPark _ s).keeps.trans (requestWatch_touches _ _).keeps).trans
      (requestWatch_touches _ _).keeps)
  | confirmTimerExpiry => exact .next (keeps_expiry fun _ => (only_setPark _ s).keeps)
  | siteClockTick =>
    have clock : Keeps s (advanceClock s) := (only_setClock _ s).keeps
    exact .next (.ite (fun _ => clock.trans (elapseTimers_keeps _)) fun _ => .ite (fun _ => clock) fun _ => .refl s)
  | preGaugeResult c r => exact .next (keeps_live fun _ => (takeHanded_keeps _ s).trans (takePreGauge_keeps c r _))
  | postGaugeResult c r => exact .next (keeps_live fun _ => (takeHanded_keeps _ s).trans (takePostGauge_keeps c r _))
  | parkBaselineResult c r => exact .next (keeps_live fun _ => (takeHanded_keeps _ s).trans (takeAwaited_keeps c r _))
  | parkWatchResult c r =>
    exact .next (keeps_live fun _ => (takeHanded_keeps _ s).trans (takeWatch_touches c r _).keeps)
  | answerSent => exact .next (.ite (fun _ => endReply_keeps s) fun _ => .refl s)
  | lossOfPower => exact .next (losePower_keeps s)

theorem takeByte_upholds (b : LineByte) (s : State) : Upholds s (takeByte b s) := by
  obtain he | ⟨a, he⟩ | ⟨a, i, -, he⟩ := takeByte_cases b s <;> rw [he]
  · exact .next (.refl s)
  · exact .next (link_keeps _ s)
  · exact exec_upholds i s

/-- A step keeps every law. -/
theorem step_keeps (hs : step s = .next t) : Keeps s t := by
  obtain ⟨i, rest, -, he⟩ | ⟨b, rest, -, -, he⟩ | ⟨-, -, he⟩ := step_cases s <;> rw [he] at hs
  · exact (only_setPending rest s).keeps.trans (hs ▸ exec_upholds i _).keeps
  · exact (only_setLine rest s).keeps.trans (hs ▸ takeByte_upholds b _).keeps
  · cases hs
    exact .refl s

/-- Settles O21: every step keeps the three laws, by `step_keeps`. -/
theorem registryKeepsItsLaws : Obligations.RegistryKeepsItsLaws := by
  unfold Obligations.RegistryKeepsItsLaws
  intro s t hs
  have k := step_keeps hs
  exact ⟨k.tag, k.queue, k.hold⟩

/-- Settles O38: every step keeps the laws of the contexts and the reservations, by `step_keeps`; the overrun and the
stock law are those of each compartment. -/
theorem contextsMatchTheirReservations : Obligations.ContextsMatchTheirReservations := by
  unfold Obligations.ContextsMatchTheirReservations
  intro s t hs lx
  have k := step_keeps hs
  have r := k.store lx
  have m := k.meter lx
  refine ⟨fun lc lr => ⟨k.context lx, r.capacity lc, r.reservation lr⟩, r.naming, r.entry, r.account, fun lo => ?_,
    fun lr lo l => ?_⟩
  · rw [overrunLaw_iff] at lo ⊢
    exact fun c => (m c).overrun (lo c)
  · rw [overrunLaw_iff] at lo
    rw [stockLaw_iff] at l ⊢
    exact fun c => (m c).stock lr (lo c) (l c)

end Sys2Proof.Machine
end

section
/-! PROOF. The reads of the registry, the accounts, the shift and the strapping tables (R49 to R51, R55, R120, R163,
R189). -/

namespace Sys2Proof.Machine

variable {α : Type} {s : State} {tag : SeqTag} {code : Nat} {parse : List Septet → Option α} {body : List Septet}
  {owner : α → State → Owned} {a : α} {fields : List Field} {r : RefusalCode} {n : Nat} {id : TagId}

/-! ## A request that is read or refused (R187, R188) -/

/-- A ready part answers a request whose owner reads the state, and nothing else changes. -/
theorem request_answered (hr : Ready s) (hp : parse body = some a)
    (ho : owner a (heard s) = .ok (heard s, fields)) :
    (.next (takeRequest tag code parse body owner s) : Host.Outcome State Fault Refusal) =
      .next (answered tag (BitVec.ofNat 7 code) fields s) :=
  congrArg Host.Outcome.next (takeRequest_ok hr hp ho)

/-- A ready part refuses a request whose owner does, and nothing else changes. -/
theorem request_refused (hr : Ready s) (hp : parse body = some a) (ho : owner a (heard s) = .error r) :
    (.next (takeRequest tag code parse body owner s) : Host.Outcome State Fault Refusal) =
      .next (refused tag r (BitVec.ofNat 7 code) s) :=
  congrArg Host.Outcome.next (takeRequest_error hr hp ho)

/-! ## The owners -/

theorem foundFields_eq (pending : Bool) (r : Nat × Product) : foundFields pending r =
    [.count2 r.1, .code (if r.2 = .diesel then 0 else 1), .code (if pending then 1 else 0)] := by
  obtain ⟨k, p⟩ := r
  cases p <;> rfl

theorem ownMachineFind_current {r : Nat × Product} (hn : n < 2 ^ 40)
    (hf : findTag s.store.machines (BitVec.ofNat 40 n) = some r) :
    ownMachineFind n s = .ok (s, foundFields false r) := by
  simp only [ownMachineFind, if_neg (Nat.not_le.mpr hn), hf]

theorem ownMachineFind_pending {r : Nat × Product} (hn : n < 2 ^ 40)
    (hf : findTag s.store.machines (BitVec.ofNat 40 n) = none)
    (hq : findPendingTag s.store.queue (BitVec.ofNat 40 n) = some r) :
    ownMachineFind n s = .ok (s, foundFields true r) := by
  simp only [ownMachineFind, if_neg (Nat.not_le.mpr hn), hf, hq]

theorem ownMachineFind_notFound (hn : n < 2 ^ 40) (hf : findTag s.store.machines (BitVec.ofNat 40 n) = none)
    (hq : findPendingTag s.store.queue (BitVec.ofNat 40 n) = none) : ownMachineFind n s = .error .notFound := by
  simp only [ownMachineFind, if_neg (Nat.not_le.mpr hn), hf, hq]

theorem shiftTotalFields_eq (k : Nat) (a : Account) (s : State) : shiftTotalFields k a s =
    [.long s.store.shift.number, .time s.store.shift.opened.time, .flag s.store.shift.opened.unset, .count k,
      .volume a.used.diesel, .volume a.used.fluid, .money a.charged, .wide s.store.shift.fills.c1,
      .wide s.store.shift.fills.c2] := by
  simp [shiftTotalFields, joinFields, stampFields, volumeOf]

theorem ownShiftTotals_account {a : Account} (hn : n ≤ 63) (ha : s.account n = some a) :
    ownShiftTotals n s = .ok (s, shiftTotalFields n a s) := by
  simp only [ownShiftTotals, if_neg (Nat.not_lt.mpr hn), ha]

theorem ownShiftTotals_notFound (hn : n ≤ 63) (ha : s.account n = none) : ownShiftTotals n s = .error .notFound := by
  simp only [ownShiftTotals, if_neg (Nat.not_lt.mpr hn), ha]

/-- R189: a part of a full answer is refused with RANGE alone. -/
theorem answerPart_error {full : List Septet} {part : Nat} (he : answerPart full part = .error r) : r = .range := by
  unfold answerPart at he
  split at he
  · exact (Except.error.inj he).symm
  · cases he

theorem ownMachineRead_inRange {k : Nat} (part : Option Nat) (hk : k ≤ 511) (s : State) :
    ownMachineRead (k, part) s =
      (answerPart (fieldBytes (machineReadFields k s)) (part.getD 1)).map fun fs => (s, fs) :=
  if_neg (Nat.not_lt.mpr hk)

theorem ownStrappingRead_comp (c : Comp) (part : Option Nat) (s : State) :
    ownStrappingRead (compNumber c, part) s =
      (answerPart (fieldBytes (strappingFields (s.comp c).strapping)) (part.getD 1)).map fun fs => (s, fs) := by
  simp only [ownStrappingRead, compOfNumber_compNumber]

/-! ## The reads -/

/-- R49, R120, R189: a request whose owner answers with a part of a full answer that hearing it does not change. -/
theorem longRead_answers {full : List Septet} {part : Nat} (hr : Ready s) (hp : parse body = some a)
    (ho : owner a (heard s) = (answerPart full part).map fun fs => (heard s, fs)) :
    (∀ fs, answerPart full part = .ok fs →
      (.next (takeRequest tag code parse body owner s) : Host.Outcome State Fault Refusal) =
        .next (answered tag (BitVec.ofNat 7 code) fs s)) ∧
    (∀ r, answerPart full part = .error r →
      (.next (takeRequest tag code parse body owner s) : Host.Outcome State Fault Refusal) =
        .next (refused tag .range (BitVec.ofNat 7 code) s)) := by
  refine ⟨fun fs hf => ?_, fun r he => ?_⟩
  · rw [hf] at ho
    exact request_answered hr hp ho
  · rw [he, answerPart_error he] at ho
    exact request_refused hr hp ho

/-- R50: MACHINE FIND answers from the current contents before the pending ones. -/
theorem machineFind_answers (hr : Ready s) (hp : parseTag body = some n) (hn : n < 2 ^ 40) :
    (∀ r, findTag s.store.machines (BitVec.ofNat 40 n) = some r →
      exec (.machineFind tag body) s = .next (answered tag 19
        [.count2 r.1, .code (if r.2 = .diesel then 0 else 1), .code 0] s)) ∧
    (∀ r, findTag s.store.machines (BitVec.ofNat 40 n) = none →
      findPendingTag s.store.queue (BitVec.ofNat 40 n) = some r →
      exec (.machineFind tag body) s = .next (answered tag 19
        [.count2 r.1, .code (if r.2 = .diesel then 0 else 1), .code 1] s)) ∧
    (findTag s.store.machines (BitVec.ofNat 40 n) = none →
      findPendingTag s.store.queue (BitVec.ofNat 40 n) = none →
      exec (.machineFind tag body) s = .next (refused tag .notFound 19 s)) := by
  refine ⟨fun r hf => ?_, fun r hf hq => ?_, fun hf hq => ?_⟩
  · refine (request_answered hr hp (ownMachineFind_current (s := heard s) hn hf)).trans ?_
    rw [foundFields_eq]
    rfl
  · refine (request_answered hr hp (ownMachineFind_pending (s := heard s) hn hf hq)).trans ?_
    rw [foundFields_eq]
    rfl
  · exact request_refused hr hp (ownMachineFind_notFound (s := heard s) hn hf hq)

/-- R163: SHIFT TOTALS of an account, of one that is EMPTY, and of a number beyond the accounts. -/
theorem shiftTotals_answers (hr : Ready s) (hp : parseCount body = some n) :
    (∀ a, n ≤ 63 → s.account n = some a → exec (.shiftTotals tag body) s = .next (answered tag 90
      [.long s.store.shift.number, .time s.store.shift.opened.time, .flag s.store.shift.opened.unset, .count n,
        .volume a.used.diesel, .volume a.used.fluid, .money a.charged, .wide s.store.shift.fills.c1,
        .wide s.store.shift.fills.c2] s)) ∧
    (n ≤ 63 → s.account n = none → exec (.shiftTotals tag body) s = .next (refused tag .notFound 90 s)) ∧
    (63 < n → exec (.shiftTotals tag body) s = .next (refused tag .range 90 s)) := by
  refine ⟨fun a hn ha => ?_, fun hn ha => ?_, fun hn => request_refused hr hp (if_pos hn)⟩
  · refine (request_answered hr hp (ownShiftTotals_account (s := heard s) hn ha)).trans ?_
    rw [shiftTotalFields_eq]
    rfl
  · exact request_refused hr hp (ownShiftTotals_notFound (s := heard s) hn ha)

/-- Settles O18: each read is a request whose owner leaves the state that heard it, which has every field that the
answer is formed of as it was. -/
theorem registryReadsAnswer : Obligations.RegistryReadsAnswer := by
  unfold Obligations.RegistryReadsAnswer
  refine ⟨fun tag body n s hr => ⟨machineFind_answers hr, fun hp hn => request_refused hr hp (if_pos hn),
    fun hp => ⟨fun hn => ?_, fun hn => request_refused hr hp (if_pos hn)⟩, fun hp => ?_⟩,
    fun tag body k part s hr => ⟨fun hp hk => ?_, fun c hp => ?_⟩⟩
  · exact request_answered hr hp (if_neg (Nat.not_lt.mpr hn))
  · exact ⟨fun hn => request_answered hr hp (if_neg (Nat.not_lt.mpr hn)),
      fun hn => request_refused hr hp (if_pos hn), shiftTotals_answers hr hp⟩
  · exact longRead_answers hr hp (ownMachineRead_inRange part hk (heard s))
  · exact longRead_answers hr hp (ownStrappingRead_comp c part (heard s))

end Sys2Proof.Machine
end

section
/-! PROOF. The writes of the registry and the accounts, at once or by the queue (R41, R44, R47, R48, R53, R54). -/

namespace Sys2Proof.Machine

variable {s : State} {u v : Update} {q : List Update} {k : Nat} {r : Reply} {tag : SeqTag} {body : List Septet}

/-! ## The place of an update in the queue (R44) -/

theorem filter_entry_eq_nil (h : u.entry ∉ q.map Update.entry) : q.filter (fun v => decide (v.entry = u.entry)) = [] :=
  List.filter_eq_nil_iff.mpr fun _ hv he => h (of_decide_eq_true he ▸ List.mem_map_of_mem hv)

theorem enqueue_others (u : Update) (q : List Update) :
    (enqueue u q).filter (fun v => decide (v.entry ≠ u.entry)) = q.filter fun v => decide (v.entry ≠ u.entry) := by
  induction q with
  | nil => simp [enqueue]
  | cons w q ih =>
    simp only [enqueue]
    split
    · rename_i hw
      simp [hw]
    · rename_i hw
      simp only [List.filter_cons, hw, ne_eq, not_false_eq_true, decide_true, if_true]
      exact congrArg (w :: ·) ih

theorem enqueue_own (hn : (q.map Update.entry).Nodup) :
    (enqueue u q).filter (fun v => decide (v.entry = u.entry)) = [u] := by
  induction q with
  | nil => simp [enqueue]
  | cons w q ih =>
    obtain ⟨hw, hn⟩ := List.nodup_cons.mp hn
    simp only [enqueue]
    split
    · rename_i he
      rw [List.filter_cons, if_pos (decide_eq_true rfl), filter_entry_eq_nil (he ▸ hw)]
    · rename_i he
      rw [List.filter_cons, if_neg (by simpa using he)]
      exact ih hn

/-! ## An update of a free and of a held entry (R44) -/

/-- R44: a request that brings an update for a free entry applies it at once. -/
theorem update_applied (hk : held s u.entry = false) (r : Reply) :
    OnlyIn [.machines, .link] s (replied r (writeOrQueue u (heard s))) ∧
      (∀ j, j ≠ u.entry → (replied r (writeOrQueue u (heard s))).machine j = s.machine j) ∧
      (replied r (writeOrQueue u (heard s))).machine u.entry = updatedEntry (s.machine u.entry) u := by
  have free : held (heard s) u.entry = false := hk
  have now : writeOrQueue u (heard s) = applyContents u (heard s) := if_neg (ne_true_of_eq_false free)
  rw [now]
  refine ⟨(((heard_touches s).mono (by decide)).then (applyContents_touches u _) (by decide)).then
    (replied_touches r _) (by decide), fun j hj => ?_, ?_⟩
  · exact (applyContents_machine u j (heard s)).trans (if_neg hj.symm)
  · exact (applyContents_machine u u.entry (heard s)).trans (if_pos rfl)

/-- R44: a request that brings an update for a held entry queues it. -/
theorem update_queued (hk : held s u.entry = true) (r : Reply) :
    OnlyIn [.queue, .link] s (replied r (writeOrQueue u (heard s))) ∧
      (replied r (writeOrQueue u (heard s))).store.queue = enqueue u s.store.queue := by
  have taken : held (heard s) u.entry = true := hk
  have queued : writeOrQueue u (heard s) = (heard s).setQueue (enqueue u s.store.queue) := if_pos taken
  rw [queued]
  exact ⟨(((heard_touches s).mono (by decide)).then (only_setQueue _ _) (by decide)).then
    (replied_touches r _) (by decide), rfl⟩

/-! ## MACHINE WRITE and MACHINE DELETE (R47, R48) -/

theorem ownMachineWrite_accepted {o : MachineOperands} (hi : o.inRange = true) (ht : sameTags o.fields = false)
    (ha : s.account o.account ≠ none) (hd : duplicateTag s o.index o.fields = false)
    (hb : queueBusy s o.index = false) : ownMachineWrite o s =
      .ok (writeOrQueue ⟨o.index, some o.fields⟩ s, [.count2 o.index, .code (appliedCode (held s o.index))]) := by
  simp only [ownMachineWrite, hi, ht, hd, hb, Option.isNone_eq_false_iff.mpr (Option.isSome_iff_ne_none.mpr ha),
    Bool.not_true, Bool.false_eq_true, if_false]

theorem ownMachineDelete_accepted (hk : k ≤ 511) (hm : s.machine k ≠ none) (hb : queueBusy s k = false) :
    ownMachineDelete k s = .ok (writeOrQueue ⟨k, none⟩ s, [.code (appliedCode (held s k))]) := by
  simp only [ownMachineDelete, if_neg (Nat.not_lt.mpr hk), hb,
    Option.isNone_eq_false_iff.mpr (Option.isSome_iff_ne_none.mpr hm), Bool.false_eq_true, if_false]

/-- Settles O19: a request that passes its checks hands its update to `writeOrQueue`, which `update_applied` and
`update_queued` describe; the queue's law is `enqueue_others`, `enqueue_own` and `enqueue_entries`. -/
theorem registryWritesApplyOrQueue : Obligations.RegistryWritesApplyOrQueue := by
  unfold Obligations.RegistryWritesApplyOrQueue
  refine ⟨fun tag body s hr => ⟨fun o hp hi ht ha hd hb => ?_, fun k hp hk hm hb => ?_⟩,
    fun u q hn => ⟨enqueue_others u q, enqueue_own hn, enqueue_entries u q⟩⟩
  · have run := takeRequest_ok (tag := tag) (code := 17) hr hp
      (ownMachineWrite_accepted (s := heard s) hi ht ha hd hb)
    refine ⟨fun hh => ?_, fun hh => ?_⟩
    · obtain ⟨only, others, own⟩ := update_applied (u := ⟨o.index, some o.fields⟩) hh _
      refine ⟨_, congrArg Host.Outcome.next run, only, others, own.trans ?_, hh ▸ rfl⟩
      cases s.machine o.index <;> rfl
    · obtain ⟨only, queue⟩ := update_queued (u := ⟨o.index, some o.fields⟩) hh _
      exact ⟨_, congrArg Host.Outcome.next run, only, queue, hh ▸ rfl⟩
  · have run := takeRequest_ok (tag := tag) (code := 18) hr hp
      (ownMachineDelete_accepted (s := heard s) hk hm hb)
    refine ⟨fun hh => ?_, fun hh => ?_⟩
    · obtain ⟨only, others, own⟩ := update_applied (u := ⟨k, none⟩) hh _
      exact ⟨_, congrArg Host.Outcome.next run, only, others, own, hh ▸ rfl⟩
    · obtain ⟨only, queue⟩ := update_queued (u := ⟨k, none⟩) hh _
      exact ⟨_, congrArg Host.Outcome.next run, only, queue, hh ▸ rfl⟩

/-! ## ACCOUNT WRITE and ACCOUNT DELETE (R53, R54) -/

theorem ownAccountWrite_accepted {o : AccountOperands} (hi : o.inRange = true) (s : State) :
    ownAccountWrite o s = .ok (accountWritten o.index o.fields s, [.count o.index, .code 0]) := by
  simp only [ownAccountWrite, hi, Bool.not_true, Bool.false_eq_true, if_false]
  rfl

/-- R53: a request that writes an account changes that account alone. -/
theorem accountWrite_effect (k : Nat) (f : AccountFields) (r : Reply) (s : State) :
    OnlyIn [.accounts, .link] s (replied r (accountWritten k f (heard s))) ∧
      (∀ j, j ≠ k → (replied r (accountWritten k f (heard s))).account j = s.account j) ∧
      (replied r (accountWritten k f (heard s))).account k = some (writtenAccount f (s.account k)) :=
  ⟨(((heard_touches s).mono (by decide)).then (only_setAccounts _ _) (by decide)).then (replied_touches r _)
      (by decide),
    fun j hj => (accountWritten_account k f (heard s) j).trans (if_neg hj),
    (accountWritten_account k f (heard s) k).trans (if_pos rfl)⟩

theorem ownAccountDelete_notFound (hk : k ≤ 63) (ha : s.account k = none) :
    ownAccountDelete k s = .error .notFound := by
  simp only [ownAccountDelete, if_neg (Nat.not_lt.mpr hk), ha]

theorem ownAccountDelete_state {a : Account} (hk : k ≤ 63) (ha : s.account k = some a)
    (hn : accountNamed s k = true ∨ a.reserved.diesel ≠ 0 ∨ a.reserved.fluid ≠ 0) :
    ownAccountDelete k s = .error .state := by
  simp only [ownAccountDelete, if_neg (Nat.not_lt.mpr hk), ha]
  split
  · rfl
  · exact if_pos (hn.resolve_left ‹_›)

theorem ownAccountDelete_accepted {a : Account} (hk : k ≤ 63) (ha : s.account k = some a)
    (hn : accountNamed s k = false) (hz : a.reserved = ⟨0, 0⟩) :
    ownAccountDelete k s = .ok (accountDeleted k s, [.code 0]) := by
  simp only [ownAccountDelete, if_neg (Nat.not_lt.mpr hk), ha, hn, hz, Bool.false_eq_true, if_false]
  rfl

/-- R54: a request that empties an account changes that account alone. -/
theorem accountDelete_effect (k : Nat) (r : Reply) (s : State) :
    OnlyIn [.accounts, .link] s (replied r (accountDeleted k (heard s))) ∧
      (∀ j, j ≠ k → (replied r (accountDeleted k (heard s))).account j = s.account j) ∧
      (replied r (accountDeleted k (heard s))).account k = none :=
  ⟨(((heard_touches s).mono (by decide)).then (only_setAccounts _ _) (by decide)).then (replied_touches r _)
      (by decide),
    fun j hj => (accountDeleted_account k (heard s) j).trans (if_neg hj),
    (accountDeleted_account k (heard s) k).trans (if_pos rfl)⟩

/-- Settles O20: the owners of the two requests in their outcomes, each with what it leaves of the accounts. -/
theorem accountWritesApplyAtOnce : Obligations.AccountWritesApplyAtOnce := by
  unfold Obligations.AccountWritesApplyAtOnce
  intro tag body s hr
  refine ⟨fun o hp hi => ?_, fun k hp hk => ⟨fun ha => ?_, fun a ha hn => ?_, fun a ha hn hz => ?_⟩⟩
  · obtain ⟨only, others, own⟩ := accountWrite_effect o.index o.fields _ s
    exact ⟨_, congrArg Host.Outcome.next (takeRequest_ok hr hp (ownAccountWrite_accepted hi _)), only, others, own, rfl⟩
  · exact request_refused hr hp (ownAccountDelete_notFound (s := heard s) hk ha)
  · exact request_refused hr hp (ownAccountDelete_state (s := heard s) hk ha hn)
  · obtain ⟨only, others, own⟩ := accountDelete_effect k _ s
    exact ⟨_, congrArg Host.Outcome.next (takeRequest_ok hr hp (ownAccountDelete_accepted (s := heard s) hk ha hn hz)),
      only, others, own, rfl⟩

end Sys2Proof.Machine
end

section
/-! PROOF. A waiting hose that is refused, and a hang or a STOP outside a fill (R42, R45, R60, R64, R66, R67, R70, R86,
R87, R94). -/

namespace Sys2Proof.Machine

variable {s : State} {h : Hose} {k n : Nat} {id : TagId} {tag : SeqTag} {b : Septet} {r : Reason}

/-! ## A hose that leaves its wait (R42, R45) -/

theorem endAwaitHold_of_not {st : HoseState} (hw : st.isAwaiting = false) (s : State) : endAwaitHold st s = s := by
  cases st
  case awaiting => cases hw
  all_goals rfl

/-- R42: a hose that holds no entry is refused with nothing but its own items changed. -/
theorem refuseHose_only (hw : (s.hose h).state.isAwaiting = false) (r : Reason) :
    OnlyIn [.hoses] s (refuseHose h r s) := by
  rw [refuseHose, endAwaitHold_of_not hw]
  exact moveHose_touches _ _ s

theorem refuseHose_state (h : Hose) (r : Reason) (s : State) : ((refuseHose h r s).hose h).state = .refused r := by
  rw [(refuseHose_refuses h r s).1]

/-- R60, R64: a hose that becomes IDLE, and every other hose. -/
theorem idleHose_idles (h : Hose) (s : State) :
    (idleHose h s).hose h = { s.hose h with state := .idle, identify := .stopped, approval := .stopped } ∧
      OtherHoses h s (idleHose h s) := by
  have hoses : (idleHose h s).hoses = (moveHose h .idle s).hoses := (endAwaitHold_touches _ _) .hoses (by decide)
  constructor
  · rw [State.hose, hoses]
    exact State.hose_putHose _ _
  · intro g hg
    rw [State.hose, hoses]
    exact State.hose_putHose_ne _ _ hg

/-- R60, R64, R70: a hose that waits, was refused or has finished becomes IDLE by way of `idleHose`, whether or not it
held an entry. -/
theorem hangHose_idles (hs : (s.hose h).state = .identifying ∨ (s.hose h).state.isAwaiting = true ∨
    (∃ r, (s.hose h).state = .refused r) ∨ (s.hose h).state = .finished) :
    hangHose h s = channelOff h (idleHose h s) := by
  have idle (hw : (s.hose h).state.isAwaiting = false) : idleHose h s = moveHose h .idle s := by
    rw [idleHose, endAwaitHold_of_not hw]
  cases hc : (s.hose h).state with
  | identifying | awaiting => simp only [hangHose, hc]
  | refused | finished => rw [idle (by rw [hc]; rfl)]; simp only [hangHose, hc]
  | _ => simp [hc, HoseState.isAwaiting] at hs

/-! ## DECLINE and STOP (R66, R87) -/

theorem ownDecline_awaiting (hn : n = hoseNumber h) (hw : (s.hose h).state.isAwaiting = true) :
    ownDecline n s = .ok (refuseHose h .declined s, [.count (hoseNumber h)]) := by
  simp only [ownDecline, hn, hoseOfNumber_hoseNumber, hw, if_true]

theorem ownDecline_state (hn : n = hoseNumber h) (hw : (s.hose h).state.isAwaiting = false) :
    ownDecline n s = .error .state := by
  simp only [ownDecline, hn, hoseOfNumber_hoseNumber, hw, Bool.false_eq_true, if_false]

theorem ownStop_state (hn : n = hoseNumber h) (hs : (s.hose h).state.stoppable = false) :
    ownStop n s = .error .state := by
  simp only [ownStop, hn, hoseOfNumber_hoseNumber, hs, Bool.not_false, if_true]

theorem ownStop_stoppable (hn : n = hoseNumber h) (hs : (s.hose h).state.stoppable = true) :
    ownStop n s = .ok (stopHose h s, hoseStateFields h (stopHose h s)) := by
  simp only [ownStop, hn, hoseOfNumber_hoseNumber, hs, Bool.not_true, Bool.false_eq_true, if_false]

/-- R87: STOP of a hose that waits refuses it, with the state REFUSED in the answer. -/
theorem ownStop_waiting (hn : n = hoseNumber h)
    (hw : (s.hose h).state = .identifying ∨ (s.hose h).state.isAwaiting = true) :
    ownStop n s = .ok (refuseHose h .declined s, [.count (hoseNumber h), .code 3]) := by
  have fields : hoseStateFields h (refuseHose h .declined s) = [.count (hoseNumber h), .code 3] := by
    rw [hoseStateFields, refuseHose_state]
    rfl
  cases hc : (s.hose h).state with
  | identifying | awaiting =>
    have stops : stopHose h s = refuseHose h .declined s := by simp only [stopHose, hc]
    rw [ownStop_stoppable hn (by rw [hc]; rfl), stops, fields]
  | _ => simp [hc, HoseState.isAwaiting] at hw

theorem ownStop_draining (hn : n = hoseNumber h) (hd : (s.hose h).state = .draining) :
    ownStop n s = .ok (s, [.count (hoseNumber h), .code 7]) := by
  have stands : stopHose h s = s := by simp only [stopHose, hd]
  rw [ownStop_stoppable hn (by rw [hd]; rfl), stands, hoseStateFields, hd]
  rfl

/-! ## The two timers of a waiting hose (R60, R67) -/

theorem exec_identifyTimerExpiry (hp : s.power = .on) (hi : (s.hose h).state = .identifying)
    (hn : (s.hose h).identify = .running n) :
    exec (.identifyTimerExpiry h) s = .next (refuseHose h .identifyTimeout s) :=
  congrArg Host.Outcome.next (if_pos (by simp [live_of_on hp, identifying, hi, hn, Timer.isRunning]))

theorem exec_approvalTimerExpiry (hp : s.power = .on) (hw : (s.hose h).state.isAwaiting = true)
    (hn : (s.hose h).approval = .running n) :
    exec (.approvalTimerExpiry h) s = .next (refuseHose h .approvalTimeout s) :=
  congrArg Host.Outcome.next (if_pos (by simp [live_of_on hp, hw, hn, Timer.isRunning]))

/-! ## The refusals -/

/-- R45, R66, R87: a request that refuses a hose in AWAITING. -/
theorem request_declines (hw : (s.hose h).state = .awaiting k id) (a : Reply) :
    HoseRefused h .declined s (replied a (refuseHose h .declined (heard s))) ∧
      HoldEnded h k s (replied a (refuseHose h .declined (heard s))) ∧
      OnlyIn [.hoses, .machines, .queue, .link] s (replied a (refuseHose h .declined (heard s))) :=
  ⟨refuseHose_refuses h .declined (heard s), refuseHose_ends (s := heard s) .declined hw,
    (((heard_touches s).mono (by decide)).then (refuseHose_touches _ _ _) (by decide)).then (replied_touches _ _)
      (by decide)⟩

/-- Settles O27: each of the four is `refuseHose` with its reason, and `refuseHose_ends` is the end of the hold. -/
theorem waitingHosesAreRefused : Obligations.WaitingHosesAreRefused := by
  unfold Obligations.WaitingHosesAreRefused
  intro h s
  refine ⟨fun tag n hr hn => ⟨fun k id hw => ?_, fun hw => ?_, fun hi => ?_⟩, fun hp hi ⟨n, hn⟩ => ?_,
    fun k id hp hw ⟨n, hn⟩ => ?_⟩
  · have waits : ((heard s).hose h).state.isAwaiting = true := by
      have hw : ((heard s).hose h).state = .awaiting k id := hw
      rw [hw]
      rfl
    obtain ⟨refused, ended, only⟩ := request_declines hw (.answer tag 33 [.count (hoseNumber h)])
    obtain ⟨refused', ended', only'⟩ := request_declines hw (.answer tag 41 [.count (hoseNumber h), .code 3])
    exact ⟨⟨_, congrArg Host.Outcome.next (countRequest_ok hr (ownDecline_awaiting hn waits)), refused, ended, only,
        rfl⟩,
      ⟨_, congrArg Host.Outcome.next (countRequest_ok hr (ownStop_waiting hn (.inr waits))), refused', ended', only',
        rfl⟩⟩
  · exact congrArg Host.Outcome.next (countRequest_error hr (ownDecline_state (s := heard s) hn hw))
  · exact ⟨_, congrArg Host.Outcome.next (countRequest_ok hr (ownStop_waiting (s := heard s) hn (.inl hi))),
      refuseHose_refuses h .declined (heard s),
      (((heard_touches s).mono (by decide)).then (refuseHose_only (s := heard s) (by
        have hi : ((heard s).hose h).state = .identifying := hi
        rw [hi]
        rfl) .declined) (by decide)).then (replied_touches _ _) (by decide), rfl⟩
  · exact ⟨_, exec_identifyTimerExpiry hp hi hn, refuseHose_refuses h _ s, refuseHose_only (by rw [hi]; rfl) _⟩
  · exact ⟨_, exec_approvalTimerExpiry hp (by rw [hw]; rfl) hn, refuseHose_refuses h _ s, refuseHose_ends _ hw,
      refuseHose_touches h _ s⟩

/-! ## Hangs outside a fill (R60, R64, R70, R86, R94) -/

/-- R25: a channel goes OFF after changes that leave the channels. -/
theorem channelOff_after {t : State} (h : Hose) (hc : t.channels = s.channels) :
    (channelOff h t).channel h = { s.channel h with state := .off, run := 0, hold := .stopped } ∧
      OtherChannels h s (channelOff h t) := by
  constructor
  · rw [channelOff_channel, State.channel, hc]
  · intro g hg
    rw [channelOff_others h t g hg, State.channel, hc]

/-- R60, R64, R70: a nozzle is hung at a hose that waits, was refused or has finished. -/
theorem nozzleHang_idles (hp : s.power = .on) (hl : s.inputs.lifted.get h = true)
    (hs : (s.hose h).state = .identifying ∨ (s.hose h).state.isAwaiting = true ∨
      (∃ r, (s.hose h).state = .refused r) ∨ (s.hose h).state = .finished) :
    exec (.nozzleHang h) s = .next (channelOff h (idleHose h (setLifted h false s))) :=
  (exec_nozzleHang hp hl).trans (congrArg Host.Outcome.next (hangHose_idles (s := setLifted h false s) hs))

theorem setLifted_touches (h : Hose) (v : Bool) (s : State) : OnlyIn [.inputs] s (setLifted h v s) := only_setInputs _ s

/-- Settles O30: a hang outside a fill is `idleHose`, or the channel alone, and STOP there is `ownStop_draining` or
`ownStop_state`. -/
theorem hangsOutsideAFill : Obligations.HangsOutsideAFill := by
  unfold Obligations.HangsOutsideAFill
  refine fun h s => ⟨fun hp hl => ⟨fun hs => ?_, fun k id hw => ?_, fun hd => ?_, fun hs => ?_⟩,
    fun tag n hr hn => ⟨fun hd => ?_, fun hs => ?_⟩⟩
  · have idled := idleHose_touches h (setLifted h false s)
    have off := channelOff_touches h (idleHose h (setLifted h false s))
    have hoses : ∀ g, (channelOff h (idleHose h (setLifted h false s))).hose g =
        (idleHose h (setLifted h false s)).hose g := fun g => off.hose g
    obtain ⟨own, others⟩ := idleHose_idles h (setLifted h false s)
    obtain ⟨channel, channels⟩ := channelOff_after (s := s) h (idled .channels (by decide))
    refine ⟨_, nozzleHang_idles hp hl hs, (hoses h).trans own, fun g hg => (hoses g).trans (others g hg), channels,
      channel, ?_, ((((setLifted_touches h false s).mono (by decide)).then idled (by decide)).then off (by decide))⟩
    rw [off .inputs (by decide), idled .inputs (by decide)]
    rfl
  · exact ⟨_, nozzleHang_idles hp hl (.inr (.inl (by rw [hw]; rfl))), idleHose_ends (s := setLifted h false s) hw⟩
  · have hangs : hangHose h (setLifted h false s) = channelOff h (setLifted h false s) := by
      have hd : ((setLifted h false s).hose h).state = .draining := hd
      simp only [hangHose, hd]
    have off := channelOff_touches h (setLifted h false s)
    obtain ⟨channel, channels⟩ := channelOff_after (s := s) (t := setLifted h false s) h rfl
    exact ⟨_, (exec_nozzleHang hp hl).trans (congrArg Host.Outcome.next hangs), channels, channel,
      congrArg Inputs.lifted (off .inputs (by decide)),
      ((setLifted_touches h false s).mono (by decide)).then off (by decide)⟩
  · have hangs : hangHose h (setLifted h false s) = setLifted h false s := by
      have hs : ((setLifted h false s).hose h).state = .idle ∨ ((setLifted h false s).hose h).state = .blocked := hs
      obtain hs | hs := hs <;> simp only [hangHose, hs]
    exact (exec_nozzleHang hp hl).trans (congrArg Host.Outcome.next hangs)
  · exact congrArg Host.Outcome.next (countRequest_ok hr (ownStop_draining (s := heard s) hn hd))
  · exact congrArg Host.Outcome.next (countRequest_error hr (ownStop_state (s := heard s) hn hs))

end Sys2Proof.Machine
end

section
/-! PROOF. The end of a drain closes the fill (R41, R45, R52, R90, R92 to R95, R111, R115, R117, R150). -/

namespace Sys2Proof.Machine

variable {s t u v : State} {g h : Hose} {c e : Comp} {k j : Nat} {tx : Transaction} {w : Update} {ps : List Part}
  {cause : StopCause} {r : Reason}

/-- What the close of a fill of hose `h` on entry `k` is formed of stands from `s` to `u`, but for the inhibit of its
compartment and its LEAK alarm, which the cap of the drain sets first (R90). -/
structure CloseKept (h : Hose) (k : Nat) (s u : State) : Prop where
  only : OnlyIn (.alarms :: .comps :: strikeParts) s u
  armed : (u.unit (compOf h)).armed = (s.unit (compOf h)).armed
  alarms : OtherAlarms [.leak h] s u
  comp : ∃ i, u.comp (compOf h) = { s.comp (compOf h) with inhibit := i }
  others : OtherComp (compOf h) s u
  machine : u.machine k = s.machine k
  pending : pendingUpdate u k = pendingUpdate s k

/-! ## The armed flag of the low-stock watch (R117) -/

theorem setRun_armed (c e : Comp) (x : Run) (s : State) : ((setRun c x s).unit e).armed = (s.unit e).armed := by
  by_cases he : e = c
  · subst he
    rw [setRun, State.unit_putUnit]
  · rw [setRun, State.unit_putUnit_ne _ _ he]

theorem evalRest_armed (c e : Comp) (s : State) : ((evalRest c s).unit e).armed = (s.unit e).armed := by
  unfold evalRest
  split
  · rfl
  · split
    · exact setRun_armed c e _ s
    · rfl
  · split
    · rfl
    · exact setRun_armed c e _ s

theorem settle_armed (c e : Comp) (s : State) : ((settle c s).unit e).armed = (s.unit e).armed :=
  (evalRest_armed c e _).trans (congrArg CompUnit.armed ((evalPump_touches c s).unit e))

theorem stopFill_armed (h : Hose) (cause : StopCause) (e : Comp) (s : State) :
    ((stopFill h cause s).unit e).armed = (s.unit e).armed := by
  unfold stopFill
  split
  · exact settle_armed _ e _
  · exact settle_armed _ e _
  all_goals rfl

theorem inhibit_armed (c e : Comp) (k : InhibitCause) (s : State) :
    ((inhibit c k s).unit e).armed = (s.unit e).armed := by
  by_cases hn : (s.comp c).inhibit = none
  · rw [inhibit_normal hn, evalRest_armed]
    refine strikeAll_keeps (P := fun t => (t.unit e).armed = (s.unit e).armed) (fun h t ht => ?_) _
      (congrArg CompUnit.armed ((markInhibited_touches c k s).unit e))
    obtain ⟨-, he⟩ | he | he := strike_cases .inhibit .inhibited h t <;> rw [he]
    · rw [stopFill_armed]; exact ht
    · rw [(refuseHose_touches _ _ _).unit]; exact ht
    · exact ht
  · rw [inhibit_again hn]

/-! ## An entry that is held through the end of other holds (R45) -/

theorem pendingUpdate_congr (hq : t.store.queue = s.store.queue) (k : Nat) : pendingUpdate t k = pendingUpdate s k := by
  rw [pendingUpdate, hq, pendingUpdate]

theorem OnlyIn.pendingUpdate (o : OnlyIn ps s t) (k : Nat) (hp : .queue ∉ ps := by decide) :
    Machine.pendingUpdate t k = Machine.pendingUpdate s k := pendingUpdate_congr (o .queue hp) k

theorem pendingUpdate_applyUpdate_ne (w : Update) (s : State) (hk : k ≠ w.entry) :
    pendingUpdate (applyUpdate w s) k = pendingUpdate s k := by
  rw [pendingUpdate, applyUpdate_queue, List.find?_filter, pendingUpdate]
  congr 1
  funext x
  by_cases hx : x.entry = k
  · simp [hx, hk]
  · simp [hx]

theorem pendingUpdate_applyUpdate_self (w : Update) (s : State) :
    pendingUpdate (applyUpdate w s) w.entry = none := by
  rw [pendingUpdate, applyUpdate_queue]
  exact List.find?_eq_none.mpr fun x hx => by simpa using (List.mem_filter.mp hx).2

/-- R45: the end of a hold leaves an entry that is held and its update. -/
theorem endHold_of_held (hk : held s k = true) (j : Nat) :
    (endHold j s).machine k = s.machine k ∧ pendingUpdate (endHold j s) k = pendingUpdate s k := by
  obtain ⟨he, -⟩ | ⟨w, hj, hw, he⟩ := endHold_cases j s
  · rw [he]
    exact ⟨rfl, rfl⟩
  · have other : k ≠ w.entry := by
      rintro rfl
      rw [entry_of_pendingUpdate hw, hj] at hk
      cases hk
    rw [he]
    exact ⟨applyUpdate_machine_ne w s other, pendingUpdate_applyUpdate_ne w s other⟩

theorem held_of_draining (hd : (s.hose h).state = .draining) (ht : s.tx h = some tx) : held s tx.machine = true :=
  (held_iff s _).mpr ⟨h, by simp only [holding, hd, ht, Option.map_some]⟩

/-- R45, R59: a condition that reaches another hose leaves the entry of a draining hose and its update. -/
theorem strike_of_drainingEntry (hd : (s.hose h).state = .draining) (ht : s.tx h = some tx) (hg : g ≠ h) :
    (strike cause r g s).machine tx.machine = s.machine tx.machine ∧
      pendingUpdate (strike cause r g s) tx.machine = pendingUpdate s tx.machine := by
  obtain ⟨-, he⟩ | he | he := strike_cases cause r g s <;> rw [he]
  · exact ⟨(stopFill_touches _ _ _).machine _, (stopFill_touches _ _ _).pendingUpdate _⟩
  · have moved := moveHose_touches g (.refused r) s
    have same : (moveHose g (.refused r) s).hose h = s.hose h := State.hose_putHose_ne _ _ hg.symm
    have held' : held (moveHose g (.refused r) s) tx.machine = true :=
      held_of_draining (h := h) (by rw [same]; exact hd) (by rw [moved.tx]; exact ht)
    rw [refuseHose, ← moved.machine, ← moved.pendingUpdate]
    cases (s.hose g).state with
    | awaiting j => exact endHold_of_held held' j
    | _ => exact ⟨rfl, rfl⟩
  · exact ⟨rfl, rfl⟩

/-- R45, R111: the inhibit of a compartment leaves the entry of a draining hose and its update. -/
theorem inhibit_of_drainingEntry (hd : (s.hose h).state = .draining) (ht : s.tx h = some tx) (c : Comp)
    (k : InhibitCause) : (inhibit c k s).machine tx.machine = s.machine tx.machine ∧
      pendingUpdate (inhibit c k s) tx.machine = pendingUpdate s tx.machine := by
  by_cases hn : (s.comp c).inhibit = none
  · have marked := markInhibited_touches c k s
    have rest := evalRest_touches c (strikeAll .inhibit .inhibited (hosesOf c) (markInhibited c k s))
    rw [inhibit_normal hn, rest.machine, rest.pendingUpdate]
    refine (strikeAll_keeps (P := fun t => ((t.hose h).state = .draining ∧ t.tx h = some tx) ∧
      t.machine tx.machine = s.machine tx.machine ∧ pendingUpdate t tx.machine = pendingUpdate s tx.machine)
      (fun g t ⟨⟨hd, ht⟩, hm, hq⟩ => ?_) _ ⟨⟨?_, ?_⟩, marked.machine _, marked.pendingUpdate _⟩).2
    · by_cases hg : g = h
      · subst hg
        rw [strike_of_else (.inl hd)]
        exact ⟨⟨hd, ht⟩, hm, hq⟩
      · obtain ⟨hm', hq'⟩ := strike_of_drainingEntry (cause := .inhibit) (r := .inhibited) hd ht hg
        have hh : h ≠ g := fun e => hg e.symm
        exact ⟨⟨by rw [strike_hose_ne t hh]; exact hd, by rw [strike_tx_ne t hh]; exact ht⟩, hm'.trans hm,
          hq'.trans hq⟩
    · rw [marked.hose]; exact hd
    · rw [marked.tx]; exact ht
  · rw [inhibit_again hn]
    exact ⟨rfl, rfl⟩

/-! ## The close of a fill (R92) -/

/-- R92: the parts that change once a fill is charged take nothing from what it booked. -/
theorem FillBooked.of_end (b : FillBooked h tx s v)
    (ho : OnlyIn [.hoses, .machines, .queue, .meters, .pumps, .units] v t)
    (ha : (t.unit (compOf h)).armed = (v.unit (compOf h)).armed) : FillBooked h tx s t := by
  obtain ⟨gone, ⟨r, log, record⟩, ⟨comp, others⟩, shift, ⟨account, accounts⟩, logWatched, stockWatched, stockKept⟩ := b
  refine ⟨(ho.tx h).trans gone, ⟨r, (ho .log (by decide)).trans log, record⟩,
    ⟨by rw [ho.comp]; exact comp, fun e he => (ho.comp e).trans (others e he)⟩, (ho .shift (by decide)).trans shift,
    ⟨(ho.account _).trans account, fun j hj => (ho.account j).trans (accounts j hj)⟩,
    logWatched.congr rfl rfl rfl (congrArg LogWatch.armed (ho .logWatch (by decide))) (ho .log (by decide)) (ho.row _),
    fun hn => (stockWatched hn).congr rfl rfl rfl ha (congrArg Compartment.book (ho.comp _))
      (congrArg Compartment.lowStock (ho.comp _)) (ho.row _), fun hn => ?_⟩
  obtain ⟨kept, row⟩ := stockKept hn
  exact ⟨ha.trans kept, (ho.row _).trans row⟩

/-- R92 steps 8 and 10: after the hose is at rest the hold on the entry ends, the meter stops and the pump and the
gauging are evaluated. -/
theorem closeFill_rest (ht : s.tx h = some tx) :
    OnlyIn [.machines, .queue, .meters, .pumps, .units] (closedFill h tx s) (closeFill h s) := by
  rw [closeFill_eq ht]
  exact (((endHold_touches _ _).mono (by decide)).then (stopInterval_touches _ _) (by decide)).then
    (settle_touches _ _) (by decide)

theorem closeFill_armed (ht : s.tx h = some tx) :
    ((closeFill h s).unit (compOf h)).armed = ((settledFill h tx s).unit (compOf h)).armed := by
  rw [closeFill_eq ht, settle_armed, (stopInterval_touches _ _).unit, (endHold_touches _ _).unit]
  rfl

/-- R92, R93: what the close of a fill books. -/
theorem closeFill_booked (ht : s.tx h = some tx) : FillBooked h tx s (closeFill h s) :=
  (chargeFill_booked h tx s).of_end
    (((only_setHoses _ (settledFill h tx s)).mono (by decide)).trans ((closeFill_rest ht).mono (by decide)))
    (closeFill_armed ht)

/-- R45, R92 step 8: the entries and the queue at a close are those at the end of the hold. -/
theorem closeFill_registry (ht : s.tx h = some tx) :
    (∀ j, (closeFill h s).machine j = (endHold tx.machine (closedFill h tx s)).machine j) ∧
      (closeFill h s).store.queue = (endHold tx.machine (closedFill h tx s)).store.queue := by
  have after : OnlyIn [.meters, .pumps, .units] (endHold tx.machine (closedFill h tx s)) (closeFill h s) := by
    rw [closeFill_eq ht]
    exact ((stopInterval_touches _ _).mono (by decide)).then (settle_touches _ _) (by decide)
  exact ⟨fun j => after.machine j, after .queue (by decide)⟩

theorem closeFill_held (ht : s.tx h = some tx) (k : Nat) : held (closeFill h s) k = held (closedFill h tx s) k :=
  (closeFill_rest ht).held k

theorem closedFill_machine (h : Hose) (tx : Transaction) (s : State) (j : Nat) : (closedFill h tx s).machine j =
    if j = tx.machine then (s.machine j).map (chargedEntry h tx s) else s.machine j :=
  settledFill_machine h tx s j

theorem closedFill_queue (h : Hose) (tx : Transaction) (s : State) : (closedFill h tx s).store.queue = s.store.queue :=
  closedFill_touches h tx s .queue (by decide)

theorem closedFill_pending (h : Hose) (tx : Transaction) (s : State) (k : Nat) :
    pendingUpdate (closedFill h tx s) k = pendingUpdate s k :=
  (closedFill_touches h tx s).pendingUpdate k

/-- R41, R45, R92 step 8: the entry of a fill after its close. -/
theorem closeFill_entry (ht : s.tx h = some tx) : EntryCharged h tx s (closeFill h s) := by
  obtain ⟨machines, queue⟩ := closeFill_registry ht
  have pending : pendingUpdate (closeFill h s) tx.machine =
      pendingUpdate (endHold tx.machine (closedFill h tx s)) tx.machine := pendingUpdate_congr queue _
  have charged : (closedFill h tx s).machine tx.machine = (s.machine tx.machine).map (chargedEntry h tx s) :=
    (closedFill_machine h tx s _).trans (if_pos rfl)
  have waiting := closedFill_pending h tx s tx.machine
  rw [EntryCharged, machines, pending, closeFill_held ht, ← waiting]
  obtain ⟨he, hc⟩ | ⟨w, hh, hw, he⟩ := endHold_cases tx.machine (closedFill h tx s)
  · rw [he]
    refine ⟨fun _ => ⟨charged, rfl⟩, fun w hw hh => ?_⟩
    obtain hc | hc := hc
    · rw [hh] at hc; cases hc
    · rw [hw] at hc; cases hc
  · have entry := entry_of_pendingUpdate hw
    rw [he]
    refine ⟨fun hc => ?_, fun x hx _ => ?_⟩
    · obtain hc | hc := hc
      · rw [hw] at hc; cases hc
      · rw [hh] at hc; cases hc
    · rw [hw] at hx
      cases hx
      rw [← entry] at charged ⊢
      refine ⟨pendingUpdate_applyUpdate_self w _, applyUpdate_delete _, fun f m hf hm => ?_⟩
      rw [hm] at charged
      exact applyUpdate_write _ hf charged

/-- R45, R92 step 8: a close leaves every other entry, and of the queue no more than the update of its entry goes. -/
theorem closeFill_others (ht : s.tx h = some tx) :
    (∀ j, j ≠ tx.machine → (closeFill h s).machine j = s.machine j) ∧
      (closeFill h s).store.queue = (if held (closeFill h s) tx.machine then s.store.queue
        else s.store.queue.filter fun u => decide (u.entry ≠ tx.machine)) := by
  obtain ⟨machines, queue⟩ := closeFill_registry ht
  have stands (j : Nat) (hj : j ≠ tx.machine) : (closedFill h tx s).machine j = s.machine j :=
    (closedFill_machine h tx s j).trans (if_neg hj)
  rw [queue, closeFill_held ht]
  obtain ⟨he, hc⟩ | ⟨w, hh, hw, he⟩ := endHold_cases tx.machine (closedFill h tx s)
  · refine ⟨fun j hj => by rw [machines, he]; exact stands j hj, ?_⟩
    rw [he, closedFill_queue]
    split
    · rfl
    · rename_i hh
      have none := hc.resolve_left hh
      rw [closedFill_pending] at none
      exact (List.filter_eq_self.mpr fun x hx => by simpa using List.find?_eq_none.mp none x hx).symm
  · have entry := entry_of_pendingUpdate hw
    refine ⟨fun j hj => ?_, ?_⟩
    · rw [machines, he, applyUpdate_machine_ne w _ (by rw [entry]; exact hj)]
      exact stands j hj
    · rw [he, applyUpdate_queue, closedFill_queue, entry, hh]
      rfl

/-- R92 step 9, R94: every hose after a close. -/
theorem closeFill_hose (ht : s.tx h = some tx) : (closeFill h s).hose h =
    { HoseCtl.atRest (if s.inputs.lifted.get h then .finished else .idle) with
      completion := some (completionOf tx s.store.log.nextSeq) } ∧ OtherHoses h s (closeFill h s) := by
  have hoses := (closeFill_rest ht).hose
  refine ⟨?_, fun g hg => (hoses g).trans (closedFill_hose_ne tx s hg)⟩
  have inputs : (settledFill h tx s).inputs = s.inputs := chargeFill_touches h tx s .inputs (by decide)
  rw [hoses, closedFill, State.hose_putHose, closedState, inputs]

theorem closeFill_tx_ne (ht : s.tx h = some tx) (hg : g ≠ h) : (closeFill h s).tx g = s.tx g :=
  ((closeFill_rest ht).tx g).trans (settledFill_tx_ne tx s hg)

theorem closeFill_meter (ht : s.tx h = some tx) : ((closeFill h s).meter (meterOf h)).acc = 0 ∧
    ((closeFill h s).meter (meterOf h)).interval = .stopped := by
  rw [closeFill_eq ht, (settle_touches _ _).meter, stopInterval, State.meter_putMeter]
  exact ⟨rfl, rfl⟩

/-- R41, R45, R92 to R95: the close of a fill. -/
theorem closeFill_charged (ht : s.tx h = some tx) : FillCharged h tx s (closeFill h s) := by
  obtain ⟨own, -⟩ := closeFill_hose ht
  refine ⟨closeFill_booked ht, ?_, closeFill_entry ht, closeFill_meter ht⟩
  rw [own]
  exact ⟨rfl, rfl, rfl, rfl, rfl, rfl⟩

theorem closeFill_otherAlarms (ht : s.tx h = some tx) :
    OtherAlarms [.lowStock (compOf h), .logNearFull] s (closeFill h s) :=
  (chargeFill_otherAlarms h tx s).trans
    ((((only_setTxs _ _).mono (by decide)).then (only_setHoses _ _) (by decide)).trans
      (((closeFill_rest ht).mono (by decide)) : OnlyIn [.txs, .hoses, .machines, .queue, .meters, .pumps, .units] _ _)
      ).otherAlarms

/-- R92: the close of a fill, with nothing else changed. -/
theorem closeFill_closed (ht : s.tx h = some tx) : FillClosed h tx s (closeFill h s) :=
  ⟨closeFill_charged ht, closeFill_otherAlarms ht, fun _ hg => closeFill_tx_ne ht hg, (closeFill_hose ht).2,
    closeFill_others ht⟩

theorem closeFill_inhibit (ht : s.tx h = some tx) (c : Comp) :
    ((closeFill h s).comp c).inhibit = (s.comp c).inhibit := by
  have comp : (closeFill h s).comp c = (settledFill h tx s).comp c := (closeFill_rest ht).comp c
  rw [comp]
  by_cases hc : c = compOf h
  · subst hc
    exact (settledFill_comp h tx s).2.2
  · rw [settledFill_comp_ne h tx s c hc]

end Sys2Proof.Machine
end

section
/-! PROOF. The drain of a fill that its cap cuts short (R90, R111), and O36. -/

namespace Sys2Proof.Machine

variable {s t u : State} {g h : Hose} {c : Comp} {n k : Nat} {tx : Transaction}

/-! ## What a close is formed of (R90) -/

theorem CloseKept.fillBooked (a : CloseKept h tx.machine s u) (b : FillBooked h tx u t) : FillBooked h tx s t := by
  obtain ⟨only, armed, alarms, ⟨i, hi⟩, compOthers, machine, -⟩ := a
  obtain ⟨gone, ⟨r, log, record⟩, ⟨comp, others⟩, shift, ⟨account, accounts⟩, logWatched, stockWatched, stockKept⟩ := b
  have clock : u.clock = s.clock := only .clock (by decide)
  have logRow : tableFind s.alarms Alarm.logNearFull.row = tableFind u.alarms Alarm.logNearFull.row :=
    (alarms _ (by cases h <;> decide)).symm
  have stockRow : tableFind s.alarms (Alarm.lowStock (compOf h)).row =
      tableFind u.alarms (Alarm.lowStock (compOf h)).row := (alarms _ (by cases h <;> decide)).symm
  rw [only .log (by decide), only .shift (by decide)] at log
  rw [fleetOf, machine, only.account, clock] at record
  rw [hi] at comp
  rw [only .shift (by decide)] at shift
  rw [only.account] at account
  refine ⟨gone, ⟨r, log, record⟩, ⟨comp, fun e he => (others e he).trans (compOthers e he)⟩, shift,
    ⟨account, fun j hj => (accounts j hj).trans (only.account j)⟩,
    logWatched.congr (congrArg LogWatch.armed (only .logWatch (by decide)).symm) clock.symm logRow rfl rfl rfl,
    fun hn => (stockWatched hn).congr armed.symm clock.symm stockRow rfl rfl rfl rfl, fun hn => ?_⟩
  obtain ⟨kept, row⟩ := stockKept hn
  exact ⟨kept.trans armed, row.trans stockRow.symm⟩

theorem CloseKept.entryCharged (a : CloseKept h tx.machine s u) (b : EntryCharged h tx u t) :
    EntryCharged h tx s t := by
  have charged : chargedEntry h tx u = chargedEntry h tx s := by
    funext m
    rw [chargedEntry, a.only .log (by decide), a.only .clock (by decide), chargedEntry]
  rwa [EntryCharged, a.pending, a.machine, charged] at b

theorem CloseKept.fillCharged (a : CloseKept h tx.machine s u) (b : FillCharged h tx u t) : FillCharged h tx s t := by
  obtain ⟨booked, notice, entry, meter⟩ := b
  rw [a.only .inputs (by decide), a.only .log (by decide)] at notice
  exact ⟨a.fillBooked booked, notice, a.entryCharged entry, meter⟩

/-! ## The cap of the drain (R90, R111) -/

theorem cutNoted_tx (ht : s.tx h = some tx) : (cutNoted h s).tx h = some { tx with drainCut := true } := by
  have put : (cutNoted h s).tx h = (s.tx h).map fun tx => { tx with drainCut := true } := State.tx_putTx _ _
  rw [put, ht]
  rfl

theorem cutNoted_tx_ne (s : State) (hg : g ≠ h) : (cutNoted h s).tx g = s.tx g := State.tx_putTx_ne _ _ hg

theorem cutDrain_tx (hd : (s.hose h).state = .draining) (ht : s.tx h = some tx) :
    (cutDrain h s).tx h = some { tx with drainCut := true } :=
  ((inhibit_draining (s := cutNoted h s) hd _ _).2).trans (cutNoted_tx ht)

theorem cutDrain_touches (h : Hose) (s : State) : OnlyIn (.alarms :: .comps :: strikeParts) s (cutDrain h s) :=
  ((cutNoted_touches h s).mono (by decide)).then (inhibit_touches _ _ _) (by decide)

/-- R90, R111: the inhibit raises no alarm. -/
theorem cutDrain_row (h : Hose) (s : State) (k : Nat) :
    tableFind (cutDrain h s).alarms k = tableFind (raiseAlarm (.leak h) s).alarms k :=
  (inhibit_touches _ _ (cutNoted h s)).row k

theorem cutDrain_alarms (h : Hose) (s : State) : OtherAlarms [.leak h] s (cutDrain h s) :=
  fun k hk => (cutDrain_row h s k).trans (raiseAlarm_otherAlarms (.leak h) s k hk)

theorem cutDrain_comps (hn : (s.comp (compOf h)).inhibit = none) : (cutDrain h s).comp (compOf h) =
    { s.comp (compOf h) with inhibit := some ⟨.drainCut (meterOf h), s.clock⟩ } := by
  rw [cutDrain_eq, State.comp, inhibit_comps (s := cutNoted h s) hn]
  exact PerComp.get_set_self _ _ _

theorem cutDrain_again (hi : (s.comp (compOf h)).inhibit ≠ none) : cutDrain h s = cutNoted h s :=
  inhibit_again (s := cutNoted h s) hi _

theorem cutDrain_closeKept (hd : (s.hose h).state = .draining) (ht : s.tx h = some tx) :
    CloseKept h tx.machine s (cutDrain h s) := by
  obtain ⟨machine, pending⟩ := inhibit_of_drainingEntry (s := cutNoted h s) hd (cutNoted_tx ht) (compOf h)
    (.drainCut (meterOf h))
  refine ⟨cutDrain_touches h s, inhibit_armed _ _ _ (cutNoted h s), cutDrain_alarms h s, ?_,
    inhibit_otherComp _ _ (cutNoted h s), machine, pending⟩
  by_cases hn : (s.comp (compOf h)).inhibit = none
  · exact ⟨_, cutDrain_comps hn⟩
  · exact ⟨(s.comp (compOf h)).inhibit, by rw [cutDrain_again hn]; rfl⟩

/-- R90, R111: what the cap does to the other hoses of a compartment that it inhibits. -/
theorem cutDrain_strikes (hn : (s.comp (compOf h)).inhibit = none) (hg : g ≠ h) (hc : compOf g = compOf h) :
    ((s.hose g).state = .flowing ∨ (s.hose g).state = .paused → ((cutDrain h s).hose g).state = .draining ∧
      ((cutDrain h s).tx g).map Transaction.cause = (s.tx g).map fun x => some (x.cause.getD .inhibit)) ∧
    ((s.hose g).state = .identifying ∨ (s.hose g).state.isAwaiting = true →
      ((cutDrain h s).hose g).state = .refused .inhibited) := by
  refine ⟨fun hs => ?_, fun hw => (inhibit_refuses (s := cutNoted h s) hn _ hc hw).1⟩
  obtain ⟨drains, stopped⟩ := inhibit_stops (s := cutNoted h s) hn (.drainCut (meterOf h)) hc hs
  refine ⟨drains, ?_⟩
  rw [cutDrain_eq, stopped, cutNoted_tx_ne s hg, Option.map_map]
  rfl

/-! ## The end of a drain -/

theorem exec_hoseDrainQuietExpiry (hp : s.power = .on) (hd : (s.hose h).state = .draining)
    (hq : (s.hose h).quiet = .running n) : exec (.hoseDrainQuietExpiry h) s = .next (closeFill h s) :=
  congrArg Host.Outcome.next (if_pos (by simp [live_of_on hp, draining, hd, hq, Timer.isRunning]))

theorem exec_hoseDrainCapExpiry (hp : s.power = .on) (hd : (s.hose h).state = .draining)
    (hc : (s.hose h).cap = .running n) : exec (.hoseDrainCapExpiry h) s = .next (closeFill h (cutDrain h s)) :=
  congrArg Host.Outcome.next (if_pos (by simp [live_of_on hp, draining, hd, hc, Timer.isRunning]))

/-- Settles O36: either timer ends in `closeFill`, which `closeFill_closed` describes; the cap takes it from the state
that `cutDrain` leaves, and `cutDrain_closeKept` carries the close back over that. -/
theorem drainsCloseTheFill : Obligations.DrainsCloseTheFill := by
  unfold Obligations.DrainsCloseTheFill
  intro h tx s hp ht hd
  refine ⟨fun ⟨n, hq⟩ => ⟨_, exec_hoseDrainQuietExpiry hp hd hq, closeFill_closed ht, closeFill_inhibit ht _,
    (closeFill_touches h s).mono (by decide)⟩, fun ⟨n, hc⟩ => ?_⟩
  have cut := cutDrain_tx hd ht
  obtain ⟨charged, rows, txs, hoses, -, -⟩ := closeFill_closed cut
  have inhibit := closeFill_inhibit cut (compOf h)
  refine ⟨_, exec_hoseDrainCapExpiry hp hd hc,
    CloseKept.fillCharged (tx := { tx with drainCut := true }) (cutDrain_closeKept (tx := tx) hd ht) charged, ?_,
    ((cutDrain_alarms h s).mono (by simp)).trans (rows.mono (by simp)), fun hn => ⟨?_, fun g hg hgc => ?_⟩,
    fun hi => ⟨?_, fun g hg => ?_⟩, fun g hgc => ?_,
    ((cutDrain_touches h s).mono (by decide)).then (closeFill_touches h _) (by decide)⟩
  · exact (rows _ (by cases h <;> decide)).trans (cutDrain_row h s _)
  · rw [inhibit, cutDrain_comps hn]
  · rw [hoses g hg, txs g hg]
    exact cutDrain_strikes hn hg hgc
  · rw [inhibit, cutDrain_again hi]
    rfl
  · rw [hoses g hg, cutDrain_again hi]
    rfl
  · have hg : g ≠ h := fun e => hgc (congrArg compOf e)
    obtain ⟨same, sameTx⟩ := inhibit_hose_ne (.drainCut (meterOf h)) (cutNoted h s) hgc
    exact ⟨(hoses g hg).trans same, (txs g hg).trans (sameTx.trans (cutNoted_tx_ne s hg))⟩

end Sys2Proof.Machine
end

section
/-! PROOF. The state at reset: START UP leaves it, and it meets every law (R37, R43, R52, R114, R133, R164, R196). -/

namespace Sys2Proof.Machine

/-! ## The hoses, the contexts and the compartments at reset -/

theorem reset_hose (h : Hose) : State.reset.hose h = .atRest .idle := by
  cases h <;> rfl

theorem reset_tx (h : Hose) : State.reset.tx h = none := by
  cases h <;> rfl

theorem reset_holding (h : Hose) : holding State.reset h = none := by
  rw [holding_eq, reset_hose]
  rfl

theorem reset_pump (c : Comp) : State.reset.pump c = .off := by
  cases c <;> rfl

/-- R114: the books and what they are formed of are 0, and nothing is reserved. -/
theorem reset_book (c : Comp) : (State.reset.comp c).book = 0 ∧ (State.reset.comp c).opening = 0 ∧
    (State.reset.comp c).delivered = 0 ∧ (State.reset.comp c).dispensed = 0 ∧
    (State.reset.comp c).adjustments = 0 ∧ (State.reset.comp c).reservations = 0 := by
  cases c <;> exact ⟨rfl, rfl, rfl, rfl, rfl, rfl⟩

/-! ## START UP at reset (R101, R117, R173) -/

/-- R164, R173: the shipped calibration set has its check value, whatever the check function is. -/
theorem reset_checkMatches : checkMatches (staled (closedFrom ⟨0, true⟩ State.reset)) = true := decide_eq_true rfl

/-- R173: the integrity check finds nothing at reset. -/
theorem reset_integrityCheck : integrityCheck (staled (closedFrom ⟨0, true⟩ State.reset)) =
    staled (closedFrom ⟨0, true⟩ State.reset) :=
  if_pos (by rw [reset_checkMatches, Bool.or_true])

/-- R117: start-up clears the armed flags and raises the two alarms that the reset state has. -/
theorem reset_startUp : exec .startUp State.reset = .next State.reset := by
  have started : startUpAt ⟨0, true⟩ State.reset =
      takeInputs (watchStocks (staled (closedFrom ⟨0, true⟩ State.reset))) := by
    rw [startUpAt_eq, Machine.started, reset_integrityCheck]
  exact congrArg Host.Outcome.next (started.trans rfl)

/-! ## The laws -/

theorem reset_bookLaw : BookLaw State.reset := by
  intro c
  obtain ⟨book, opening, delivered, dispensed, adjustments, -⟩ := reset_book c
  rw [book, opening, delivered, dispensed, adjustments]
  rfl

theorem reset_stockLaw : StockLaw State.reset := by
  intro c _
  obtain ⟨book, -, -, -, -, reservations⟩ := reset_book c
  rw [book, reservations]
  rfl

theorem reset_entryLaw : EntryReservationLaw State.reset := fun k p =>
  (reservedOver_of_no_tx reset_tx Transaction.machine k p).symm

theorem reset_accountLaw : AccountReservationLaw State.reset := fun k p =>
  (reservedOver_of_no_tx reset_tx Transaction.account k p).symm

theorem reset_contextLaw : ContextLaw State.reset := by
  intro _ h
  rw [reset_tx, reset_hose]
  rfl

theorem reset_valveLaw : ValveLaw State.reset := by
  intro h hv
  rw [reset_hose] at hv
  exact absurd rfl hv

theorem reset_pumpLaw : PumpLaw State.reset := by
  intro _ c hr
  rw [reset_pump] at hr
  cases hr

theorem reset_tagLaw : TagLaw State.reset := by
  rintro j k id (⟨m, hm, -⟩ | ⟨u, hu, -⟩) -
  · cases hm
  · cases hu

theorem reset_sequenceLaw : SequenceLaw State.reset := ⟨.nil, fun _ hr => absurd hr List.not_mem_nil⟩

theorem reset_queueLaw : QueueLaw State.reset := ⟨.nil, fun _ _ hu => absurd hu List.not_mem_nil, Nat.zero_le 16⟩

theorem reset_namingLaw : NamingLaw State.reset := ⟨fun _ _ hm => (by cases hm), fun _ hu => absurd hu List.not_mem_nil⟩

theorem reset_overrunLaw : OverrunLaw State.reset := by
  intro h tx ht
  rw [reset_tx] at ht
  cases ht

/-- Settles O9: the laws over the entries, the accounts, the queue, the log and the delivery hold of an empty store, and
those over the hoses and the compartments of hoses at rest and books of 0. -/
theorem resetMeetsTheLaws : Obligations.ResetMeetsTheLaws := by
  unfold Obligations.ResetMeetsTheLaws
  have inlet : InletLaw State.reset := fun ho => by cases ho
  have delivery : DeliveryLaw State.reset := fun _ _ hd => by cases hd
  have capacity : CapacityLaw State.reset := ⟨rfl, Nat.zero_le 1024⟩
  have window : WindowLaw State.reset := fun _ ho => by cases ho
  exact ⟨rfl, rfl, reset_startUp, reset_bookLaw, reset_valveLaw, inlet, reset_pumpLaw, holdLaw_of_none reset_holding,
    delivery, reset_sequenceLaw, reset_contextLaw, capacity, ⟨rfl, rfl⟩, reset_entryLaw, reset_accountLaw,
    reset_namingLaw, reset_overrunLaw, reset_stockLaw, reset_tagLaw, reset_queueLaw, window, rfl⟩

end Sys2Proof.Machine
end

section
/-! PROOF. The grant (R58, R71 to R76): the order of the site conditions, the limit, the first check that refuses, and
the fill that a grant opens. -/

namespace Sys2Proof.Machine

variable {s : State} {h : Hose} {c : Comp} {m : MachineEntry} {g : GrantRequest} {r : Reason}

/-! ## The site conditions (R58) -/

theorem siteCondition_emergency (he : s.inputs.emergency = true) : siteCondition h s = some .emergency := by
  simp only [siteCondition, he, if_true]

/-- R58: without an emergency stop, the order of the other conditions. -/
theorem siteCondition_metrology (he : s.inputs.emergency = false) (hf : s.guard.fault = true) :
    siteCondition h s = some .metrology := by
  simp only [siteCondition, he, hf, Bool.false_eq_true, if_false, if_true]

theorem siteCondition_delivery (he : s.inputs.emergency = false) (hf : s.guard.fault = false)
    (hd : s.store.delivery.map Delivery.comp = some (compOf h)) : siteCondition h s = some .deliveryOpen := by
  simp only [siteCondition, he, hf, hd, Bool.false_eq_true, if_false, if_true]

theorem siteCondition_inhibited (he : s.inputs.emergency = false) (hf : s.guard.fault = false)
    (hd : s.store.delivery.map Delivery.comp ≠ some (compOf h)) (hi : (s.comp (compOf h)).inhibit ≠ none) :
    siteCondition h s = some .inhibited := by
  simp only [siteCondition, he, hf, hd, Option.isSome_iff_ne_none.mpr hi, Bool.false_eq_true, if_false, if_true]

theorem siteCondition_resting (he : s.inputs.emergency = false) (hf : s.guard.fault = false)
    (hd : s.store.delivery.map Delivery.comp ≠ some (compOf h)) (hi : (s.comp (compOf h)).inhibit = none) {n : Nat}
    (hp : s.pump (compOf h) = .resting n) : siteCondition h s = some .pumpResting := by
  simp only [siteCondition, he, hf, hd, hi, hp, Option.isSome_none, Bool.false_eq_true, if_false]

theorem siteCondition_clear (he : s.inputs.emergency = false) (hf : s.guard.fault = false)
    (hd : s.store.delivery.map Delivery.comp ≠ some (compOf h)) (hi : (s.comp (compOf h)).inhibit = none)
    (hp : ∀ n, s.pump (compOf h) ≠ .resting n) : siteCondition h s = none := by
  cases hq : s.pump (compOf h) with
  | resting n => exact absurd hq (hp n)
  | off | running =>
    simp only [siteCondition, he, hf, hd, hi, hq, Option.isSome_none, Bool.false_eq_true, if_false]

/-- R58: what a hose without a site condition has to draw on (R103). -/
theorem siteCondition_none (hn : siteCondition h s = none) : s.inputs.emergency = false ∧
    (s.comp (compOf h)).inhibit = none ∧ ∀ n, s.pump (compOf h) ≠ .resting n := by
  cases he : s.inputs.emergency with
  | true => rw [siteCondition_emergency he] at hn; cases hn
  | false =>
    cases hf : s.guard.fault with
    | true => rw [siteCondition_metrology he hf] at hn; cases hn
    | false =>
      by_cases hd : s.store.delivery.map Delivery.comp = some (compOf h)
      · rw [siteCondition_delivery he hf hd] at hn; cases hn
      · by_cases hi : (s.comp (compOf h)).inhibit = none
        · refine ⟨rfl, hi, fun n hp => ?_⟩
          rw [siteCondition_resting he hf hd hi hp] at hn
          cases hn
        · rw [siteCondition_inhibited he hf hd hi] at hn; cases hn

/-! ## The limit (R72, R73) -/

/-- 00_scope.md, "Arithmetic": the least of several terms is one of them. -/
theorem leastOf_mem (x : Int) (l : List (Option Int)) : leastOf x l = x ∨ some (leastOf x l) ∈ l := by
  induction l generalizing x with
  | nil => exact .inl rfl
  | cons z l ih =>
    cases z with
    | none => exact (ih x).imp_right (List.mem_cons_of_mem _)
    | some z =>
      change leastOf (min x z) l = x ∨ some (leastOf (min x z) l) ∈ some z :: l
      obtain he | he := ih (min x z)
      · rw [he]
        obtain hm | hm := min_choice x z
        · exact .inl hm
        · rw [hm]
          exact .inr (.head _)
      · exact .inr (.tail _ he)

/-- R72: the headrooms of a grant on the stock, on the account's budget and on the entry's allowance. -/
def headrooms (g : GrantRequest) (m : MachineEntry) (s : State) : List (Option Int) :=
  [some (available (s.comp (compOf g.hose))), accountHeadroom (accountOf s m.fields.account) (productOf g.hose),
    machineHeadroom m (productOf g.hose)]

/-- R73: the terms of the limit that are not headrooms, but for the ceiling. -/
def caps (g : GrantRequest) (m : MachineEntry) (s : State) : List (Option Int) :=
  [g.preset, (m.fields.maxFill.get (productOf g.hose)).map Int.ofNat,
    if g.offline then some (s.store.site.offlineCap : Int) else none]

theorem limitOf_eq (g : GrantRequest) (m : MachineEntry) (s : State) : limitOf g m s = leastOf Config.fillCeiling
    (caps g m s ++ [some (leastOf (available (s.comp (compOf g.hose))) (headrooms g m s) -
      ((s.config g.hose).overrunAllowance : Int))]) := by
  simp only [limitOf, caps, headrooms, leastOf, List.foldl_cons, min_self]
  rfl

/-- R72, R73: no term of the limit is below it. -/
theorem limitOf_le (g : GrantRequest) (m : MachineEntry) (s : State) : limitOf g m s ≤ 2000000 ∧
    (∀ x, some x ∈ caps g m s → limitOf g m s ≤ x) ∧
    ∀ x, some x ∈ headrooms g m s → limitOf g m s ≤ x - ((s.config g.hose).overrunAllowance : Int) := by
  rw [limitOf_eq]
  obtain ⟨ceiling, bound⟩ := leastOf_le Config.fillCeiling (caps g m s ++
    [some (leastOf (available (s.comp (compOf g.hose))) (headrooms g m s) -
      ((s.config g.hose).overrunAllowance : Int))])
  refine ⟨ceiling, fun x hx => bound x (List.mem_append_left _ hx), fun x hx => ?_⟩
  have least := (leastOf_le (available (s.comp (compOf g.hose))) (headrooms g m s)).2 x hx
  have own := bound _ (List.mem_append_right _ (List.mem_singleton_self _))
  omega

/-- R72, R73: the limit is one of its terms. -/
theorem limitOf_mem (g : GrantRequest) (m : MachineEntry) (s : State) : limitOf g m s = 2000000 ∨
    some (limitOf g m s) ∈ caps g m s ∨
    some (limitOf g m s + ((s.config g.hose).overrunAllowance : Int)) ∈ headrooms g m s := by
  obtain he | he := leastOf_mem Config.fillCeiling (caps g m s ++
    [some (leastOf (available (s.comp (compOf g.hose))) (headrooms g m s) -
      ((s.config g.hose).overrunAllowance : Int))])
  · exact .inl ((limitOf_eq g m s).trans he)
  · rw [← limitOf_eq, List.mem_append, List.mem_singleton] at he
    refine .inr (he.imp_right fun he => ?_)
    rw [Option.some.inj he, sub_add_cancel]
    obtain hl | hl := leastOf_mem (available (s.comp (compOf g.hose))) (headrooms g m s)
    · rw [hl]
      exact .head _
    · exact hl

/-! ## The checks of a grant (R71, R74) -/

theorem grantRefusal_site (hs : siteCondition g.hose s = some r) : grantRefusal g m s = some r := by
  simp only [grantRefusal, hs]

theorem grantRefusal_log (hs : siteCondition g.hose s = none) (hc : canCommit s = false) :
    grantRefusal g m s = some .logFull := by
  simp only [grantRefusal, hs, hc, Bool.false_eq_true, if_false]

/-- R71: past the site conditions and the log, the limit decides. -/
theorem grantRefusal_limit (hs : siteCondition g.hose s = none) (hc : canCommit s = true) :
    grantRefusal g m s = limitRefusal g m s := by
  simp only [grantRefusal, hs, hc, if_true]

theorem limitRefusal_enough (hl : ((s.config g.hose).minimumGrant : Int) ≤ limitOf g m s) :
    limitRefusal g m s = none :=
  if_neg (not_lt.mpr hl)

/-- R74: a limit below the minimum grant is refused for the first headroom that falls short. -/
theorem limitRefusal_below (hl : limitOf g m s < ((s.config g.hose).minimumGrant : Int)) : limitRefusal g m s =
    if short (some (available (s.comp (compOf g.hose)))) (s.config g.hose) then some .noStock
    else if short (accountHeadroom (accountOf s m.fields.account) (productOf g.hose)) (s.config g.hose) then
      some .noBudget
    else if short (machineHeadroom m (productOf g.hose)) (s.config g.hose) then some .noAllowance
    else some .belowMinimum :=
  if_pos hl

/-- R74: a headroom that is present falls short of the minimum grant and the overrun allowance together. -/
theorem short_iff (x : Option Int) (cfg : HoseConfig) : short x cfg = true ↔
    ∃ y, x = some y ∧ y < (cfg.minimumGrant : Int) + (cfg.overrunAllowance : Int) := by
  cases x with
  | none => simp [short]
  | some y => simp [short, sub_lt_iff_lt_add]

theorem short_eq_false_iff (x : Option Int) (cfg : HoseConfig) : short x cfg = false ↔
    ∀ y, x = some y → (cfg.minimumGrant : Int) + (cfg.overrunAllowance : Int) ≤ y := by
  rw [← Bool.not_eq_true, short_iff]
  simp only [not_exists, not_and, not_lt]

/-- R71, R74: what a grant that is not refused has passed. -/
theorem grantRefusal_passed (hr : grantRefusal g m s = none) : siteCondition g.hose s = none ∧
    canCommit s = true ∧ ((s.config g.hose).minimumGrant : Int) ≤ limitOf g m s := by
  cases hs : siteCondition g.hose s with
  | some r => rw [grantRefusal_site hs] at hr; cases hr
  | none =>
    cases hc : canCommit s with
    | false => rw [grantRefusal_log hs hc] at hr; cases hr
    | true =>
      refine ⟨rfl, rfl, not_lt.mp fun hl => ?_⟩
      rw [grantRefusal_limit hs hc, limitRefusal_below hl] at hr
      split_ifs at hr

theorem grant_refuses (hm : s.machine g.machine = some m) (hr : grantRefusal g m s = some r) :
    grant g s = refuseHose g.hose r s := by
  simp only [grant, hm, hr]

theorem grant_opens (hm : s.machine g.machine = some m) (hr : grantRefusal g m s = none) :
    grant g s = openFill g m s := by
  simp only [grant, hm, hr]

/-! ## What an opened fill has (R75, R76, R147) -/

/-- R147, R150: a commitment is taken, and the near-full watch evaluated. -/
theorem takeCommitment_watched (s : State) : LogWatched s (takeCommitment s) :=
  (watchLog_watched (s.setLog { s.store.log with commitments := s.store.log.commitments + 1 })).congr rfl rfl rfl
    rfl rfl rfl

theorem takeCommitment_otherAlarms (s : State) : OtherAlarms [.logNearFull] s (takeCommitment s) :=
  (OtherAlarms.refl _ s).trans (watchLog_otherAlarms (s.setLog _))

/-- What the opening of a fill does before its commitment, and what it does after. -/
theorem opened_after_commitment (h : Hose) (tx : Transaction) (s : State) : OnlyIn [.hoses, .txs, .meters]
    (takeCommitment (reserve h tx.machine tx.account tx.reservation s)) (opened h tx s) :=
  (((only_setTxs _ _).mono (by decide)).then (startInterval_touches _ _) (by decide)).then (only_setHoses _ _)
    (by decide)

theorem opened_logWatched (h : Hose) (tx : Transaction) (s : State) : LogWatched s (opened h tx s) := by
  have before := reserve_touches h tx.machine tx.account tx.reservation s
  have after := opened_after_commitment h tx s
  exact (takeCommitment_watched _).congr (congrArg LogWatch.armed (before .logWatch (by decide)).symm)
    (before .clock (by decide)).symm (before.row _).symm (congrArg LogWatch.armed (after .logWatch (by decide)))
    (after .log (by decide)) (after.row _)

theorem opened_otherAlarms (h : Hose) (tx : Transaction) (s : State) :
    OtherAlarms [.logNearFull] s (opened h tx s) :=
  ((reserve_touches h tx.machine tx.account tx.reservation s).otherAlarms.trans (takeCommitment_otherAlarms _)).trans
    (opened_after_commitment h tx s).otherAlarms

/-- The parts that the opening of a fill changes, before its stage, its pump and rest are evaluated. -/
theorem opened_only (h : Hose) (tx : Transaction) (s : State) :
    OnlyIn [.hoses, .txs, .meters, .machines, .accounts, .comps, .log, .logWatch, .alarms] s (opened h tx s) :=
  (((reserve_touches h _ _ _ s).mono (by decide)).then (takeCommitment_touches _) (by decide)).then
    (opened_after_commitment h tx s) (by decide)

theorem opened_config (h : Hose) (tx : Transaction) (s : State) (f : Hose) :
    (opened h tx s).config f = s.config f :=
  congrArg (PerHose.get · f) (opened_only h tx s .hoseConfigs (by decide))

theorem opened_hose (h : Hose) (tx : Transaction) (s : State) :
    (opened h tx s).hose h = (s.hose h).granted (s.config h) := by
  have before : OnlyIn [.machines, .accounts, .comps, .log, .logWatch, .alarms] s
      (takeCommitment (reserve h tx.machine tx.account tx.reservation s)) :=
    ((reserve_touches h _ _ _ s).mono (by decide)).then (takeCommitment_touches _) (by decide)
  have own : (opened h tx s).hose h = HoseCtl.granted _ _ := State.hose_putHose _ _
  rw [own, ← opened_config h tx s, ← before.hose]
  rfl

/-- R6: the meter of a fill that opens begins an interval in band 1. -/
theorem opened_meter (h : Hose) (tx : Transaction) (s : State) : ((opened h tx s).meter (meterOf h)).band = 1 ∧
    ((opened h tx s).meter (meterOf h)).acc = 0 ∧
    ((opened h tx s).meter (meterOf h)).interval = .running 1 := by
  have begun : (opened h tx s).meter (meterOf h) = _ := State.meter_putMeter _ _
  rw [begun]
  exact ⟨rfl, rfl, rfl⟩

/-- R103: a pump with demand runs, unless it rests. -/
theorem evalPump_of_demand (hd : demand c s = true) (hr : ∀ n, s.pump c ≠ .resting n) :
    ((evalPump c s).pump c).isRunning = true := by
  cases hp : s.pump c with
  | off =>
    simp only [evalPump, hp, hd, if_true]
    rw [State.pump_putPump]
    rfl
  | running n =>
    simp only [evalPump, hp, hd, if_true]
    rfl
  | resting n => exact absurd hp (hr n)

/-- R103: a hose that flows from a compartment without an inhibit makes demand. -/
theorem demand_of_flowing (hf : (s.hose h).state = .flowing) (hi : (s.comp (compOf h)).inhibit = none)
    (he : s.inputs.emergency = false) : demand (compOf h) s = true := by
  have flows : (hosesOf (compOf h)).any (flowing s) = true :=
    List.any_eq_true.mpr ⟨h, mem_hosesOf.mpr rfl, decide_eq_true hf⟩
  simp [demand, flows, hi, he]

/-! ## The fill that a grant opens -/

/-- R79: the hose of a fill that opens, at the stage of its limit. -/
def HoseCtl.opening (cfg : HoseConfig) (limit : Nat) (hc : HoseCtl) : HoseCtl :=
  (hc.granted cfg).atStage (stageOf 0 limit cfg.taperVolume cfg.startVolume)

/-- R76: a fill begins with nothing counted. -/
theorem newTransaction_netMl (g : GrantRequest) (m : MachineEntry) (limit : Nat) (s : State) :
    (newTransaction g m limit s).volume.net / 1000 = 0 := Nat.zero_div _

/-- R75, R76, R79: a grant with a limit above 0 opens a fill that flows. -/
theorem openFill_flows (hl : 0 < limitOf g m s) : openFill g m s = settle (compOf g.hose)
    ((opened g.hose (newTransaction g m (limitOf g m s).toNat s) s).putHose g.hose
      ((s.hose g.hose).opening (s.config g.hose) (limitOf g m s).toNat)) := by
  have below : (newTransaction g m (limitOf g m s).toNat s).volume.net / 1000 < (limitOf g m s).toNat := by
    rw [newTransaction_netMl]
    omega
  rw [openFill_eq, evalStage_below (opened_tx _ _ _) below, opened_hose, opened_config, newTransaction_netMl]
  rfl

/-- R79: a grant with a limit of 0 or less stops its fill at once. -/
theorem openFill_drains (hl : limitOf g m s ≤ 0) : ((openFill g m s).hose g.hose).state = .draining := by
  have zero : (limitOf g m s).toNat ≤ (newTransaction g m (limitOf g m s).toNat s).volume.net / 1000 := by
    rw [Int.toNat_of_nonpos hl]
    exact Nat.zero_le _
  rw [openFill_eq, (settle_touches _ _).hose, evalStage_at_limit (opened_tx _ _ _) zero,
    (stopFill_stops (.inl (opened_state _ _ _)) .limit).1]

/-- R79: the hose of a fill that opens. -/
theorem opening_eq (cfg : HoseConfig) (limit : Nat) (hc : HoseCtl) : (hc.opening cfg limit).stage =
      (if limit ≤ cfg.taperVolume then .taper else if 0 < cfg.startVolume then .start else .full) ∧
    (hc.opening cfg limit).valve = (if (hc.opening cfg limit).stage = .full then .high else .low) := by
  refine ⟨?_, valveOf_eq _⟩
  change stageOf 0 limit cfg.taperVolume cfg.startVolume = _
  rw [stageOf_eq, Nat.zero_add]

theorem openFill_hose (hl : 0 < limitOf g m s) : (openFill g m s).hose g.hose =
    (s.hose g.hose).opening (s.config g.hose) (limitOf g m s).toNat := by
  rw [openFill_flows hl, (settle_touches _ _).hose, State.hose_putHose]

/-- What follows the opening of a fill that flows: its stage, its pump and rest. -/
theorem openFill_after_opened (hl : 0 < limitOf g m s) : OnlyIn [.hoses, .pumps, .units]
    (opened g.hose (newTransaction g m (limitOf g m s).toNat s) s) (openFill g m s) := by
  rw [openFill_flows hl]
  exact ((only_setHoses _ _).mono (by decide)).then (settle_touches _ _) (by decide)

/-- R103: the pump of a fill that opens runs. -/
theorem openFill_pump (hs : siteCondition g.hose s = none) (hl : 0 < limitOf g m s) :
    ((openFill g m s).pump (compOf g.hose)).isRunning = true := by
  obtain ⟨he, hi, hp⟩ := siteCondition_none hs
  rw [openFill_flows hl, settle_pump]
  generalize newTransaction g m (limitOf g m s).toNat s = tx
  have only := opened_only g.hose tx s
  have put := only_setHoses ((opened g.hose tx s).hoses.set g.hose
    ((s.hose g.hose).opening (s.config g.hose) (limitOf g m s).toNat)) (opened g.hose tx s)
  refine evalPump_of_demand (demand_of_flowing (by rw [State.hose_putHose]; rfl) ?_ ?_) fun n => ?_
  · rw [put.comp, opened_comp]; exact hi
  · rw [put .inputs (by decide), only .inputs (by decide)]; exact he
  · rw [put.pump, only.pump]; exact hp n

theorem evalStage_hose_ne (hf : (s.hose h).state = .flowing) {f : Hose} (hg : f ≠ h) :
    (evalStage h s).hose f = s.hose f := by
  cases ht : s.tx h with
  | none => simp only [evalStage, ht]
  | some tx =>
    by_cases hl : tx.limit ≤ tx.volume.net / 1000
    · obtain ⟨-, -, -, others, -⟩ := stopFill_stops (.inl hf) .limit
      rw [evalStage_at_limit ht hl, others f hg]
    · rw [evalStage_below ht (not_le.mp hl), State.hose_putHose_ne _ _ hg]

theorem openFill_hose_ne (g : GrantRequest) (m : MachineEntry) (s : State) {f : Hose} (hg : f ≠ g.hose) :
    (openFill g m s).hose f = s.hose f := by
  rw [openFill_eq, (settle_touches _ _).hose, evalStage_hose_ne (opened_state _ _ _) hg, opened_hose_ne _ _ hg]

/-- R72 to R76, R79, R82, R103, R150: a grant that passes its checks with a limit above 0 opens a fill. -/
theorem openFill_opens (hm : s.machine g.machine = some m) (hs : siteCondition g.hose s = none)
    (hl : 0 < limitOf g m s) : FillOpened g m s (openFill g m s) := by
  have late := openFill_after_opened (m := m) hl
  have pump := openFill_pump hs hl
  have own := openFill_hose hl
  obtain ⟨stage, valve⟩ := opening_eq (s.config g.hose) (limitOf g m s).toNat (s.hose g.hose)
  obtain ⟨band, acc, interval⟩ := opened_meter g.hose (newTransaction g m (limitOf g m s).toNat s) s
  refine ⟨newTransaction g m (limitOf g m s).toNat s, (late.tx _).trans (opened_tx _ _ _),
    ⟨rfl, rfl, rfl, rfl, Int.toNat_of_nonneg hl.le, rfl, rfl, rfl, rfl, rfl, rfl, rfl, rfl⟩, ⟨rfl, rfl, rfl, rfl⟩,
    ?_, ⟨?_, ?_, ?_, ?_⟩, ⟨?_, ?_, ?_, pump⟩, ⟨?_, ?_⟩, fun f hf => openFill_hose_ne g m s hf, fun c hc => ?_,
    fun f hf => ?_, fun j hj => ?_, fun j hj => ?_⟩
  · rw [own]
    exact ⟨rfl, rfl, rfl, rfl, stage, valve⟩
  · rw [late.machine, opened_machine]
    refine (if_pos rfl).trans ?_
    rw [hm]
    rfl
  · rw [late.account, opened_account, if_pos rfl]
    rfl
  · rw [late.comp, opened_comp]
  · rw [late .log (by decide), opened_log]
  · rw [late.meter, band]
  · rw [late.meter, acc]
  · rw [late.meter, interval]
  · exact (opened_logWatched _ _ _).congr rfl rfl rfl (congrArg LogWatch.armed (late .logWatch (by decide)))
      (late .log (by decide)) (late.row _)
  · exact (opened_otherAlarms _ _ _).trans late.otherAlarms
  · rw [late.comp, opened_comp_ne _ _ hc]
  · rw [late.tx, opened_tx_ne _ _ hf]
  · rw [late.machine, opened_machine]
    exact if_neg hj
  · rw [late.account, opened_account, if_neg hj]

/-- R71 to R76: a grant that finds no reason to refuse and has a limit above 0. -/
theorem grant_fillOpened (hm : s.machine g.machine = some m) (hr : grantRefusal g m s = none)
    (hl : 0 < limitOf g m s) : FillOpened g m s (grant g s) ∧ OnlyIn fillParts s (grant g s) := by
  refine ⟨?_, (grant_touches g s).mono (by decide)⟩
  rw [grant_opens hm hr]
  exact openFill_opens hm (grantRefusal_passed hr).1 hl

end Sys2Proof.Machine
end

section
/-! PROOF. The three ways to a grant (R61 to R65, R68): the report of a confirmed tag, APPROVE and AUTHORISE, with what
each answers. -/

namespace Sys2Proof.Machine

variable {s u : State} {h : Hose} {k : Nat} {id : TagId} {m : MachineEntry} {a : Account} {p : Product}
  {g : GrantRequest} {tx : Transaction} {r : Reason} {preset : Option Int} {tag : SeqTag} {body : List Septet}

/-! ## The tests of an entry (R61, R68) -/

theorem accountOf_eq (ha : s.account m.fields.account = some a) : accountOf s m.fields.account = a := by
  rw [accountOf, ha]
  rfl

theorem entryRefusal_machine (hs : m.fields.suspended = true) : entryRefusal h k m s = some .machineSuspended :=
  if_pos hs

theorem entryRefusal_account (hs : m.fields.suspended = false) (ha : s.account m.fields.account = some a)
    (has : a.fields.suspended = true) : entryRefusal h k m s = some .accountSuspended := by
  simp only [entryRefusal, hs, accountOf_eq ha, has, Bool.false_eq_true, if_false, if_true]

/-- R61: an entry that is not suspended, and whose account is not, is refused only where another hose holds it. -/
theorem entryRefusal_held (hs : m.fields.suspended = false) (ha : s.account m.fields.account = some a)
    (has : a.fields.suspended = false) :
    entryRefusal h k m s = if heldByOther s h k then some .alreadyFilling else none := by
  simp only [entryRefusal, hs, accountOf_eq ha, has, Bool.false_eq_true, if_false]

/-! ## The report of a confirmed tag (R60 to R63) -/

theorem takeConfirmed_identifying (hi : (s.hose h).state = .identifying) : takeConfirmed h id s = lookup h id s := by
  simp only [takeConfirmed, hi]

theorem lookup_unknown (hf : findTag s.store.machines id = none) : lookup h id s = refuseHose h .unknownTag s := by
  simp only [lookup, hf]

theorem lookup_found (hf : findTag s.store.machines id = some (k, p)) (hm : s.machine k = some m) :
    lookup h id s = testEntry h k p id m s := by
  simp only [lookup, hf, hm]

theorem testEntry_wrongProduct (hp : p ≠ productOf h) : testEntry h k p id m s = refuseHose h .wrongProduct s :=
  if_pos hp

theorem testEntry_refused (hr : entryRefusal h k m s = some r) :
    testEntry h k (productOf h) id m s = refuseHose h r s := by
  simp only [testEntry, ne_eq, not_true_eq_false, if_false, hr]

theorem testEntry_passed (hr : entryRefusal h k m s = none) :
    testEntry h k (productOf h) id m s = identified h k id m s := by
  simp only [testEntry, ne_eq, not_true_eq_false, if_false, hr]

theorem identified_awaits (ho : s.link.online = true) (ha : (s.config h).approval = true) :
    identified h k id m s = enterAwaiting h k id s := by
  simp only [identified, ho, ha, if_true]

theorem identified_online (ho : s.link.online = true) (ha : (s.config h).approval = false) :
    identified h k id m s = grant ⟨h, k, some id, none, false⟩ s := by
  simp only [identified, ho, ha, Bool.false_eq_true, if_false, if_true]

theorem identified_offline (ho : s.link.online = false) (hm : m.fields.offline = true) :
    identified h k id m s = grant ⟨h, k, some id, none, true⟩ s := by
  simp only [identified, ho, hm, Bool.false_eq_true, if_false, if_true]

theorem identified_noLink (ho : s.link.online = false) (hm : m.fields.offline = false) :
    identified h k id m s = refuseHose h .noLink s := by
  simp only [identified, ho, hm, Bool.false_eq_true, if_false]

/-- The state in which the report of a confirmed tag acts: it waits no longer to be taken. -/
abbrev reported (h : Hose) (id : TagId) (s : State) : State := takeHanded (.report h (.confirmed id)) s

/-- R34, R61: the report of a tag at a hose in IDENTIFYING is the lookup. -/
theorem exec_confirmed_identifying (hp : s.power = .on) (hi : (s.hose h).state = .identifying) (id : TagId) :
    exec (.confirmed h id) s = .next (lookup h id (reported h id s)) :=
  (exec_confirmed hp h id).trans
    (congrArg Host.Outcome.next (takeConfirmed_identifying (s := reported h id s) hi))

/-- R59, R61: a lookup that refuses the hose. -/
theorem confirmed_refused (hp : s.power = .on) (hi : (s.hose h).state = .identifying)
    (hl : lookup h id (reported h id s) = refuseHose h r (reported h id s)) :
    ∃ t, exec (.confirmed h id) s = .next t ∧ HoseRefused h r s t ∧ OnlyIn [.hoses, .handed] s t := by
  have free : ((reported h id s).hose h).state.isAwaiting = false := by
    change (s.hose h).state.isAwaiting = false
    rw [hi]
    rfl
  refine ⟨_, exec_confirmed_identifying hp hi id, ?_, ?_⟩ <;> rw [hl]
  · exact refuseHose_refuses h r (reported h id s)
  · exact ((takeHanded_touches _ s).mono (by decide)).then (refuseHose_only free r) (by decide)

/-- R64: entry into AWAITING. -/
theorem enterAwaiting_waits (h : Hose) (k : Nat) (id : TagId) (s : State) :
    (enterAwaiting h k id s).hose h = { s.hose h with
      state := .awaiting k id, identify := .stopped, approval := .running (s.config h).approvalTime } ∧
    OtherHoses h s (enterAwaiting h k id s) ∧ OnlyIn [.hoses] s (enterAwaiting h k id s) :=
  ⟨State.hose_putHose _ _, fun _ hg => State.hose_putHose_ne _ _ hg, only_setHoses _ _⟩

/-- Settles O23: each clause is the equation of `lookup`, `testEntry` or `identified` for its test. -/
theorem confirmedTagIsLookedUp : Obligations.ConfirmedTagIsLookedUp := by
  unfold Obligations.ConfirmedTagIsLookedUp
  intro h id s hp hi
  refine ⟨fun hf => confirmed_refused hp hi (lookup_unknown hf), fun k p m hf hm => ?_⟩
  have found : lookup h id (reported h id s) = testEntry h k p id m (reported h id s) := lookup_found hf hm
  refine ⟨fun hne => confirmed_refused hp hi (found.trans (testEntry_wrongProduct hne)), ?_⟩
  rintro rfl
  have refuses {r : Reason} (hr : entryRefusal h k m (reported h id s) = some r) :=
    confirmed_refused hp hi (found.trans (testEntry_refused hr))
  refine ⟨fun hs => refuses (entryRefusal_machine hs), fun hs a ha => ⟨fun has =>
    refuses (entryRefusal_account (s := reported h id s) hs ha has), fun has => ?_⟩⟩
  have tested := entryRefusal_held (s := reported h id s) (h := h) (k := k) hs ha has
  have passes (hh : heldByOther s h k = false) :
      lookup h id (reported h id s) = identified h k id m (reported h id s) :=
    found.trans (testEntry_passed (tested.trans (if_neg (Bool.eq_false_iff.mp hh))))
  refine ⟨fun hh => refuses (tested.trans (if_pos hh)), fun hh ho hm => ?_, fun hh ho ha => ?_⟩
  · exact confirmed_refused hp hi ((passes hh).trans (identified_noLink (s := reported h id s) ho hm))
  · obtain ⟨own, others, only⟩ := enterAwaiting_waits h k id (reported h id s)
    refine ⟨_, exec_confirmed_identifying hp hi id, ?_⟩
    rw [passes hh, identified_awaits (s := reported h id s) ho ha]
    exact ⟨own, others, ((takeHanded_touches _ s).mono (by decide)).then only (by decide)⟩

/-! ## The answer of a grant (R65, R68, R184) -/

/-- R65: a hose that flows is answered with the limit and the reservation. -/
theorem grantFields_flowing (hf : (s.hose h).state = .flowing) (ht : s.tx h = some tx) : grantFields h s =
    [.count (hoseNumber h), .code 5, .present, .volume tx.limit, .present, .volume tx.reservation, .absent] := by
  simp only [grantFields, hoseStateFields, hf, ht]
  rfl

/-- R65: a hose that is refused is answered with the reason. -/
theorem grantFields_refused (hs : (s.hose h).state = .refused r) : grantFields h s =
    [.count (hoseNumber h), .code 3, .absent, .absent, .present, .code r.code] := by
  simp only [grantFields, hoseStateFields, hs]
  rfl

/-- R76: what an opened fill shows. -/
theorem FillOpened.fields (ho : FillOpened g m s u) : ∃ tx, u.tx g.hose = some tx ∧
    (tx.limit : Int) = limitOf g m s ∧ tx.reservation = tx.limit + (s.config g.hose).overrunAllowance ∧
    grantFields g.hose u = [.count (hoseNumber g.hose), .code 5, .present, .volume tx.limit, .present,
      .volume tx.reservation, .absent] := by
  obtain ⟨tx, ht, ⟨-, -, -, -, limit, reservation, -⟩, -, ⟨flows, -⟩, -⟩ := ho
  exact ⟨tx, ht, limit, reservation, grantFields_flowing flows ht⟩

/-- R71: a grant after which the hose flows has found no reason to refuse and a limit above 0. -/
theorem grant_of_flowing (hm : s.machine g.machine = some m)
    (hf : ((grant g s).hose g.hose).state = .flowing) : grantRefusal g m s = none ∧ 0 < limitOf g m s := by
  cases hr : grantRefusal g m s with
  | some r =>
    rw [grant_refuses hm hr, refuseHose_state] at hf
    cases hf
  | none =>
    refine ⟨rfl, not_le.mp fun hl => ?_⟩
    rw [grant_opens hm hr, openFill_drains hl] at hf
    cases hf

/-! ## APPROVE (R65) -/

theorem presetWithin_iff (preset : Option Int) :
    presetWithin preset = true ↔ preset = none ∨ ∃ x, preset = some x ∧ 1 ≤ x ∧ x ≤ 2000000 := by
  cases preset with
  | none => simp [presetWithin, optWithin]
  | some x => simp [presetWithin, optWithin, within]

theorem ownApprove_grants (hp : presetWithin preset = true) (hw : (s.hose h).state = .awaiting k id) :
    ownApprove (hoseNumber h, preset) s = .ok (grant ⟨h, k, some id, preset, false⟩ s,
      grantFields h (grant ⟨h, k, some id, preset, false⟩ s)) := by
  simp only [ownApprove, hoseOfNumber_hoseNumber, hp, hw, Bool.not_true, Bool.false_eq_true, if_false]

theorem ownApprove_preset (hp : presetWithin preset = false) : ownApprove (hoseNumber h, preset) s = .error .range := by
  simp only [ownApprove, hoseOfNumber_hoseNumber, hp, Bool.not_false, if_true]

/-- The state that a grant asked for by a request leaves: the frame is heard, the grant is tested, and the answer of
message code `code` shows its outcome. -/
def grantAnswered (tag : SeqTag) (code : Septet) (h : Hose) (grant : State → State) (s : State) : State :=
  replied (.answer tag code (grantFields h (grant (heard s)))) (grant (heard s))

theorem exec_approve_grants (hr : Ready s) (hb : parseApprove body = some (hoseNumber h, preset))
    (hp : presetWithin preset = true) (hw : (s.hose h).state = .awaiting k id) :
    exec (.approve tag body) s = .next (grantAnswered tag 32 h (grant ⟨h, k, some id, preset, false⟩) s) :=
  congrArg Host.Outcome.next (takeRequest_ok hr hb (ownApprove_grants (s := heard s) hp hw))

/-- R65: APPROVE with a preset out of range leaves the hose as it was. -/
theorem exec_approve_preset (hr : Ready s) (hb : parseApprove body = some (hoseNumber h, preset))
    (hp : presetWithin preset = false) : exec (.approve tag body) s = .next (refused tag .range 32 s) :=
  congrArg Host.Outcome.next (takeRequest_error hr hb (ownApprove_preset hp))

/-! ## AUTHORISE (R68) -/

theorem exists_tag_iff (v : PerProduct (Option TagId)) :
    (∃ p, v.get p ≠ none) ↔ v.diesel ≠ none ∨ v.fluid ≠ none :=
  ⟨fun ⟨p, hp⟩ => by cases p; exacts [.inl hp, .inr hp], fun hv => hv.elim (⟨.diesel, ·⟩) (⟨.fluid, ·⟩)⟩

/-- R68 test 1: an entry that has a tag, and none for the product of the hose. -/
theorem otherProductOnly_iff (h : Hose) (m : MachineEntry) : otherProductOnly h m = true ↔
    m.fields.tags.get (productOf h) = none ∧ ∃ p, m.fields.tags.get p ≠ none := by
  rw [exists_tag_iff]
  cases hp : productOf h <;>
    simp only [otherProductOnly, hp, PerProduct.get, Bool.and_eq_true, Option.isSome_iff_ne_none,
      Option.isNone_iff_eq_none] <;> tauto

theorem ownAuthorise_tests (hk : k ≤ 511) (hp : presetWithin preset = true) (hi : (s.hose h).state = .identifying)
    (ho : s.link.online = true) (hm : s.machine k = some m) : ownAuthorise (hoseNumber h, k, preset) s =
      .ok (authorise h k preset m s, grantFields h (authorise h k preset m s)) := by
  simp only [ownAuthorise, hoseOfNumber_hoseNumber, hp, hi, ho, hm, not_lt.mpr hk, Bool.not_true, ne_eq,
    not_true_eq_false, Bool.false_eq_true, or_self, if_false]

/-- R68 check 1. -/
theorem ownAuthorise_range (hk : 511 < k ∨ presetWithin preset = false) :
    ownAuthorise (hoseNumber h, k, preset) s = .error .range := by
  simp only [ownAuthorise, hoseOfNumber_hoseNumber, Bool.not_eq_true']
  exact if_pos hk

theorem exec_authorise_tests (hr : Ready s) (hb : parseAuthorise body = some (hoseNumber h, k, preset)) (hk : k ≤ 511)
    (hp : presetWithin preset = true) (hi : (s.hose h).state = .identifying) (hm : s.machine k = some m) :
    exec (.authorise tag body) s = .next (grantAnswered tag 34 h (authorise h k preset m) s) :=
  congrArg Host.Outcome.next (takeRequest_ok hr hb (ownAuthorise_tests (s := heard s) hk hp hi rfl hm))

theorem exec_authorise_range (hr : Ready s) (hb : parseAuthorise body = some (hoseNumber h, k, preset))
    (hk : 511 < k ∨ presetWithin preset = false) : exec (.authorise tag body) s = .next (refused tag .range 34 s) :=
  congrArg Host.Outcome.next (takeRequest_error hr hb (ownAuthorise_range hk))

theorem authorise_wrongProduct (hw : otherProductOnly h m = true) :
    authorise h k preset m s = refuseHose h .wrongProduct s :=
  if_pos hw

theorem authorise_refused (hw : otherProductOnly h m = false) (hr : entryRefusal h k m s = some r) :
    authorise h k preset m s = refuseHose h r s := by
  simp only [authorise, hw, hr, Bool.false_eq_true, if_false]

theorem authorise_grants (hw : otherProductOnly h m = false) (hr : entryRefusal h k m s = none) :
    authorise h k preset m s = grant ⟨h, k, none, preset, false⟩ s := by
  simp only [authorise, hw, hr, Bool.false_eq_true, if_false]

end Sys2Proof.Machine
end

section
/-! PROOF. The statements of the grant (R61, R65, R68, R71 to R76): its limit, the fills that it opens, and the first
check that refuses it. -/

namespace Sys2Proof.Machine

variable {s : State} {h : Hose} {k : Nat} {id : TagId} {m : MachineEntry} {g : GrantRequest} {r : Reason}
  {preset : Option Int} {tag : SeqTag} {body : List Septet} {f : State → State}

/-! ## A grant that a request asks for -/

/-- R65, R68, R76: a request whose grant opens a fill is answered with the limit and the reservation. -/
theorem grantAnswered_opens (ho : FillOpened g m (heard s) (f (heard s)))
    (hp : OnlyIn fillParts (heard s) (f (heard s))) (tag : SeqTag) (code : Septet) :
    FillOpened g m s (grantAnswered tag code g.hose f s) ∧
      OnlyIn (.link :: fillParts) s (grantAnswered tag code g.hose f s) ∧
      replyOf (grantAnswered tag code g.hose f s) = some (.answer tag code [.count (hoseNumber g.hose), .code 5,
        .present, .volume (limitOf g m s), .present,
        .volume (limitOf g m s + (s.config g.hose).overrunAllowance), .absent]) := by
  refine ⟨ho, (((heard_touches s).mono (by decide)).then hp (by decide)).then (replied_touches _ _) (by decide), ?_⟩
  obtain ⟨tx, -, limit, reservation, fields⟩ := ho.fields
  have limit : (tx.limit : Int) = limitOf g m s := limit
  have reservation : (tx.reservation : Int) = limitOf g m s + (s.config g.hose).overrunAllowance := by
    rw [reservation, Nat.cast_add, limit]
    rfl
  rw [← reservation, ← limit]
  exact congrArg (fun x => some (Reply.answer tag code x)) fields

/-- R65, R68: what a request whose grant opened a fill shows. -/
theorem grantAnswered_shows (ho : FillOpened g m (heard s) (f (heard s))) (tag : SeqTag) (code : Septet) :
    ∃ tx, (grantAnswered tag code g.hose f s).tx g.hose = some tx ∧ (tx.limit : Int) = limitOf g m s ∧
      replyOf (grantAnswered tag code g.hose f s) = some (.answer tag code [.count (hoseNumber g.hose), .code 5,
        .present, .volume tx.limit, .present, .volume tx.reservation, .absent]) := by
  obtain ⟨tx, ht, limit, -, fields⟩ := ho.fields
  exact ⟨tx, ht, limit, congrArg (fun x => some (Reply.answer tag code x)) fields⟩

/-- R65, R68, R70: a request that refuses the hose is answered with the reason. -/
theorem grantAnswered_refuses (hf : f (heard s) = refuseHose h r (heard s)) (tag : SeqTag) (code : Septet) :
    HoseRefused h r s (grantAnswered tag code h f s) ∧ replyOf (grantAnswered tag code h f s) = some (.answer tag code
      [.count (hoseNumber h), .code 3, .absent, .absent, .present, .code r.code]) := by
  rw [grantAnswered, hf]
  exact ⟨refuseHose_refuses h r (heard s),
    congrArg (fun x => some (Reply.answer tag code x)) (grantFields_refused (refuseHose_state h r (heard s)))⟩

/-- R68: an AUTHORISE after which the hose flows has had its grant tested. -/
theorem authorise_of_flowing (hf : ((authorise h k preset m s).hose h).state = .flowing) :
    authorise h k preset m s = grant ⟨h, k, none, preset, false⟩ s := by
  cases hw : otherProductOnly h m with
  | true =>
    rw [authorise_wrongProduct hw, refuseHose_state] at hf
    cases hf
  | false =>
    cases hr : entryRefusal h k m s with
    | some r =>
      rw [authorise_refused hw hr, refuseHose_state] at hf
      cases hf
    | none => exact authorise_grants hw hr

/-! ## The limit (R72 to R74) -/

/-- R72: a headroom less the overrun allowance, where the bound is present. -/
theorem headroom_less_eq (b : Option Nat) (used reserved : Nat) (a x : Int) :
    (b.map fun y => (y : Int) - used - reserved - a) = some x ↔ some (x + a) = headroom b used reserved := by
  cases b with
  | none => simp [headroom]
  | some y =>
    change some ((y : Int) - used - reserved - a) = some x ↔ some (x + a) = some ((y : Int) - used - reserved)
    rw [Option.some.injEq, Option.some.injEq]
    omega

/-- R72: the headroom on the account's budget, where the entry names an account. -/
theorem accountHeadroom_less_eq (s : State) (k : Nat) (p : Product) (a x : Int) :
    ((s.account k).bind fun c => (c.fields.budget.get p).map fun y =>
      (y : Int) - c.used.get p - c.reserved.get p - a) = some x ↔ some (x + a) = accountHeadroom (accountOf s k) p := by
  cases hc : s.account k with
  | none =>
    have unbounded : (accountOf s k).fields.budget.get p = none := by rw [accountOf, hc]; cases p <;> rfl
    simp [accountHeadroom, headroom, unbounded]
  | some c =>
    have own : accountOf s k = c := by rw [accountOf, hc]; rfl
    rw [own]
    exact headroom_less_eq _ _ _ a x

/-- R72, R73: the terms of the limit that are present, each headroom less the overrun allowance. -/
def bounds (g : GrantRequest) (m : MachineEntry) (s : State) : List Int :=
  let p := productOf g.hose
  let a := ((s.config g.hose).overrunAllowance : Int)
  [2000000] ++ g.preset.toList ++ ((m.fields.maxFill.get p).map Int.ofNat).toList ++
    (if g.offline then [(s.store.site.offlineCap : Int)] else []) ++
    [(s.comp (compOf g.hose)).book - (s.comp (compOf g.hose)).reserveLevel -
      (s.comp (compOf g.hose)).reservations - a] ++
    ((m.fields.allowance.get p).map fun x => (x : Int) - m.used.get p - m.reserved.get p - a).toList ++
    (((s.account m.fields.account).bind fun c => (c.fields.budget.get p).map fun x =>
      (x : Int) - c.used.get p - c.reserved.get p - a)).toList

/-- R72, R73: the terms of the limit are the ceiling, the caps and the headrooms that are present. -/
theorem mem_bounds (g : GrantRequest) (m : MachineEntry) (s : State) (x : Int) : x ∈ bounds g m s ↔
    x = 2000000 ∨ some x ∈ caps g m s ∨ some (x + ((s.config g.hose).overrunAllowance : Int)) ∈ headrooms g m s := by
  have cap : x ∈ (if g.offline then [(s.store.site.offlineCap : Int)] else []) ↔
      some x = if g.offline then some (s.store.site.offlineCap : Int) else none := by
    cases g.offline <;> simp
  have stock : x = (s.comp (compOf g.hose)).book - (s.comp (compOf g.hose)).reserveLevel -
      (s.comp (compOf g.hose)).reservations - (s.config g.hose).overrunAllowance ↔
        some (x + ((s.config g.hose).overrunAllowance : Int)) = some (available (s.comp (compOf g.hose))) := by
    rw [Option.some.injEq, available]
    omega
  have preset : g.preset = some x ↔ some x = g.preset := eq_comm
  have most : (m.fields.maxFill.get (productOf g.hose)).map Int.ofNat = some x ↔
      some x = (m.fields.maxFill.get (productOf g.hose)).map Int.ofNat := eq_comm
  simp only [bounds, List.mem_append, Option.mem_toList, cap, stock, preset, most, headroom_less_eq,
    accountHeadroom_less_eq, caps, headrooms, List.mem_cons, List.not_mem_nil, or_false, machineHeadroom, or_assoc]
  rw [or_comm (a := some _ = headroom _ _ _)]

/-- Settles O24: the limit is the least of its terms by `limitOf_le` and `limitOf_mem`, and a hose that flows after a
request has had its grant pass. -/
theorem limitIsTheLeastBound : Obligations.LimitIsTheLeastBound := by
  unfold Obligations.LimitIsTheLeastBound
  refine ⟨fun g m s => ?_, fun h k m tag body preset s t hr hm hf => ⟨fun id hb hw he => ?_, fun hb hi he => ?_⟩⟩
  · change (∀ x ∈ bounds g m s, limitOf g m s ≤ x) ∧ limitOf g m s ∈ bounds g m s ∧ _
    refine ⟨fun x hx => ?_, (mem_bounds g m s _).mpr (limitOf_mem g m s), fun hl hp hn => ?_⟩
    · obtain ⟨ceiling, cap, room⟩ := limitOf_le g m s
      obtain rfl | hx | hx := (mem_bounds g m s x).mp hx
      · exact ceiling
      · exact cap x hx
      · have := room _ hx
        omega
    · obtain ⟨-, -, hmin⟩ := grantRefusal_passed hn
      omega
  · cases hp : presetWithin preset with
    | false =>
      rw [exec_approve_preset hr hb hp] at he
      cases he
      have hf : (s.hose h).state = .flowing := hf
      rw [hw] at hf
      cases hf
    | true =>
      rw [exec_approve_grants hr hb hp hw] at he
      cases he
      obtain ⟨passes, limit⟩ := grant_of_flowing (g := ⟨h, k, some id, preset, false⟩) (s := heard s) hm hf
      exact grantAnswered_shows (grant_fillOpened hm passes limit).1 tag 32
  · by_cases hp : 511 < k ∨ presetWithin preset = false
    · rw [exec_authorise_range hr hb hp] at he
      cases he
      have hf : (s.hose h).state = .flowing := hf
      rw [hi] at hf
      cases hf
    · rw [not_or, not_lt, Bool.not_eq_false] at hp
      obtain ⟨hk, hx⟩ := hp
      rw [exec_authorise_tests hr hb hk hx hi hm] at he
      cases he
      have hf : ((authorise h k preset m (heard s)).hose h).state = .flowing := hf
      have granted := authorise_of_flowing hf
      rw [granted] at hf
      obtain ⟨passes, limit⟩ := grant_of_flowing (g := ⟨h, k, none, preset, false⟩) (s := heard s) hm hf
      have opens := (grant_fillOpened (g := ⟨h, k, none, preset, false⟩) (s := heard s) hm passes limit).1
      rw [← granted] at opens
      exact grantAnswered_shows opens tag 34

/-! ## Grants that open fills -/

/-- R63, R76: the report of a tag whose grant passes opens a fill. -/
theorem confirmed_opens (hp : s.power = .on) (hi : (s.hose h).state = .identifying)
    (hl : lookup h id (reported h id s) = grant g (reported h id s)) (hm : s.machine g.machine = some m)
    (hr : grantRefusal g m s = none) (hlim : 0 < limitOf g m s) :
    ∃ t, exec (.confirmed h id) s = .next t ∧ FillOpened g m s t ∧ OnlyIn (.handed :: fillParts) s t := by
  obtain ⟨opens, only⟩ := grant_fillOpened (s := reported h id s) hm hr hlim
  refine ⟨_, exec_confirmed_identifying hp hi id, ?_⟩
  rw [hl]
  exact ⟨opens, ((takeHanded_touches _ s).mono (by decide)).then only (by decide)⟩

/-- R61, R63: the lookup of a tag whose entry passes its tests. -/
theorem lookup_passed (hf : findTag s.store.machines id = some (k, productOf h)) (hm : s.machine k = some m)
    (hr : entryRefusal h k m s = none) : lookup h id s = identified h k id m s :=
  (lookup_found hf hm).trans (testEntry_passed hr)

/-- Settles O25: each of the three ways ends in a grant that passes, which `openFill_opens` is about. -/
theorem grantsOpenFills : Obligations.GrantsOpenFills := by
  unfold Obligations.GrantsOpenFills
  refine fun h k m s hm => ⟨fun id hp hi hf he => ?_, fun tag body preset hr hx => ?_⟩
  · have passed : lookup h id (reported h id s) = identified h k id m (reported h id s) := lookup_passed hf hm he
    exact ⟨fun ho ha hr hl => confirmed_opens hp hi
        (passed.trans (identified_online (s := reported h id s) ho ha)) hm hr hl,
      fun ho hoff hr hl => confirmed_opens hp hi
        (passed.trans (identified_offline (s := reported h id s) ho hoff)) hm hr hl⟩
  · have hp := (presetWithin_iff preset).mpr hx
    refine ⟨fun id hb hw hn hl => ?_, fun hb hk hi _ hw he hn hl => ?_⟩
    · obtain ⟨opens, only⟩ := grant_fillOpened (s := heard s) (g := ⟨h, k, some id, preset, false⟩) hm hn hl
      obtain ⟨opens, only, reply⟩ := grantAnswered_opens opens only tag 32
      exact ⟨_, _, exec_approve_grants hr hb hp hw, opens, only, reply, rfl⟩
    · obtain ⟨opens, only⟩ := grant_fillOpened (s := heard s) (g := ⟨h, k, none, preset, false⟩) hm hn hl
      rw [← authorise_grants (s := heard s) hw he] at opens only
      obtain ⟨opens, only, reply⟩ := grantAnswered_opens opens only tag 34
      exact ⟨_, _, exec_authorise_tests hr hb hk hp hi hm, opens, only, reply, rfl⟩

/-! ## Grants that are refused -/

/-- R68, R70: an AUTHORISE that refuses the hose. -/
theorem authorise_refusedAuthorisation (hr : Ready s) (hb : parseAuthorise body = some (hoseNumber h, k, preset))
    (hk : k ≤ 511) (hp : presetWithin preset = true) (hi : (s.hose h).state = .identifying)
    (hm : s.machine k = some m) (hf : authorise h k preset m (heard s) = refuseHose h r (heard s)) :
    RefusedAuthorisation h r tag body s := by
  have free : ((heard s).hose h).state.isAwaiting = false := by
    change (s.hose h).state.isAwaiting = false
    rw [hi]
    rfl
  obtain ⟨refused, reply⟩ := grantAnswered_refuses hf tag 34
  refine ⟨_, exec_authorise_tests hr hb hk hp hi hm, refused, ?_, reply⟩
  rw [grantAnswered, hf]
  exact (((heard_touches s).mono (by decide)).then (refuseHose_only free r) (by decide)).then (replied_touches _ _)
    (by decide)

/-- R65, R70: an APPROVE whose grant is refused. -/
theorem approve_refusedApproval (hr : Ready s) (hb : parseApprove body = some (hoseNumber h, preset))
    (hp : presetWithin preset = true) (hw : (s.hose h).state = .awaiting k id) (hm : s.machine k = some m)
    (hn : grantRefusal ⟨h, k, some id, preset, false⟩ m s = some r) : RefusedApproval h k r tag body s := by
  have hf := grant_refuses (s := heard s) (g := ⟨h, k, some id, preset, false⟩) hm hn
  obtain ⟨refused, reply⟩ := grantAnswered_refuses (h := h) hf tag 32
  refine ⟨_, exec_approve_grants hr hb hp hw, refused, ?_, ?_, reply⟩ <;> rw [grantAnswered, hf]
  · exact refuseHose_ends (s := heard s) r hw
  · exact (((heard_touches s).mono (by decide)).then (refuseHose_touches h r _) (by decide)).then
      (replied_touches _ _) (by decide)

/-- R71, R74: the checks of a grant in their order. -/
theorem grantRefusal_order (g : GrantRequest) (m : MachineEntry) (s : State) (hs : siteCondition g.hose s = none)
    (hc : canCommit s = true) (hl : limitOf g m s < (s.config g.hose).minimumGrant) :
    let least := ((s.config g.hose).minimumGrant : Int) + (s.config g.hose).overrunAllowance
    let account := accountHeadroom (accountOf s m.fields.account) (productOf g.hose)
    let machine := machineHeadroom m (productOf g.hose)
    (available (s.comp (compOf g.hose)) < least → grantRefusal g m s = some .noStock) ∧
      (least ≤ available (s.comp (compOf g.hose)) →
        ((∃ x, account = some x ∧ x < least) → grantRefusal g m s = some .noBudget) ∧
        ((∀ x, account = some x → least ≤ x) →
          ((∃ x, machine = some x ∧ x < least) → grantRefusal g m s = some .noAllowance) ∧
          ((∀ x, machine = some x → least ≤ x) → grantRefusal g m s = some .belowMinimum))) := by
  intro least account machine
  rw [grantRefusal_limit hs hc, limitRefusal_below hl]
  refine ⟨fun h => if_pos ((short_iff _ _).mpr ⟨_, rfl, h⟩), fun h => ?_⟩
  have stock : ¬ short (some (available (s.comp (compOf g.hose)))) (s.config g.hose) = true := by
    rw [Bool.not_eq_true, short_eq_false_iff]
    rintro _ ⟨⟩
    exact h
  rw [if_neg stock]
  refine ⟨fun h => if_pos ((short_iff _ _).mpr h), fun h => ?_⟩
  rw [if_neg (Bool.eq_false_iff.mp ((short_eq_false_iff _ _).mpr h))]
  exact ⟨fun h => if_pos ((short_iff _ _).mpr h),
    fun h => if_neg (Bool.eq_false_iff.mp ((short_eq_false_iff _ _).mpr h))⟩

/-- Settles O26: the checks are `grantRefusal_order`, and each way to a grant that is refused is `refuseHose`. -/
theorem grantsAreRefusedByTheirFirstCheck : Obligations.GrantsAreRefusedByTheirFirstCheck := by
  unfold Obligations.GrantsAreRefusedByTheirFirstCheck
  refine ⟨fun g m s => ⟨fun r => grantRefusal_site, grantRefusal_log, fun hs hc =>
    ⟨fun hl => (grantRefusal_limit hs hc).trans (limitRefusal_enough hl), grantRefusal_order g m s hs hc⟩⟩,
    fun h k m r s hm => ⟨fun id tag body preset hr hb hx hw hn =>
      approve_refusedApproval hr hb ((presetWithin_iff preset).mpr hx) hw hm hn, fun id hp hi hf he hn => ?_,
      fun tag body preset hr hb hk hx hi _ => ?_⟩⟩
  · have passed : lookup h id (reported h id s) = identified h k id m (reported h id s) := lookup_passed hf hm he
    obtain ⟨ho, ha, hn⟩ | ⟨ho, hoff, hn⟩ := hn
    · exact confirmed_refused hp hi ((passed.trans (identified_online (s := reported h id s) ho ha)).trans
        (grant_refuses (s := reported h id s) (g := ⟨h, k, some id, none, false⟩) hm hn))
    · exact confirmed_refused hp hi ((passed.trans (identified_offline (s := reported h id s) ho hoff)).trans
        (grant_refuses (s := reported h id s) (g := ⟨h, k, some id, none, true⟩) hm hn))
  · have refuses {r : Reason} (hf : authorise h k preset m (heard s) = refuseHose h r (heard s)) :
        RefusedAuthorisation h r tag body s :=
      authorise_refusedAuthorisation hr hb hk ((presetWithin_iff preset).mpr hx) hi hm hf
    refine ⟨fun hn ho => refuses (authorise_wrongProduct ((otherProductOnly_iff h m).mpr ⟨hn, ho⟩)), fun ht => ?_⟩
    have product : otherProductOnly h m = false := by
      rw [← Bool.not_eq_true, otherProductOnly_iff]
      rintro ⟨hn, p, hp⟩
      exact ht.elim (fun h => h hn) fun h => hp (h p)
    refine ⟨fun hs => refuses (authorise_refused product (entryRefusal_machine hs)), fun hs a ha => ⟨fun has =>
      refuses (authorise_refused product (entryRefusal_account (s := heard s) hs ha has)), fun has => ?_⟩⟩
    have tested := entryRefusal_held (s := heard s) (h := h) (k := k) hs ha has
    refine ⟨fun hh => refuses (authorise_refused product (tested.trans (if_pos hh))), fun hh hn => refuses ?_⟩
    rw [authorise_grants product (tested.trans (if_neg (Bool.eq_false_iff.mp hh)))]
    exact grant_refuses (s := heard s) (g := ⟨h, k, none, preset, false⟩) hm hn

end Sys2Proof.Machine
end

section
/-! PROOF. The expiry of the watchdog (R67, R191): the drop of the link at one hose, and at the hoses in their order. -/

namespace Sys2Proof.Machine

variable {s t u : State} {f h : Hose} {k : Nat} {id : TagId} {m : MachineEntry} {hs : List Hose}

/-! ## The drop at one hose (R67) -/

theorem dropLink_of_not (hw : (s.hose h).state.isAwaiting = false) : dropLink h s = s := by
  cases hs : (s.hose h).state with
  | awaiting => rw [hs] at hw; cases hw
  | _ => simp only [dropLink, hs]

theorem dropLink_noLink (hw : (s.hose h).state = .awaiting k id) (hm : s.machine k = some m)
    (ho : m.fields.offline = false) : dropLink h s = refuseHose h .noLink s := by
  simp only [dropLink, hw, hm, Option.map_some, Option.getD_some, ho, Bool.false_eq_true, if_false]

theorem dropLink_grants (hw : (s.hose h).state = .awaiting k id) (hm : s.machine k = some m)
    (ho : m.fields.offline = true) : dropLink h s = grant ⟨h, k, some id, none, true⟩ s := by
  simp only [dropLink, hw, hm, Option.map_some, Option.getD_some, ho, if_true]

/-- R42, R67: a waiting hose that the drop of the link refuses. -/
theorem refuseHose_of_awaiting (hw : (s.hose h).state = .awaiting k id) (r : Reason) :
    HoseRefused h r s (refuseHose h r s) ∧ HoldEnded h k s (refuseHose h r s) ∧
      OnlyIn [.hoses, .machines, .queue] s (refuseHose h r s) :=
  ⟨refuseHose_refuses h r s, refuseHose_ends r hw, refuseHose_touches h r s⟩

/-- R67: what the drop of the link does to one hose. -/
theorem dropLink_dropped (h : Hose) (s : State) : LinkDropped h s (dropLink h s) := by
  refine ⟨dropLink_of_not, fun k id m hw hm => ⟨fun ho => ?_, fun ho => ⟨fun r hr => ?_, fun hr hl => ?_⟩⟩⟩
  · rw [dropLink_noLink hw hm ho]
    exact refuseHose_of_awaiting hw .noLink
  · rw [dropLink_grants hw hm ho, grant_refuses (g := ⟨h, k, some id, none, true⟩) hm hr]
    exact refuseHose_of_awaiting hw r
  · rw [dropLink_grants hw hm ho]
    exact grant_fillOpened (g := ⟨h, k, some id, none, true⟩) hm hr hl

/-! ## What a grant leaves of the other hoses and their entries -/

/-- R75: a fill that opens leaves the writable fields of every entry. -/
theorem openFill_fields (g : GrantRequest) (m : MachineEntry) (s : State) (j : Nat) :
    ((openFill g m s).machine j).map MachineEntry.fields = (s.machine j).map MachineEntry.fields := by
  rw [openFill_eq, (settle_touches _ _).machine, (evalStage_touches _ _).machine, opened_machine]
  split
  · rw [Option.map_map]
    rfl
  · rfl

/-- R79: a fill that opens leaves its hose FLOWING, or DRAINING where its limit is 0. -/
theorem openFill_leaves_wait (g : GrantRequest) (m : MachineEntry) (s : State) :
    ((openFill g m s).hose g.hose).state.isAwaiting = false := by
  by_cases hl : 0 < limitOf g m s
  · rw [openFill_flows hl, (settle_touches _ _).hose, State.hose_putHose]
    rfl
  · rw [openFill_drains (not_lt.mp hl)]
    rfl

/-- R42, R45: a hose that is refused leaves the entry that another hose holds. -/
theorem refuseHose_machine_of_holding (r : Reason) (hg : f ≠ h) (hk : holding s f = some k) :
    (refuseHose h r s).machine k = s.machine k := by
  have moved := moveHose_touches h (.refused r) s
  have stands : held (moveHose h (.refused r) s) k = true :=
    (held_iff _ k).mpr ⟨f, by rw [holding_moveHose h f _ s rfl rfl, if_neg hg]; exact hk⟩
  rw [refuseHose, ← moved.machine]
  cases (s.hose h).state with
  | awaiting j => exact (endHold_of_held stands j).1
  | _ => rfl

/-! ## The drop at the hoses in turn (R191) -/

/-- R67: a hose at its turn in the drop of the link: from `s` to `u` it stands itself, and so do the fields of the
entry that it waits on. -/
structure AtItsTurn (f : Hose) (s u : State) : Prop where
  hose : u.hose f = s.hose f
  fields : ∀ k id, (s.hose f).state = .awaiting k id →
    (u.machine k).map MachineEntry.fields = (s.machine k).map MachineEntry.fields

theorem AtItsTurn.refl (f : Hose) (s : State) : AtItsTurn f s s := ⟨rfl, fun _ _ _ => rfl⟩

theorem AtItsTurn.trans (a : AtItsTurn f s t) (b : AtItsTurn f t u) : AtItsTurn f s u :=
  ⟨b.hose.trans a.hose, fun k id hw => (b.fields k id (by rw [a.hose]; exact hw)).trans (a.fields k id hw)⟩

theorem refuseHose_atItsTurn (r : Reason) (hg : f ≠ h) : AtItsTurn f s (refuseHose h r s) :=
  ⟨(refuseHose_refuses h r s).2 f hg, fun k id hw => by
    rw [refuseHose_machine_of_holding r hg (by simp only [holding, hw])]⟩

/-- R62: the grant of one hose leaves another hose as it is. -/
theorem grant_atItsTurn (g : GrantRequest) (hg : f ≠ g.hose) : AtItsTurn f s (grant g s) := by
  unfold grant
  split
  · exact .refl f s
  · split
    · exact refuseHose_atItsTurn _ hg
    · exact ⟨openFill_hose_ne g _ s hg, fun k _ _ => openFill_fields g _ s k⟩

theorem dropLink_atItsTurn (s : State) (hg : f ≠ h) : AtItsTurn f s (dropLink h s) := by
  unfold dropLink
  split
  · split
    · exact grant_atItsTurn _ hg
    · exact refuseHose_atItsTurn _ hg
  all_goals exact .refl f s

/-- R67: a hose on an entry has left AWAITING after its turn. -/
theorem dropLink_leaves_wait (hw : (s.hose h).state = .awaiting k id) (hm : s.machine k = some m) :
    ((dropLink h s).hose h).state.isAwaiting = false := by
  cases ho : m.fields.offline with
  | false =>
    rw [dropLink_noLink hw hm ho, refuseHose_state]
    rfl
  | true =>
    rw [dropLink_grants hw hm ho]
    cases hr : grantRefusal ⟨h, k, some id, none, true⟩ m s with
    | some r =>
      rw [grant_refuses (g := ⟨h, k, some id, none, true⟩) hm hr, refuseHose_state]
      rfl
    | none =>
      rw [grant_opens (g := ⟨h, k, some id, none, true⟩) hm hr]
      exact openFill_leaves_wait ⟨h, k, some id, none, true⟩ m s

/-- R191: the drop of the link reaches several hoses, one after the other. -/
abbrev dropLinks (hs : List Hose) (s : State) : State := hs.foldl (fun s h => dropLink h s) s

theorem dropLinks_touches (hs : List Hose) (s : State) : OnlyIn grantParts s (dropLinks hs s) := by
  induction hs generalizing s with
  | nil => exact .refl _ s
  | cons h hs ih => exact (dropLink_touches h s).trans (ih _)

theorem dropLinks_atItsTurn (s : State) (hf : f ∉ hs) : AtItsTurn f s (dropLinks hs s) := by
  induction hs generalizing s with
  | nil => exact .refl f s
  | cons h hs ih =>
    obtain ⟨hne, hf⟩ := not_or.mp (mt List.mem_cons.mpr hf)
    exact (dropLink_atItsTurn s hne).trans (ih (dropLink h s) hf)

/-- R191: each hose is reached once, as it stands at its turn. -/
theorem dropLinks_at (hn : hs.Nodup) (hf : f ∈ hs) (s : State) :
    ∃ u, AtItsTurn f s u ∧ (dropLinks hs s).hose f = (dropLink f u).hose f := by
  induction hs generalizing s with
  | nil => cases hf
  | cons h hs ih =>
    obtain ⟨hnot, hn⟩ := List.nodup_cons.mp hn
    by_cases he : f = h
    · subst he
      exact ⟨s, .refl f s, (dropLinks_atItsTurn _ hnot).hose⟩
    · obtain ⟨u, turn, hu⟩ := ih hn ((List.mem_cons.mp hf).resolve_left he) (dropLink h s)
      exact ⟨u, (dropLink_atItsTurn s he).trans turn, hu⟩

theorem dropLinks_of_none (hw : ∀ f ∈ hs, (s.hose f).state.isAwaiting = false) : dropLinks hs s = s := by
  induction hs with
  | nil => rfl
  | cons h hs ih =>
    rw [dropLinks, List.foldl_cons, dropLink_of_not (hw h (.head _))]
    exact ih fun f hf => hw f (.tail _ hf)

/-- R67: where one hose alone can be in AWAITING, the drop of the link is the drop at that hose. -/
theorem dropLinks_of_one (hn : hs.Nodup) (hf : f ∈ hs) (hw : ∀ g, g ≠ f → (s.hose g).state.isAwaiting = false) :
    dropLinks hs s = dropLink f s := by
  induction hs with
  | nil => cases hf
  | cons h hs ih =>
    obtain ⟨hnot, hn⟩ := List.nodup_cons.mp hn
    by_cases he : f = h
    · subst he
      refine dropLinks_of_none (hs := hs) (s := dropLink f s) fun g hg => ?_
      have hne : g ≠ f := fun e => hnot (e ▸ hg)
      rw [(dropLink_atItsTurn s hne).hose]
      exact hw g hne
    · rw [dropLinks, List.foldl_cons, dropLink_of_not (hw h (Ne.symm he))]
      exact ih hn ((List.mem_cons.mp hf).resolve_left he)

/-! ## The obligation -/

/-- R191: the link goes OFFLINE and the watchdog stops. -/
def linkLost (s : State) : State := s.setLink { s.link with online := false, watchdog := .stopped }

theorem exec_watchdogExpiry {n : Nat} (hp : s.power = .on) (hn : s.link.watchdog = .running n) (order : HoseOrder) :
    exec (.watchdogExpiry order) s = .next (dropLinks (hosesInOrder order) (linkLost s)) :=
  congrArg Host.Outcome.next (if_pos (by simp [live_of_on hp, hn, Watchdog.isRunning]))

theorem mem_hosesInOrder (order : HoseOrder) (h : Hose) : h ∈ hosesInOrder order := by
  cases order <;> cases h <;> decide

theorem hosesInOrder_nodup (order : HoseOrder) : (hosesInOrder order).Nodup := by
  cases order <;> decide

/-- R67: what becomes of a hose on an entry, whatever the other hoses do. -/
theorem dropLinks_of_awaiting (hn : hs.Nodup) (hf : f ∈ hs) (hw : (s.hose f).state = .awaiting k id)
    (hm : s.machine k = some m) : ((dropLinks hs s).hose f).state.isAwaiting = false ∧
      (m.fields.offline = false → (dropLinks hs s).hose f = { s.hose f with
        state := .refused .noLink, identify := .stopped, approval := .stopped }) := by
  obtain ⟨u, turn, he⟩ := dropLinks_at hn hf s
  have waits : (u.hose f).state = .awaiting k id := by rw [turn.hose]; exact hw
  obtain ⟨x, hx, hfields⟩ : ∃ x, u.machine k = some x ∧ x.fields = m.fields := by
    have fields := turn.fields k id hw
    rw [hm] at fields
    exact Option.map_eq_some_iff.mp fields
  rw [he]
  refine ⟨dropLink_leaves_wait waits hx, fun ho => ?_⟩
  rw [dropLink_noLink waits hx (by rw [hfields]; exact ho), (refuseHose_refuses f .noLink u).1, turn.hose]

/-- Settles O28: the hoses are taken one after the other, and what each finds at its turn is `AtItsTurn`. -/
theorem watchdogDropsTheLink : Obligations.WatchdogDropsTheLink := by
  unfold Obligations.WatchdogDropsTheLink
  intro order n s hp hn
  have all := mem_hosesInOrder order
  have once := hosesInOrder_nodup order
  refine ⟨_, exec_watchdogExpiry hp hn order, dropLinks_touches _ (linkLost s) .link (by decide),
    fun x y z hxyz => ?_, all, fun hw => ?_, fun h hw => ?_, fun h k id m hw hm => ?_⟩
  · rw [hxyz]
    exact ⟨_, _, dropLink_dropped x _, dropLink_dropped y _, dropLink_dropped z _⟩
  · rw [dropLinks_of_none (s := linkLost s) fun h _ => hw h]
    exact only_setLink _ s
  · obtain ⟨u, turn, he⟩ := dropLinks_at once (all h) (linkLost s)
    have rests : (u.hose h).state.isAwaiting = false := by rw [turn.hose]; exact hw
    rw [he, dropLink_of_not rests, turn.hose]
    rfl
  · obtain ⟨leaves, refused⟩ := dropLinks_of_awaiting (s := linkLost s) once (all h) hw hm
    refine ⟨leaves, refused, fun alone => ?_⟩
    rw [dropLinks_of_one (s := linkLost s) once (all h) alone]
    obtain ⟨-, drops⟩ := dropLink_dropped h (linkLost s)
    obtain ⟨barred, permitted⟩ := drops k id m hw hm
    exact ⟨fun ho => (barred ho).1, fun ho hr hl => ((permitted ho).2 hr hl).1⟩

end Sys2Proof.Machine
end

section
/-! PROOF. NOZZLE LIFT (R58, R178, R182): a lift ends a park, and begins the identification at a hose in IDLE. -/

namespace Sys2Proof.Machine

variable {s t : State} {f h : Hose} {c e : Comp} {r : Reason} {o : ParkOutcome}

/-! ## The end of a park (R123, R178, R182) -/

theorem withdraw_unit_ne (k : Requester) (s : State) (he : e ≠ c) : (withdraw c k s).unit e = s.unit e := by
  unfold withdraw
  split
  · rfl
  all_goals exact State.unit_putUnit_ne _ _ he

/-- R123: a requester that withdraws leaves the list of the run. -/
theorem withdraw_requesters (c : Comp) (k : Requester) (s : State) :
    ((withdraw c k s).unit c).run.requesters = (s.unit c).run.requesters.erase k := by
  have left (l : List Requester) (x : Run) (hx : x.requesters = l) :
      (if l = [] then .idle else x : Run).requesters = l := by
    split
    · exact Eq.symm ‹_›
    · exact hx
  cases hr : (s.unit c).run with
  | idle =>
    simp only [withdraw, hr]
    rfl
  | pending reqs =>
    simp only [withdraw, hr, setRun, State.unit_putUnit]
    exact left _ _ rfl
  | sampling reqs w n sum =>
    simp only [withdraw, hr, setRun, State.unit_putUnit]
    exact left _ _ rfl

/-- R178: a compartment whose baseline is awaited loses the request for it; otherwise nothing changes. -/
theorem withdrawBaseline_requesters (c e : Comp) (s : State) : ((withdrawBaseline c s).unit e).run.requesters =
    if e = c ∧ s.park.awaited.get c then (s.unit e).run.requesters.erase .parkBaseline
    else (s.unit e).run.requesters := by
  unfold withdrawBaseline
  by_cases ha : s.park.awaited.get c = true
  · rw [if_pos ha]
    change ((withdraw c .parkBaseline s).unit e).run.requesters = _
    by_cases he : e = c
    · subst he
      rw [if_pos ⟨rfl, ha⟩, withdraw_requesters]
    · rw [if_neg fun x => he x.1, withdraw_unit_ne _ _ he]
  · rw [if_neg ha, if_neg fun x => ha x.2]

/-- R178: no result of a baseline that is withdrawn waits any longer. -/
theorem withdrawBaseline_handed (c : Comp) (s : State) : (withdrawBaseline c s).handed =
    s.handed.filter fun e => !(s.park.awaited.get c && e.isResult c .parkBaseline) := by
  unfold withdrawBaseline
  cases ha : s.park.awaited.get c with
  | true =>
    simp only [if_true, Bool.true_and]
    exact cancelRequest_handed c .parkBaseline s
  | false => simp

/-- R178: PARKING is cancelled. -/
theorem cancelPark_cancels (o : ParkOutcome) (s : State) : ParkCancelled o s (cancelPark o s) := by
  have first := withdrawBaseline_touches .c1 s .park (by decide)
  have both : (withdrawBaseline .c2 (withdrawBaseline .c1 s)).park = s.park :=
    (withdrawBaseline_touches .c2 _ .park (by decide)).trans first
  refine ⟨?_, fun c => ?_, ?_⟩
  · change { (withdrawBaseline .c2 (withdrawBaseline .c1 s)).park with
      state := .active, awaited := .all false, outcome := some o } = _
    rw [both]
    rfl
  · change ((withdrawBaseline .c2 (withdrawBaseline .c1 s)).unit c).run.requesters = _
    rw [withdrawBaseline_requesters, withdrawBaseline_requesters, first]
    cases c <;> simp
  · change (withdrawBaseline .c2 (withdrawBaseline .c1 s)).handed = _
    rw [withdrawBaseline_handed, withdrawBaseline_handed, first, List.filter_filter]
    congr 1
    funext e
    exact Bool.and_comm _ _

theorem disturbPark_active {a b : ParkOutcome} (hp : s.park.state = .active) : disturbPark a b s = s := by
  simp only [disturbPark, hp]

theorem disturbPark_parking {a b : ParkOutcome} (hp : s.park.state = .parking) :
    disturbPark a b s = cancelPark a s := by
  simp only [disturbPark, hp]

theorem disturbPark_parked {a b : ParkOutcome} (hp : s.park.state = .parked ∨ s.park.state = .waking) :
    disturbPark a b s = wake b s := by
  obtain hp | hp := hp <;> simp only [disturbPark, hp]

/-- R178, R182: whatever the park was, a lift or the emergency stop leaves it ACTIVE. -/
theorem disturbPark_state (a b : ParkOutcome) (s : State) : (disturbPark a b s).park.state = .active := by
  cases hp : s.park.state with
  | active => rw [disturbPark_active hp, hp]
  | parking => rw [disturbPark_parking hp]; rfl
  | parked => rw [disturbPark_parked (.inl hp)]; rfl
  | waking => rw [disturbPark_parked (.inr hp)]; rfl

/-- R178, R182: the results handed over stand but for a park that is cancelled. -/
theorem disturbPark_handed {a b : ParkOutcome} (hp : s.park.state ≠ .parking) :
    (disturbPark a b s).handed = s.handed := by
  cases hc : s.park.state with
  | active => rw [disturbPark_active hc]
  | parking => exact absurd hc hp
  | parked => rw [disturbPark_parked (.inl hc)]; rfl
  | waking => rw [disturbPark_parked (.inr hc)]; rfl

/-! ## The lift at a hose (R58) -/

theorem siteCondition_congr (he : t.inputs.emergency = s.inputs.emergency) (hg : t.guard = s.guard)
    (hd : t.store.delivery = s.store.delivery) (hc : t.store.comps = s.store.comps) (hp : t.pumps = s.pumps)
    (h : Hose) : siteCondition h t = siteCondition h s := by
  simp only [siteCondition, State.comp, State.pump, he, hg, hd, hc, hp]

theorem liftHose_of_not (hs : (s.hose h).state ≠ .idle) : liftHose h s = s := by
  cases hc : (s.hose h).state with
  | idle => exact absurd hc hs
  | _ => simp only [liftHose, hc]

theorem liftHose_refused (hs : (s.hose h).state = .idle) (hc : siteCondition h s = some r) :
    liftHose h s = moveHose h (.refused r) s := by
  simp only [liftHose, hs, hc]

/-- The state of a lifted hose that identifies, before its channel searches. -/
def lifted (h : Hose) (s : State) : State :=
  s.putHose h { s.hose h with state := .identifying, identify := .running (s.config h).identifyTime }

theorem liftHose_identifies (hs : (s.hose h).state = .idle) (hc : siteCondition h s = none) :
    liftHose h s = channelOn h (lifted h s) := by
  simp only [liftHose, hs, hc]
  rfl

theorem liftHose_touches (h : Hose) (s : State) : OnlyIn [.hoses, .channels] s (liftHose h s) := by
  by_cases hs : (s.hose h).state = .idle
  · cases hc : siteCondition h s with
    | some r =>
      rw [liftHose_refused hs hc]
      exact (moveHose_touches _ _ s).mono (by decide)
    | none =>
      rw [liftHose_identifies hs hc]
      exact ((only_setHoses _ s).mono (by decide)).then (channelOn_touches _ _) (by decide)
  · rw [liftHose_of_not hs]
    exact .refl _ s

theorem liftHose_others (h : Hose) (s : State) : OtherHoses h s (liftHose h s) ∧ OtherChannels h s (liftHose h s) := by
  by_cases hs : (s.hose h).state = .idle
  · cases hc : siteCondition h s with
    | some r =>
      rw [liftHose_refused hs hc]
      exact ⟨fun _ hg => State.hose_putHose_ne _ _ hg, fun _ _ => rfl⟩
    | none =>
      rw [liftHose_identifies hs hc]
      exact ⟨fun _ hg => State.hose_putHose_ne _ _ hg, fun _ hg => PerHose.get_set_ne _ _ hg⟩
  · rw [liftHose_of_not hs]
    exact ⟨fun _ _ => rfl, fun _ _ => rfl⟩

/-- R59: a lift that a site condition refuses. -/
theorem moveHose_refuses (h : Hose) (r : Reason) (s : State) : HoseRefused h r s (moveHose h (.refused r) s) :=
  ⟨State.hose_putHose _ _, fun _ hg => State.hose_putHose_ne _ _ hg⟩

/-- The state in which a lift reaches its hose: the level is taken, and a park has ended. -/
def liftTaken (h : Hose) (s : State) : State := disturbPark .cancelled .lift (setLifted h true s)

theorem exec_nozzleLift (hp : s.power = .on) (hl : s.inputs.lifted.get h = false) :
    exec (.nozzleLift h) s = .next (liftHose h (liftTaken h s)) :=
  congrArg Host.Outcome.next ((if_neg (by simp [hl])).trans (if_pos (live_of_on hp)))

theorem liftTaken_touches (h : Hose) (s : State) : OnlyIn [.inputs, .park, .units, .handed] s (liftTaken h s) :=
  ((setLifted_touches h true s).mono (by decide)).then (disturbPark_touches _ _ _) (by decide)

theorem liftTaken_inputs (h : Hose) (s : State) :
    (liftTaken h s).inputs = { s.inputs with lifted := s.inputs.lifted.set h true } :=
  disturbPark_touches _ _ _ .inputs (by decide)

/-- Settles O22: the lift is `liftTaken` followed by `liftHose`, and the order of the conditions is the chain of
`siteCondition_emergency` to `siteCondition_clear`. -/
theorem liftStartsIdentification : Obligations.LiftStartsIdentification := by
  unfold Obligations.LiftStartsIdentification
  refine ⟨fun h s hp hl => ?_, fun h s => ⟨siteCondition_emergency, fun he => ⟨siteCondition_metrology he, fun hf =>
    ⟨siteCondition_delivery he hf, fun hd => ⟨siteCondition_inhibited he hf hd, fun hi =>
      ⟨fun _ => siteCondition_resting he hf hd hi, siteCondition_clear he hf hd hi⟩⟩⟩⟩⟩⟩
  have taken := liftTaken_touches h s
  have lifts := liftHose_touches h (liftTaken h s)
  obtain ⟨hoses, channels⟩ := liftHose_others h (liftTaken h s)
  have park := lifts .park (by decide)
  have handed := lifts .handed (by decide)
  have units := lifts .units (by decide)
  have condition : siteCondition h (liftTaken h s) = siteCondition h s :=
    siteCondition_congr (by rw [liftTaken_inputs]) (taken .guard (by decide))
      (taken .delivery (by decide)) (taken .comps (by decide)) (taken .pumps (by decide)) h
  refine ⟨_, exec_nozzleLift hp hl, (taken.mono (by decide)).then lifts (by decide),
    (lifts .inputs (by decide)).trans (liftTaken_inputs h s), fun g hg => (hoses g hg).trans (taken.hose g),
    fun g hg => (channels g hg).trans (congrArg (PerHose.get · g) (taken .channels (by decide))),
    ?_, fun ha => ?_, fun ha => ?_, fun ha => ?_, fun ha => ?_, fun hs => ?_, fun hs => ⟨fun r hc => ?_, fun hc => ?_⟩⟩
  · rw [park]
    exact disturbPark_state _ _ _
  · have stands : liftTaken h s = setLifted h true s := disturbPark_active (s := setLifted h true s) ha
    rw [park, units, stands]
    exact ⟨rfl, rfl⟩
  · have cancels : liftTaken h s = cancelPark .cancelled (setLifted h true s) :=
      disturbPark_parking (s := setLifted h true s) ha
    obtain ⟨p, q, x⟩ := cancelPark_cancels .cancelled (setLifted h true s)
    rw [← cancels] at p q x
    exact ⟨park.trans p, fun c => by rw [lifts.unit]; exact q c, handed.trans x⟩
  · exact handed.trans (disturbPark_handed (s := setLifted h true s) ha)
  · have wakes : liftTaken h s = wake .lift (setLifted h true s) :=
      disturbPark_parked (s := setLifted h true s) ha
    rw [park, wakes]
    rfl
  · have stands : liftHose h (liftTaken h s) = liftTaken h s :=
      liftHose_of_not (by rw [taken.hose]; exact hs)
    rw [stands]
    exact ⟨taken .hoses (by decide), taken .channels (by decide)⟩
  · rw [liftHose_refused (by rw [taken.hose]; exact hs) (condition.trans hc)]
    obtain ⟨own, others⟩ := moveHose_refuses h r (liftTaken h s)
    exact ⟨⟨by rw [own, taken.hose], fun g hg => (others g hg).trans (taken.hose g)⟩, taken .channels (by decide)⟩
  · rw [liftHose_identifies (by rw [taken.hose]; exact hs) (condition.trans hc)]
    have config : (liftTaken h s).config h = s.config h := congrArg (PerHose.get · h) (taken .hoseConfigs (by decide))
    have channel : (liftTaken h s).channel h = s.channel h := congrArg (PerHose.get · h) (taken .channels (by decide))
    constructor
    · rw [(channelOn_touches _ _).hose, lifted, State.hose_putHose, taken.hose, config]
    · rw [← channel]
      exact PerHose.get_set_self _ _ _

end Sys2Proof.Machine
end

section
/-! PROOF. A request of the line (R186 to R189) for any relation between states that a change of the link and the park
meets: it holds over the whole request where it holds over what the owner of the request does. Then the frame of each
owner that a law of the hoses and the deliveries does not feel. -/

namespace Sys2Proof.Machine

variable {R Q : State → State → Prop} {s : State} {o o' : Owned} {r : RefusalCode} {fields : List Field}

/-! ## A request and its owner (R187) -/

/-- A relation that composes and that every change of the link and the park meets. -/
structure Carries (R : State → State → Prop) : Prop where
  trans : ∀ {s t u}, R s t → R t u → R s u
  frame : ∀ {s t}, OnlyIn [.link, .park] s t → R s t

/-- An owner that accepts a request does it within a relation. -/
inductive Takes (R : State → State → Prop) (s : State) : Owned → Prop
  | error {r : RefusalCode} : Takes R s (.error r)
  | ok {t : State} {fields : List Field} (k : R s t) : Takes R s (.ok (t, fields))

theorem Takes.mono (h : Takes R s o) (sub : ∀ t, R s t → Q s t) : Takes Q s o := by
  cases h with
  | error => exact .error
  | ok k => exact .ok (sub _ k)

theorem Takes.ite {p : Prop} [Decidable p] (a : p → Takes R s o) (b : ¬ p → Takes R s o') :
    Takes R s (if p then o else o') := by
  split
  · exact a ‹_›
  · exact b ‹_›

/-- R189: a long answer leaves what its state leaves. -/
theorem Takes.long (x : Except RefusalCode (List Field)) (k : R s t) : Takes R s (x.map fun fs => (t, fs)) := by
  cases x with
  | error r => exact .error
  | ok fs => exact .ok k

/-- A request that reads the state leaves it. -/
theorem Takes.read : Takes (OnlyIn []) s (.ok (s, fields)) := .ok (.refl _ s)

/-- R189: a part of a long request changes the link alone. -/
theorem handlePart_touches (tag : SeqTag) (code part : Septet) (fragment : List Septet) (s : State) :
    OnlyIn [.link] s (handlePart tag code part fragment s) := by
  unfold handlePart
  split
  · exact ((only_setLink _ s).trans (only_setLink _ _)).trans (only_setLink _ _)
  · exact (only_setLink _ s).trans (only_setLink _ _)

section Carried

variable (hR : Carries R)

include hR

theorem Carries.refl (s : State) : R s s := hR.frame (.refl _ s)

theorem Carries.link (v : Link) (s : State) : R s (s.setLink v) := hR.frame ((only_setLink v s).mono (by decide))

/-- R186, R187: a frame, by what its handler does. -/
theorem Carries.takeFrame {tag : SeqTag} {code : Septet} {handle : State → State} (hh : ∀ u, R u (handle u)) :
    R s (takeFrame tag code handle s) := by
  have good : R s (goodFrame s) := hR.trans (hR.link _ s) (hR.link _ _)
  have waking : R s (beginWaking (goodFrame s)) := hR.trans good (hR.frame ((only_setPark _ _).mono (by decide)))
  have woken : R s (wake .frame (goodFrame s)) := hR.trans good (hR.frame ((wake_touches _ _).mono (by decide)))
  have overlap : R s (overlapFrame s) := hR.trans (hR.link _ s) (hR.link _ _)
  unfold Machine.takeFrame
  split
  · exact hR.refl s
  · exact overlap
  · split
    · exact overlap
    · split
      · exact hR.trans waking (hR.link _ _)
      · exact hR.trans (hR.trans woken (hR.link _ _)) (hh _)
      all_goals exact hR.trans (hR.trans good (hR.link _ _)) (hh _)

variable {α : Type} {tag : SeqTag} {parse : List Septet → Option α} {owner : α → State → Owned} {body : List Septet}

/-- R187 steps 5 and 6: a request that reaches its handler, by what its owner does. -/
theorem Carries.handleRequest {code : Septet} (ho : ∀ a, Takes R s (owner a s)) :
    R s (handleRequest tag code parse body owner s) := by
  unfold Machine.handleRequest
  split
  · exact hR.trans (hR.link _ s) (hR.link _ _)
  · rename_i a _
    split
    · exact hR.link _ s
    · rename_i hu
      obtain - | k := hu ▸ ho a
      exact hR.trans k (hR.link _ _)

theorem Carries.takeRequest {code : Nat} (ho : ∀ a u, Takes R u (owner a u)) :
    R s (takeRequest tag code parse body owner s) :=
  hR.takeFrame fun u => hR.handleRequest fun a => ho a u

theorem Carries.handleLast {code : Septet} (ho : ∀ a u, Takes R u (owner a u)) :
    R s (handleLast tag code parse body owner s) := by
  unfold Machine.handleLast
  split
  · split
    · exact hR.link _ s
    · split
      · exact hR.frame ((handlePart_touches _ _ _ _ s).mono (by decide))
      · split
        · exact hR.trans (hR.trans (hR.link _ s) (hR.link _ _)) (hR.link _ _)
        · exact hR.trans (hR.link _ s) (hR.handleRequest fun a => ho a _)
  all_goals exact hR.trans (hR.link _ s) (hR.link _ _)

end Carried
end Sys2Proof.Machine
end

section
/-! PROOF. The frame of each owner of a request (R187) that changes no hose and no delivery: the parts in which the
state that it leaves can differ. -/

namespace Sys2Proof.Machine



/-! ## The site link, the registry and the accounts (R190 to R197, R47 to R55) -/

theorem ownSettingsWrite_frame (o : SiteOperands) (s : State) :
    Takes (OnlyIn [.site, .link]) s (ownSettingsWrite o s) :=
  .ite (fun _ => .ok (((only_setSite _ s).mono (by decide)).trans (.ite ((only_setLink _ _).mono (by decide))
    (.refl _ _)))) fun _ => .error

theorem ownMachineRead_frame (o : Nat × Option Nat) (s : State) : Takes (OnlyIn []) s (ownMachineRead o s) :=
  .ite (fun _ => .error) fun _ => .long _ (.refl _ s)

theorem ownMachineWrite_frame (o : MachineOperands) (s : State) :
    Takes (OnlyIn [.machines, .queue]) s (ownMachineWrite o s) :=
  .ite (fun _ => .error) fun _ => .ite (fun _ => .error) fun _ => .ite (fun _ => .error) fun _ =>
    .ite (fun _ => .error) fun _ => .ite (fun _ => .error) fun _ => .ok (writeOrQueue_touches _ s)

theorem ownMachineDelete_frame (k : Nat) (s : State) : Takes (OnlyIn [.machines, .queue]) s (ownMachineDelete k s) :=
  .ite (fun _ => .error) fun _ => .ite (fun _ => .error) fun _ => .ite (fun _ => .error) fun _ =>
    .ok (writeOrQueue_touches _ s)

theorem ownMachineFind_frame (n : Nat) (s : State) : Takes (OnlyIn []) s (ownMachineFind n s) := by
  refine .ite (fun _ => .error) fun _ => ?_
  split
  · exact .read
  · split
    · exact .read
    · exact .error

theorem ownMachineList_frame (k : Nat) (s : State) : Takes (OnlyIn []) s (ownMachineList k s) :=
  .ite (fun _ => .error) fun _ => .read

theorem ownAccountRead_frame (k : Nat) (s : State) : Takes (OnlyIn []) s (ownAccountRead k s) :=
  .ite (fun _ => .error) fun _ => .read

theorem ownAccountWrite_frame (o : AccountOperands) (s : State) : Takes (OnlyIn [.accounts]) s (ownAccountWrite o s) :=
  .ite (fun _ => .error) fun _ => .ok (only_setAccounts _ s)

theorem ownAccountDelete_frame (k : Nat) (s : State) : Takes (OnlyIn [.accounts]) s (ownAccountDelete k s) := by
  refine .ite (fun _ => .error) fun _ => ?_
  split
  · exact .error
  · exact .ite (fun _ => .error) fun _ => .ite (fun _ => .error) fun _ => .ok (only_setAccounts _ s)

/-! ## One hose or one compartment (R35, R100, R106, R112, R119, R120, R123, R130 to R132) -/

theorem ownTagChannelRead_frame (n : Nat) (s : State) : Takes (OnlyIn []) s (ownTagChannelRead n s) := by
  unfold ownTagChannelRead
  split
  · exact .error
  · exact .read

theorem ownHoseSettingsRead_frame (n : Nat) (s : State) : Takes (OnlyIn []) s (ownHoseSettingsRead n s) := by
  unfold ownHoseSettingsRead
  split
  · exact .error
  · exact .read

theorem ownHoseSettingsWrite_frame (o : HoseOperands) (s : State) :
    Takes (OnlyIn [.hoseConfigs]) s (ownHoseSettingsWrite o s) := by
  unfold ownHoseSettingsWrite
  split
  · exact .error
  · exact .ite (fun _ => .error) fun _ => .ite (fun _ => .error) fun _ => .ok (only_setHoseConfigs _ s)

theorem ownPumpSettingsRead_frame (n : Nat) (s : State) : Takes (OnlyIn []) s (ownPumpSettingsRead n s) := by
  unfold ownPumpSettingsRead
  split
  · exact .error
  · exact .read

theorem ownPumpSettingsWrite_frame (o : Nat × Nat × Nat) (s : State) :
    Takes (OnlyIn [.pumpConfigs]) s (ownPumpSettingsWrite o s) := by
  unfold ownPumpSettingsWrite
  split
  · exact .error
  · exact .ite (fun _ => .error) fun _ => .ite (fun _ => .error) fun _ => .ok (only_setPumpConfigs _ s)

theorem ownInhibitClear_frame (n : Nat) (s : State) : Takes (OnlyIn [.comps, .pumps]) s (ownInhibitClear n s) := by
  unfold ownInhibitClear
  split
  · exact .error
  · exact .ite (fun _ => .error) fun _ => .ite (fun _ => .error) fun _ =>
      .ok (((only_setComps _ s).mono (by decide)).then (evalPump_touches _ _) (by decide))

theorem ownStockStatus_frame (n : Nat) (s : State) : Takes (OnlyIn []) s (ownStockStatus n s) := by
  unfold ownStockStatus
  split
  · exact .error
  · exact .read

theorem ownTankSetupRead_frame (n : Nat) (s : State) : Takes (OnlyIn []) s (ownTankSetupRead n s) := by
  unfold ownTankSetupRead
  split
  · exact .error
  · exact .read

theorem ownTankSetupWrite_frame (o : TankOperands) (s : State) :
    Takes (OnlyIn [.comps, .units, .alarms]) s (ownTankSetupWrite o s) := by
  unfold ownTankSetupWrite
  split
  · exact .error
  · exact .ite (fun _ => .error) fun _ => .ite (fun _ => .error) fun _ => .ite (fun _ => .error) fun _ =>
      .ok (((only_setComps _ s).mono (by decide)).then (watchStock_touches _ _) (by decide))

theorem ownStrappingRead_frame (o : Nat × Option Nat) (s : State) : Takes (OnlyIn []) s (ownStrappingRead o s) := by
  unfold ownStrappingRead
  split
  · exact .error
  · exact .long _ (.refl _ s)

theorem ownStrappingWrite_frame (o : Nat × List (Nat × Int)) (s : State) :
    Takes (OnlyIn [.comps]) s (ownStrappingWrite o s) := by
  unfold ownStrappingWrite
  split
  · exact .error
  · exact .ite (fun _ => .error) fun _ => .ite (fun _ => .error) fun _ => .ite (fun _ => .error) fun _ =>
      .ok ((only_setComps _ s).trans (setStale_touches _ _))

theorem ownGauge_frame (n : Nat) (s : State) : Takes (OnlyIn [.units]) s (ownGauge n s) := by
  unfold ownGauge
  split
  · exact .error
  · exact .ok (requestRun_touches _ _ s)

theorem ownGaugeRead_frame (n : Nat) (s : State) : Takes (OnlyIn []) s (ownGaugeRead n s) := by
  unfold ownGaugeRead
  split
  · exact .error
  · exact .read

theorem adjustBook_touches (c : Comp) (o : AdjustOperands) (after : Int) (s : State) :
    OnlyIn [.comps, .units, .log, .logWatch, .alarms] s (adjustBook c o after s) :=
  ((((takeCommitment_touches s).mono (by decide)).then (only_setComps _ _) (by decide)).then
    (writeRecord_touches _ _) (by decide)).then (afterBookChange_touches _ _) (by decide)

theorem ownBookAdjust_frame (o : AdjustOperands) (s : State) :
    Takes (OnlyIn [.comps, .units, .log, .logWatch, .alarms]) s (ownBookAdjust o s) := by
  unfold ownBookAdjust
  split
  · exact .error
  · refine .ite (fun _ => .error) fun _ => .ite (fun _ => .error) fun _ => .ite (fun _ => .error) fun _ =>
      .ite (fun _ => .error) fun _ => ?_
    split
    · exact .error
    · exact .ok (adjustBook_touches _ o _ s)

/-! ## The log, the shifts, the guard and the park (R154 to R163, R166 to R172, R176) -/

theorem ownLogRead_frame (part : Option Nat) (s : State) : Takes (OnlyIn [.log, .logWatch]) s (ownLogRead part s) := by
  unfold ownLogRead
  split
  · exact .error
  · unfold handOverRecord
    split
    · exact .long _ (((only_setLog _ s).mono (by decide)).then (only_setLogWatch _ _) (by decide))
    · exact .long _ ((only_setLogWatch _ s).mono (by decide))
  · unfold laterPart
    split
    · exact .error
    · exact .long _ (.refl _ s)

theorem ownLogConfirm_frame (n : Nat) (s : State) :
    Takes (OnlyIn [.log, .logWatch, .alarms]) s (ownLogConfirm n s) :=
  .ite (fun _ => .error) fun _ => .ite (fun _ => .error) fun _ =>
    .ok (((only_setLog _ s).mono (by decide)).then (watchLog_touches _) (by decide))

theorem ownLogRewind_frame (s : State) : Takes (OnlyIn [.log]) s (ownLogRewind () s) := .ok (only_setLog _ s)

theorem ownClockSet_frame (n : Nat) (s : State) : Takes (OnlyIn [.clock]) s (ownClockSet n s) :=
  .ite (fun _ => .error) fun _ => .ok (only_setClock _ s)

/-- The parts that the close of a shift can change. -/
abbrev shiftParts : List Part := [.log, .logWatch, .alarms, .machines, .accounts, .comps, .shift]

theorem closeShift_touches (s : State) : OnlyIn shiftParts s (closeShift s) :=
  ((((((takeCommitment_touches s).mono (by decide)).then (writeRecord_touches _ _) (by decide)).then
    (only_setMachines _ _) (by decide)).then (only_setAccounts _ _) (by decide)).then
    (only_setComps _ _) (by decide)).then (only_setShift _ _) (by decide)

theorem ownShiftClose_frame (s : State) : Takes (OnlyIn shiftParts) s (ownShiftClose () s) :=
  .ite (fun _ => .error) fun _ => .ite (fun _ => .error) fun _ => .ok (closeShift_touches s)

theorem ownShiftTotals_frame (k : Nat) (s : State) : Takes (OnlyIn []) s (ownShiftTotals k s) := by
  refine .ite (fun _ => .error) fun _ => ?_
  split
  · exact .error
  · exact .read

theorem ownCalRead_frame (n : Nat) (s : State) : Takes (OnlyIn []) s (ownCalRead n s) := by
  unfold ownCalRead
  split
  · exact .error
  · exact .read

theorem ownCalOpen_frame (s : State) : Takes (OnlyIn [.guard]) s (ownCalOpen () s) :=
  .ite (fun _ => .error) fun _ => .ok (only_setGuard _ s)

theorem ownCalClose_frame (s : State) : Takes (OnlyIn [.guard]) s (ownCalClose () s) :=
  .ite (fun _ => .error) fun _ => .ok (only_setGuard _ s)

theorem writeItem_touches (item : CalItem) (v : CalValue) (s : State) :
    OnlyIn [.cal, .guard, .comps] s (writeItem item v s) := by
  have base : OnlyIn [.cal, .guard, .comps] s ((s.setCal (s.store.cal.write item v s.now)).setGuard
      { s.guard with fault := false, window := .running Config.windowTime }) :=
    ((only_setCal _ s).mono (by decide)).then (only_setGuard _ _) (by decide)
  cases item with
  | alpha c => exact base.then (setStale_touches c _) (by decide)
  | meter | offset => exact base

theorem ownCalWrite_frame (o : Option (CalItem × CalValue)) (s : State) :
    Takes (OnlyIn [.cal, .guard, .comps]) s (ownCalWrite o s) := by
  obtain ⟨r, -, he⟩ | ⟨-, -, he⟩ | ⟨item, v, -, -, ⟨-, he⟩ | ⟨-, -, he⟩ | ⟨-, -, fields, he⟩⟩ :=
    ownCalWrite_cases o s <;> rw [he]
  case inr.inr.inr.inr => exact .ok (writeItem_touches item v s)
  all_goals exact .error

theorem ownAuditRead_frame (n : Nat) (s : State) : Takes (OnlyIn []) s (ownAuditRead n s) := by
  refine .ite (fun _ => .error) fun _ => ?_
  split
  · exact .error
  · exact .read

theorem ownPark_frame (s : State) : Takes (OnlyIn [.park, .units]) s (ownPark () s) :=
  .ite (fun _ => .error) fun _ => .ite (fun _ => .error) fun _ => .ok (beginPark_touches s)

end Sys2Proof.Machine
end

section
/-! PROOF. The laws of the valves and the deliveries (O50) as laws that one change of the state keeps, and the changes
of the hoses (R58, R59, R78, R85, R88, R92, R134). -/

namespace Sys2Proof.Machine

variable {s t u : State} {g h : Hose} {c : Comp} {k : Nat} {id : TagId} {m : MachineEntry} {ps : List Part}
  {cause : StopCause} {r : Reason}

/-! ## What it means to keep the laws -/

/-- The laws of the valves and the deliveries hold after a change where they held before. -/
structure Secures (s t : State) : Prop where
  valve : ValveLaw s → ValveLaw t
  inlet : InletLaw s → InletLaw t
  delivery : DeliveryLaw s → DeliveryLaw t

theorem Secures.refl (s : State) : Secures s s := ⟨id, id, id⟩

theorem Secures.trans (a : Secures s t) (b : Secures t u) : Secures s u :=
  ⟨fun l => b.valve (a.valve l), fun l => b.inlet (a.inlet l), fun l => b.delivery (a.delivery l)⟩

theorem Secures.ite {p : Prop} [Decidable p] (a : p → Secures s t) (b : ¬ p → Secures s u) :
    Secures s (if p then t else u) := by
  split
  · exact a ‹_›
  · exact b ‹_›

/-- The parts that the laws do not look at: neither the hoses, nor the delivery and its inlet, nor the power. -/
abbrev idleParts : List Part :=
  [.machines, .queue, .accounts, .hoseConfigs, .txs, .pumpConfigs, .comps, .selector, .log, .shift, .cal, .site,
    .clock, .channels, .meters, .sources, .pumps, .units, .logWatch, .guard, .park, .link, .alarms, .inputs, .handed,
    .draws, .pending, .line]

/-- A change of the hoses under which a hose becomes engaged only where no delivery into its compartment is open. -/
theorem Secures.of_engaging (ho : OnlyIn (.hoses :: idleParts) s t) (hv : ValveLaw s → ValveLaw t)
    (he : ∀ h, (t.hose h).state.stoppable = true →
      (s.hose h).state.stoppable = true ∨ s.store.delivery.map Delivery.comp ≠ some (compOf h)) : Secures s t := by
  have delivery : t.store.delivery = s.store.delivery := ho .delivery (by decide)
  refine ⟨hv, fun l => ?_, fun l hp h hd => ?_⟩
  · rw [InletLaw, delivery, ho .inlet (by decide)]
    exact l
  · rw [delivery] at hd
    rw [ho .power (by decide)] at hp
    by_contra hs
    have hs := he h (Bool.eq_true_of_not_eq_false hs)
    rw [l hp h hd] at hs
    rcases hs with hs | hs
    · cases hs
    · exact hs hd

/-- What a hose may become with a delivery open: its valve opens in FLOWING alone, and it is engaged only if it was. -/
structure HoseCtl.Eases (a b : HoseCtl) : Prop where
  valve : (a.valve ≠ .closed → a.state = .flowing) → b.valve ≠ .closed → b.state = .flowing
  engaged : b.state.stoppable = true → a.state.stoppable = true

theorem HoseCtl.Eases.refl (a : HoseCtl) : a.Eases a := ⟨id, id⟩

/-- A hose whose valve and state stand. -/
theorem HoseCtl.Eases.of_same {a b : HoseCtl} (hv : b.valve = a.valve) (hs : b.state = a.state) : a.Eases b :=
  ⟨by rw [hv, hs]; exact id, by rw [hs]; exact id⟩

/-- A hose with its valve shut. -/
theorem HoseCtl.Eases.of_shut {a b : HoseCtl} (hv : b.valve = .closed)
    (he : b.state.stoppable = true → a.state.stoppable = true) : a.Eases b :=
  ⟨fun _ hn => absurd hv hn, he⟩

/-- An engaged hose that flows. -/
theorem HoseCtl.Eases.of_flowing {a b : HoseCtl} (hs : b.state = .flowing) (he : a.state.stoppable = true) :
    a.Eases b :=
  ⟨fun _ _ => hs, fun _ => he⟩

/-- R78: a hose that does not flow takes another state, its valve as it was. -/
theorem HoseCtl.Eases.of_not_flowing {a b : HoseCtl} (hv : b.valve = a.valve) (hn : a.state ≠ .flowing)
    (he : b.state.stoppable = true → a.state.stoppable = true) : a.Eases b :=
  ⟨fun l ho => absurd (l (hv ▸ ho)) hn, he⟩

theorem Secures.of_hoses (ho : OnlyIn (.hoses :: idleParts) s t) (hh : ∀ h, (s.hose h).Eases (t.hose h)) :
    Secures s t :=
  .of_engaging ho (fun l h => (hh h).valve (l h)) fun h hs => .inl ((hh h).engaged hs)

theorem Secures.of_hose (ho : OnlyIn ps s t) (others : OtherHoses h s t) (own : (s.hose h).Eases (t.hose h))
    (hp : ps ⊆ .hoses :: idleParts := by decide) : Secures s t := by
  refine .of_hoses (ho.mono hp) fun g => ?_
  by_cases hg : g = h
  · subst hg
    exact own
  · rw [others g hg]
    exact .refl _

/-- A change within the parts that the laws do not look at. -/
theorem OnlyIn.secures (ho : OnlyIn ps s t) (hp : ps ⊆ idleParts := by decide) : Secures s t :=
  .of_hoses (ho.mono (List.subset_cons_of_subset _ hp)) fun h => by rw [(ho.mono hp).hose]; exact .refl _

theorem putHose_secures (x : HoseCtl) (hx : (s.hose h).Eases x) : Secures s (s.putHose h x) :=
  .of_hose (only_setHoses _ s) (fun _ hg => State.hose_putHose_ne _ _ hg) (by rw [State.hose_putHose]; exact hx)

/-! ## Hoses that wait (R59, R60, R64) -/

/-- A hose that does not flow and that takes a state in which it is not engaged. -/
theorem moveHose_secures {st : HoseState} (hn : (s.hose h).state ≠ .flowing) (hst : st.stoppable = false) :
    Secures s (moveHose h st s) :=
  putHose_secures _ (.of_not_flowing rfl hn fun he => absurd he (ne_true_of_eq_false hst))

theorem refuseHose_secures (hn : (s.hose h).state ≠ .flowing) (r : Reason) : Secures s (refuseHose h r s) :=
  (moveHose_secures hn rfl).trans (endAwaitHold_touches _ _).secures

theorem idleHose_secures (hn : (s.hose h).state ≠ .flowing) : Secures s (idleHose h s) :=
  (moveHose_secures hn rfl).trans (endAwaitHold_touches _ _).secures

theorem HoseState.not_flowing_of_awaiting {st : HoseState} (hw : st.isAwaiting = true) : st ≠ .flowing := by
  rintro rfl
  cases hw

/-! ## Stops and conditions (R59, R85, R88, R111, R174) -/

theorem HoseState.stoppable_of_stops {st : HoseState} (hs : st.stops) : st.stoppable = true := by
  rcases hs with rfl | rfl <;> rfl

/-- R85, R88: a stop event shuts the valve, and comes to nothing where no fill flows or is paused. -/
theorem stopFill_secures (h : Hose) (cause : StopCause) (s : State) : Secures s (stopFill h cause s) := by
  have stops (hs : (s.hose h).state.stops) : Secures s (stopFill h cause s) := by
    obtain ⟨own, -, -, others, -⟩ := stopFill_stops hs cause
    refine .of_hose (stopFill_touches h cause s) others ?_
    rw [own]
    exact .of_shut rfl fun _ => HoseState.stoppable_of_stops hs
  cases hs : (s.hose h).state with
  | flowing => exact stops (.inl hs)
  | paused => exact stops (.inr hs)
  | _ =>
    have same : stopFill h cause s = s := by simp only [stopFill, hs]
    rw [same]
    exact .refl s

theorem strike_secures (cause : StopCause) (r : Reason) (h : Hose) (s : State) : Secures s (strike cause r h s) := by
  cases hs : (s.hose h).state with
  | flowing => rw [strike_of_stops (.inl hs)]; exact stopFill_secures h cause s
  | paused => rw [strike_of_stops (.inr hs)]; exact stopFill_secures h cause s
  | identifying => rw [strike_of_waits (.inl hs)]; exact refuseHose_secures (by rw [hs]; nofun) r
  | awaiting => rw [strike_of_waits (.inr (by rw [hs]; rfl))]; exact refuseHose_secures (by rw [hs]; nofun) r
  | draining => rw [strike_of_else (.inl hs)]; exact .refl s
  | _ => rw [strike_of_else (.inr (by rw [hs]; rfl))]; exact .refl s

theorem strikeAll_secures (cause : StopCause) (r : Reason) (hs : List Hose) (s : State) :
    Secures s (strikeAll cause r hs s) :=
  strikeAll_keeps (P := Secures s) (fun h t ht => ht.trans (strike_secures cause r h t)) hs (.refl s)

theorem inhibit_secures (c : Comp) (k : InhibitCause) (s : State) : Secures s (inhibit c k s) := by
  by_cases hn : (s.comp c).inhibit = none
  · rw [inhibit_normal hn]
    exact ((markInhibited_touches c k s).secures.trans (strikeAll_secures _ _ _ _)).trans
      (evalRest_touches _ _).secures
  · rw [inhibit_again hn]
    exact .refl s

theorem integrityCheck_secures (s : State) : Secures s (integrityCheck s) := by
  have noted : OnlyIn [.guard, .alarms] s (raiseAlarm .metrologyFault (s.setGuard { s.guard with fault := true })) :=
    ((only_setGuard _ s).mono (by decide)).then (raiseAlarm_touches _ _) (by decide)
  exact .ite (fun _ => .refl s) fun _ => noted.secures.trans (strikeAll_secures _ _ _ _)

theorem guardPump_secures (c : Comp) (s : State) : Secures s (guardPump c s) :=
  (((only_setPumps _ s).secures.trans (strikeAll_secures _ _ _ _)).trans (raiseAlarm_touches _ _).secures).trans
    (evalRest_touches _ _).secures

/-! ## The stage, the pulses and the drain (R1, R79, R89 to R92, R109) -/

/-- R79: a stage is evaluated in FLOWING alone. -/
theorem evalStage_secures (hf : (s.hose h).state = .flowing) : Secures s (evalStage h s) := by
  unfold evalStage
  split
  · exact .refl s
  · exact .ite (fun _ => stopFill_secures h .limit s) fun _ =>
      putHose_secures _ (.of_flowing hf (by rw [hf]; rfl))

theorem overrun_secures (h : Hose) (s : State) : Secures s (overrun h s) :=
  ((((only_setTxs _ s).secures.trans (stopFill_secures h _ _)).trans (raiseAlarm_touches _ _).secures).trans
    (inhibit_secures _ _ _)).trans (only_setTxs _ _).secures

theorem pulseFlowing_secures (hf : (s.hose h).state = .flowing) : Secures s (pulseFlowing h s) := by
  have count := countHosePulse_touches h s
  have restart : Secures s (timed h (countHosePulse h s)) := count.secures.trans (putHose_secures _ (.of_same rfl rfl))
  have flows : ((timed h (countHosePulse h s)).hose h).state = .flowing := by
    rw [timed, State.hose_putHose, count.hose]
    exact hf
  change Secures s (if (((timed h (countHosePulse h s)).tx h).map newlyOverrun).getD false = true
    then overrun h (timed h (countHosePulse h s)) else evalStage h (timed h (countHosePulse h s)))
  exact .ite (fun _ => restart.trans (overrun_secures h _)) fun _ => restart.trans (evalStage_secures flows)

theorem pulseDraining_secures (h : Hose) (s : State) : Secures s (pulseDraining h s) := by
  have count := (countHosePulse_touches h s).secures
  have tested : Secures s (if (((countHosePulse h s).tx h).map newlyOverrun).getD false
      then overrun h (countHosePulse h s) else countHosePulse h s) :=
    .ite (fun _ => count.trans (overrun_secures h _)) fun _ => count
  exact tested.trans (putHose_secures _ (.of_same rfl rfl))

theorem strayPulse_secures (h : Hose) (s : State) : Secures s (strayPulse h s) := by
  rw [strayPulse_eq]
  exact (strayNoted_touches h s).secures.trans (inhibit_secures _ _ _)

theorem hosePulse_secures (h : Hose) (s : State) : Secures s (hosePulse h s) := by
  unfold hosePulse
  split
  · rename_i hf
    exact pulseFlowing_secures hf
  · exact pulseDraining_secures h s
  all_goals exact strayPulse_secures h s

/-- R92: a closed fill leaves its hose FINISHED or IDLE, with its valve shut. -/
theorem closeFill_secures (h : Hose) (s : State) : Secures s (closeFill h s) := by
  cases ht : s.tx h with
  | none =>
    have same : closeFill h s = s := by simp only [closeFill, ht]
    rw [same]
    exact .refl s
  | some tx =>
    obtain ⟨own, others⟩ := closeFill_hose ht
    refine .of_hose (closeFill_touches h s) others ?_
    rw [own]
    refine .of_shut rfl fun he => ?_
    have rests : (if s.inputs.lifted.get h then HoseState.finished else .idle).stoppable = false := by split <;> rfl
    exact absurd he (ne_true_of_eq_false rests)

theorem cutDrain_secures (h : Hose) (s : State) : Secures s (cutDrain h s) := by
  rw [cutDrain_eq]
  exact (cutNoted_touches h s).secures.trans (inhibit_secures _ _ _)

/-! ## The grant and the lookup (R61 to R68, R71 to R76) -/

/-- R75, R76: a hose that waits is engaged already when its fill opens. -/
theorem openFill_secures {g : GrantRequest} (he : (s.hose g.hose).state.stoppable = true) :
    Secures s (openFill g m s) := by
  have opens : Secures s (opened g.hose (newTransaction g m (limitOf g m s).toNat s) s) := by
    refine .of_hose (opened_only g.hose _ s) (fun _ hg => opened_hose_ne _ _ hg) ?_
    rw [opened_hose]
    exact .of_flowing rfl he
  rw [openFill_eq]
  exact (opens.trans (evalStage_secures (opened_state _ _ _))).trans (settle_touches _ _).secures

theorem grant_secures {g : GrantRequest} (he : (s.hose g.hose).state.stoppable = true)
    (hn : (s.hose g.hose).state ≠ .flowing) : Secures s (grant g s) := by
  unfold grant
  split
  · exact .refl s
  · split
    · exact refuseHose_secures hn _
    · exact openFill_secures he

theorem dropLink_secures (h : Hose) (s : State) : Secures s (dropLink h s) := by
  unfold dropLink
  split
  · rename_i hs
    have hn : (s.hose h).state ≠ .flowing := by rw [hs]; nofun
    exact .ite (fun _ => grant_secures (by rw [hs]; rfl) hn) fun _ => refuseHose_secures hn _
  all_goals exact .refl s

theorem dropLinks_secures (hs : List Hose) (s : State) : Secures s (dropLinks hs s) := by
  induction hs generalizing s with
  | nil => exact .refl s
  | cons h hs ih => exact (dropLink_secures h s).trans (ih _)

section Identifying

variable (hi : (s.hose h).state = .identifying)

include hi

theorem refuse_identifying_secures (r : Reason) : Secures s (refuseHose h r s) :=
  refuseHose_secures (by rw [hi]; nofun) r

theorem grant_identifying_secures (tag : Option TagId) (preset : Option Int) (offline : Bool) :
    Secures s (grant ⟨h, k, tag, preset, offline⟩ s) :=
  grant_secures (by rw [hi]; rfl) (by rw [hi]; nofun)

theorem enterAwaiting_secures : Secures s (enterAwaiting h k id s) :=
  putHose_secures _ (.of_not_flowing rfl (by rw [hi]; nofun) fun _ => by rw [hi]; rfl)

theorem identified_secures : Secures s (identified h k id m s) :=
  .ite (fun _ => .ite (fun _ => enterAwaiting_secures hi) fun _ => grant_identifying_secures hi _ _ _) fun _ =>
    .ite (fun _ => grant_identifying_secures hi _ _ _) fun _ => refuse_identifying_secures hi _

theorem lookup_secures (id : TagId) : Secures s (lookup h id s) := by
  unfold lookup
  split
  · exact refuse_identifying_secures hi _
  · split
    · exact refuse_identifying_secures hi _
    · unfold testEntry
      refine .ite (fun _ => refuse_identifying_secures hi _) fun _ => ?_
      split
      · exact refuse_identifying_secures hi _
      · exact identified_secures hi

theorem authorise_secures (preset : Option Int) : Secures s (authorise h k preset m s) := by
  unfold authorise
  refine .ite (fun _ => refuse_identifying_secures hi _) fun _ => ?_
  split
  · exact refuse_identifying_secures hi _
  · exact grant_identifying_secures hi _ _ _

end Identifying

/-! ## Nozzles and reports (R58, R60, R64, R70, R83 to R86, R94) -/

/-- R58: a hose without a site condition has no delivery into its compartment. -/
theorem no_delivery_of_siteCondition (hc : siteCondition h s = none) :
    s.store.delivery.map Delivery.comp ≠ some (compOf h) := by
  intro hd
  simp only [siteCondition, hd, if_true] at hc
  split at hc
  · cases hc
  · split at hc <;> cases hc

theorem lifted_secures (hs : (s.hose h).state = .idle) (hc : siteCondition h s = none) : Secures s (lifted h s) := by
  have own : (lifted h s).hose h =
      { s.hose h with state := .identifying, identify := .running (s.config h).identifyTime } := State.hose_putHose _ _
  have others : OtherHoses h s (lifted h s) := fun _ hg => State.hose_putHose_ne _ _ hg
  refine .of_engaging ((only_setHoses _ s).mono (by decide)) (fun l g => ?_) fun g he => ?_
  · by_cases hg : g = h
    · subst hg
      rw [own]
      exact fun hv => absurd (hs.symm.trans (l g hv)) nofun
    · rw [others g hg]
      exact l g
  · by_cases hg : g = h
    · subst hg
      exact .inr (no_delivery_of_siteCondition hc)
    · rw [others g hg] at he
      exact .inl he

theorem liftHose_secures (h : Hose) (s : State) : Secures s (liftHose h s) := by
  by_cases hs : (s.hose h).state = .idle
  · cases hc : siteCondition h s with
    | some r => rw [liftHose_refused hs hc]; exact moveHose_secures (by rw [hs]; nofun) rfl
    | none => rw [liftHose_identifies hs hc]; exact (lifted_secures hs hc).trans (channelOn_touches _ _).secures
  · rw [liftHose_of_not hs]
    exact .refl s

theorem hangHose_secures (h : Hose) (s : State) : Secures s (hangHose h s) := by
  have off (t : State) : Secures t (channelOff h t) := (channelOff_touches h t).secures
  unfold hangHose
  split
  · rename_i hs; exact (idleHose_secures (by rw [hs]; nofun)).trans (off _)
  · rename_i hs; exact (idleHose_secures (by rw [hs]; nofun)).trans (off _)
  · exact (stopFill_secures h _ s).trans (off _)
  · exact (stopFill_secures h _ s).trans (off _)
  · exact off s
  · rename_i hs; exact (moveHose_secures (by rw [hs]; nofun) rfl).trans (off _)
  · rename_i hs; exact (moveHose_secures (by rw [hs]; nofun) rfl).trans (off _)
  all_goals exact .refl s

theorem pauseFill_secures (hf : (s.hose h).state = .flowing) : Secures s (pauseFill h s) :=
  ((putHose_secures _ (.of_shut rfl fun _ => by rw [hf]; rfl)).trans (stopInterval_touches _ _).secures).trans
    (settle_touches _ _).secures

theorem resumed_state (h : Hose) (tx : Transaction) (s : State) : ((resumed h tx s).hose h).state = .flowing := by
  rw [resumed, (startInterval_touches _ _).hose, State.hose_putHose]

theorem resumeFill_secures (hs : (s.hose h).state = .paused) (tx : Transaction) : Secures s (resumeFill h tx s) := by
  have counted : Secures s (s.putTx h (some { tx with pauses := bump 255 tx.pauses })) := (only_setTxs _ s).secures
  have moved : Secures s (resumed h tx s) := by
    refine counted.trans (Secures.trans ?_ (startInterval_touches _ _).secures)
    exact putHose_secures _ (.of_flowing rfl (congrArg HoseState.stoppable hs))
  rw [resumeFill_eq]
  exact (moved.trans (evalStage_secures (resumed_state h tx s))).trans (settle_touches _ _).secures

theorem takeConfirmed_secures (h : Hose) (id : TagId) (s : State) : Secures s (takeConfirmed h id s) := by
  unfold takeConfirmed
  split
  · rename_i hs
    exact lookup_secures hs id
  · rename_i hs
    unfold confirmPaused
    split
    · exact .refl s
    · exact .ite (fun _ => .refl s) fun _ =>
        .ite (fun _ => resumeFill_secures hs _) fun _ => stopFill_secures h _ s
  all_goals exact .refl s

theorem flowing_of_flowingOnTag (hf : flowingOnTag h s = true) : (s.hose h).state = .flowing :=
  of_decide_eq_true (Bool.and_eq_true_iff.mp hf).1

theorem takeLost_secures (h : Hose) (s : State) : Secures s (takeLost h s) :=
  .ite (fun hf => .ite (fun _ => stopFill_secures h _ s) fun _ => pauseFill_secures (flowing_of_flowingOnTag hf))
    fun _ => .refl s

theorem takeChanged_secures (h : Hose) (s : State) : Secures s (takeChanged h s) :=
  .ite (fun _ => stopFill_secures h _ s) fun _ => .refl s

end Sys2Proof.Machine
end

section
/-! PROOF. The laws of the valves and the deliveries (O50) over the deliveries (R134 to R144), the requests, the other
events, the start-up and the loss of power, and then over every command and every step. -/

namespace Sys2Proof.Machine

variable {s t : State} {h : Hose} {d e : Delivery} {ps : List Part} {o : Owned}

/-! ## Changes of the delivery (R133) -/

/-- The compartment of the delivery that is open, if one is. -/
def deliveryComp (s : State) : Option Comp := s.store.delivery.map Delivery.comp

/-- A change of the delivery and its inlet that opens no delivery. -/
theorem Secures.of_delivery (ho : OnlyIn ps s t) (hi : InletLaw s → InletLaw t)
    (hc : ∀ c, deliveryComp t = some c → deliveryComp s = some c)
    (hp : ps ⊆ .delivery :: .inlet :: idleParts := by decide) : Secures s t := by
  have hoses := (ho.mono hp).hose
  refine ⟨fun l h => ?_, hi, fun l hon h hd => ?_⟩
  · rw [hoses]
    exact l h
  · rw [hoses]
    exact l (((ho.mono hp) .power (by decide)).symm.trans hon) h (hc _ hd)

/-- R133: the inlet valve is shut. -/
theorem InletLaw.of_shut (hv : t.inlet.valveOpen = false) : InletLaw t := fun ho => by
  rw [hv] at ho
  cases ho

/-- R133: with no delivery RECEIVING the inlet valve is shut, and stays so while it is not moved. -/
theorem InletLaw.of_unmoved (hn : s.store.delivery.map Delivery.state ≠ some .receiving)
    (hv : t.inlet.valveOpen = s.inlet.valveOpen) (l : InletLaw s) : InletLaw t :=
  fun ho => absurd (l (hv.symm.trans ho)) hn

/-- What the laws see of a delivery. -/
def Delivery.standing (d : Delivery) : DeliveryState × Comp := (d.state, d.comp)

/-- The items of a delivery change, but not its state or its compartment. -/
theorem Secures.of_standing (ho : OnlyIn ps s t) (hv : t.inlet.valveOpen = s.inlet.valveOpen)
    (hd : t.store.delivery.map Delivery.standing = s.store.delivery.map Delivery.standing)
    (hp : ps ⊆ .delivery :: .inlet :: idleParts := by decide) : Secures s t := by
  have state : t.store.delivery.map Delivery.state = s.store.delivery.map Delivery.state := by
    simpa [Function.comp_def, Delivery.standing] using congrArg (Option.map Prod.fst) hd
  have comp : deliveryComp t = deliveryComp s := by
    simpa [Function.comp_def, Delivery.standing, deliveryComp] using congrArg (Option.map Prod.snd) hd
  refine .of_delivery ho (fun l hn => ?_) (fun c hc => comp ▸ hc) hp
  rw [state]
  exact l (hv ▸ hn)

/-- R142: the drain of a delivery shuts the inlet. -/
theorem drainDelivery_secures (hd : deliveryComp s = some d.comp) : Secures s (drainDelivery d s) := by
  have rest := evalRest_touches d.comp ((s.setDelivery (some { d with state := .draining })).setInlet
    { valveOpen := false, quiet := .running Config.drainQuiet, cap := .running Config.drainCap })
  refine .of_delivery (drainDelivery_touches d s) (fun _ => .of_shut ?_) fun c hc => ?_
  · rw [drainDelivery, rest .inlet (by decide)]
    rfl
  · rw [deliveryComp, drainDelivery, rest .delivery (by decide)] at hc
    exact hd.trans hc

theorem deliveryComp_of_some (hd : s.store.delivery = some d) : deliveryComp s = some d.comp := by
  rw [deliveryComp, hd]
  rfl

theorem closeInlet_secures (cause : DeliveryCause) (s : State) : Secures s (closeInlet cause s) := by
  unfold closeInlet
  split
  · rename_i d hd
    have into : deliveryComp s = some d.comp := deliveryComp_of_some hd
    split
    · exact drainDelivery_secures into
    all_goals exact .refl s
  · exact .refl s

/-- R136: the inlet opens for a delivery that is RECEIVING. -/
theorem enterReceiving_secures (hd : deliveryComp s = some d.comp) : Secures s (enterReceiving d s) := by
  have begun : OnlyIn [.meters] s (startInterval .m4 s) := startInterval_touches _ s
  unfold enterReceiving
  dsimp only
  split
  · rename_i cause _
    have noted : OnlyIn [.meters, .alarms] s (levelAlarm d.comp cause (startInterval .m4 s)) :=
      (begun.mono (by decide)).then (levelAlarm_touches _ _ _) (by decide)
    refine noted.secures.trans (drainDelivery_secures ?_)
    rw [deliveryComp, noted .delivery (by decide)]
    exact hd
  · have opens : Secures (startInterval .m4 s) (((startInterval .m4 s).setDelivery (some (startCount d s))).setInlet
        { (startInterval .m4 s).inlet with valveOpen := true }) :=
      .of_delivery (((only_setDelivery _ _).mono (by decide)).then (only_setInlet _ _) (by decide) :
        OnlyIn [.delivery, .inlet] _ _) (fun _ _ => rfl) fun c hc => hd.trans hc
    exact (begun.secures.trans opens).trans (evalRest_touches _ _).secures

theorem countInletPulse_secures (hd : s.store.delivery = some d) : Secures s (countInletPulse d s) := by
  have count := countInletPulse_touches d s
  refine .of_standing count (congrArg Inlet.valveOpen (count .inlet (by decide))) ?_
  rw [hd]
  rfl

theorem inletPulse_secures (s : State) : Secures s (inletPulse s) := by
  have stray : Secures s (strayInletPulse s) := (strayInletPulse_touches s).secures
  unfold inletPulse
  split
  · rename_i d hd
    split
    · exact countInletPulse_secures hd
    · exact (countInletPulse_secures hd).trans (.of_standing (only_setInlet _ _) rfl rfl)
    all_goals exact stray
  · exact stray

theorem offerLevel_secures (c : Comp) (s : State) : Secures s (offerLevel c s) := by
  unfold offerLevel
  split
  · exact .refl s
  · rename_i d hd
    refine .ite (fun _ => ?_) fun _ => .refl s
    split
    · exact .ite (fun _ => (raiseAlarm_touches _ s).secures.trans (closeInlet_secures _ _)) fun _ => .refl s
    · have noted : Secures s (s.setDelivery (some { d with levelFault := true })) :=
        .of_standing (only_setDelivery _ s) rfl (by rw [hd]; rfl)
      exact noted.trans (closeInlet_secures _ _)

theorem recomputeVcf_secures (m : Meter) (s : State) : Secures s (recomputeVcf m s) := by
  unfold recomputeVcf
  cases m with
  | m1 | m2 | m3 => exact (recomputeHose_touches _ s).secures
  | m4 =>
    dsimp only
    split
    · rename_i d hd
      exact .of_standing (only_setDelivery _ s) rfl (by rw [hd]; rfl)
    · exact .refl s

/-- A delivery that is not RECEIVING has the inlet shut. -/
theorem not_receiving (hd : s.store.delivery = some d) (hs : d.state ≠ .receiving) :
    s.store.delivery.map Delivery.state ≠ some .receiving := by
  rw [hd]
  exact fun he => hs (Option.some.inj he)

/-- R143: the credit of a delivery that drains. -/
theorem creditDelivery_secures (hd : s.store.delivery = some e) (hs : e.state ≠ .receiving) (hc : d.comp = e.comp) :
    Secures s (creditDelivery d s) := by
  have after := afterBookChange_touches d.comp
  refine .of_delivery (creditDelivery_touches d s) (.of_unmoved (not_receiving hd hs) ?_) fun c he => ?_
  · rw [creditDelivery_eq, after _ .inlet (by decide)]
    rfl
  · rw [deliveryComp, creditDelivery_eq, after _ .delivery (by decide)] at he
    rw [deliveryComp_of_some hd, ← hc]
    exact he

theorem endDrain_secures (cut : Bool) (s : State) : Secures s (endDrain cut s) := by
  unfold endDrain
  split
  · exact .refl s
  · rename_i d hd
    split
    · rename_i hs
      have credited : Secures s (creditDelivery { d with drainCut := d.drainCut || cut } s) :=
        creditDelivery_secures hd (by rw [hs]; nofun) rfl
      exact (credited.trans (evalRest_touches _ _).secures).trans (requestRun_touches _ _ _).secures
    all_goals exact .refl s

/-- R141, R144: a delivery that is not RECEIVING is discarded, and its inlet was shut. -/
theorem Secures.of_discarded (ho : OnlyIn [.delivery, .log, .logWatch, .alarms] s t)
    (hn : s.store.delivery.map Delivery.state ≠ some .receiving) (hd : t.store.delivery = none) : Secures s t := by
  refine .of_delivery ho (.of_unmoved hn (congrArg Inlet.valveOpen (ho .inlet (by decide)))) fun c hc => ?_
  rw [deliveryComp, hd] at hc
  cases hc

theorem closeDelivery_secures (hd : s.store.delivery = some d) : Secures s (closeDelivery d s) := by
  unfold closeDelivery
  split
  · rename_i hs
    have withdrawn := cancelRequest_touches d.comp .preDelivery s
    refine withdrawn.secures.trans (.of_discarded (cancelDelivery_touches _) ?_ rfl)
    rw [withdrawn .delivery (by decide)]
    exact not_receiving hd (by rw [hs]; nofun)
  · exact closeInlet_secures _ s
  all_goals exact .refl s

theorem takePreGauge_secures (c : Comp) (r : GaugeResult) (s : State) : Secures s (takePreGauge c r s) := by
  unfold takePreGauge
  split
  · exact .refl s
  · rename_i d hd
    have into : deliveryComp s = some d.comp := deliveryComp_of_some hd
    exact .ite (fun _ => enterReceiving_secures into) fun _ => .refl s

theorem takePostGauge_secures (c : Comp) (r : GaugeResult) (s : State) : Secures s (takePostGauge c r s) := by
  unfold takePostGauge
  split
  · exact .refl s
  · rename_i d hd
    refine .ite (fun ⟨hs, _⟩ => ?_) fun _ => .refl s
    exact .of_discarded (recordDelivery_touches d _ s) (not_receiving hd (by rw [hs]; nofun)) rfl

/-! ## The opening of a delivery (R134) -/

theorem not_stoppable_of_resting {st : HoseState} (hr : st.resting = true) : st.stoppable = false := by
  cases st <;> simp_all [HoseState.resting, HoseState.stoppable]

/-- R134 checks 2 and 3: a delivery opens where none is open and the hoses of its compartment are at rest. -/
theorem openDelivery_secures (docket : Text) (declared : Option Int) (hn : s.store.delivery = none)
    (hr : ∀ h, compOf h = c → (s.hose h).state.resting = true) : Secures s (openDelivery c docket declared s) := by
  have ho : OnlyIn [.log, .logWatch, .alarms, .delivery, .selector, .units] s (openDelivery c docket declared s) :=
    ((((takeCommitment_touches s).mono (by decide)).then (only_setDelivery _ _) (by decide)).then
      (only_setSelector _ _) (by decide)).then (requestRun_touches _ _ _) (by decide)
  have opens : deliveryComp (openDelivery c docket declared s) = some c := by
    unfold openDelivery deliveryComp
    rw [requestRun_touches _ _ _ .delivery (by decide)]
    rfl
  refine ⟨fun l h => by rw [ho.hose]; exact l h, .of_unmoved (by rw [hn]; nofun)
    (congrArg Inlet.valveOpen (ho .inlet (by decide))), fun _ _ h hd => ?_⟩
  rw [ho.hose]
  exact not_stoppable_of_resting (hr h (Option.some.inj (opens.symm.trans hd)).symm)

/-! ## The power (R19, R101, R197) -/

/-- R19, R101: a state without an open delivery in which every hose is at rest and the inlet is shut. -/
theorem Secures.of_rest (hh : ∀ h, ∃ st, t.hose h = .atRest st) (hi : t.inlet = .started)
    (hd : t.power ≠ .on ∨ t.store.delivery = none) : Secures s t := by
  refine ⟨fun _ h hv => ?_, fun _ => .of_shut (by rw [hi]; rfl), fun _ hp h hc => ?_⟩
  · obtain ⟨st, hst⟩ := hh h
    rw [hst] at hv
    exact absurd rfl hv
  · rcases hd with hd | hd
    · exact absurd hp hd
    · rw [hd] at hc
      cases hc

theorem startUpAt_secures (clock : Stamp) (s : State) : Secures s (startUpAt clock s) := by
  obtain ⟨-, -, -, -, -, -, -, -, hoses, -, -, -, delivery, -, -, -, -, inlet, -⟩ := startUpAt_startedUp clock s
  refine .of_rest (fun h => ?_) inlet (.inr delivery)
  obtain ⟨-, -, rest⟩ := hoses h
  exact ⟨_, rest⟩

theorem losePower_secures (s : State) : Secures s (losePower s) :=
  .of_rest (fun h => ⟨_, ((losePower_volatile s).1 h).1⟩) rfl (.inl nofun)

/-- R197: from the acceptance of a RESTART the part does not run. -/
theorem setRestarting_secures (s : State) : Secures s (s.setPower .restarting) := ⟨id, id, fun _ => nofun⟩

/-! ## The owners of the requests -/

theorem carries_secures : Carries Secures := ⟨Secures.trans, fun ho => ho.secures⟩

/-- An owner that changes no part that the laws look at. -/
theorem Takes.secures (ho : Takes (OnlyIn ps) s o) (hp : ps ⊆ idleParts := by decide) : Takes Secures s o :=
  ho.mono fun _ h => h.secures hp

theorem ownRestart_secures (s : State) : Takes Secures s (ownRestart () s) :=
  .ite (fun _ => .ok (setRestarting_secures s)) fun _ => .error

theorem ownApprove_secures (p : Nat × Option Int) (s : State) : Takes Secures s (ownApprove p s) := by
  unfold ownApprove
  split
  · exact .error
  · refine .ite (fun _ => .error) fun _ => ?_
    split
    · rename_i hs
      exact .ok (grant_secures (by rw [hs]; rfl) (by rw [hs]; nofun))
    all_goals exact .error

theorem ownDecline_secures (n : Nat) (s : State) : Takes Secures s (ownDecline n s) := by
  unfold ownDecline
  split
  · exact .error
  · exact .ite (fun hw => .ok (refuseHose_secures (HoseState.not_flowing_of_awaiting hw) _)) fun _ => .error

theorem ownAuthorise_secures (p : Nat × Nat × Option Int) (s : State) : Takes Secures s (ownAuthorise p s) := by
  unfold ownAuthorise
  split
  · exact .error
  · refine .ite (fun _ => .error) fun _ => .ite (fun _ => .error) fun hi => .ite (fun _ => .error) fun _ => ?_
    split
    · exact .error
    · exact .ok (authorise_secures (not_not.mp hi) _)

theorem ownHoseStatus_secures (n : Nat) (s : State) : Takes Secures s (ownHoseStatus n s) := by
  unfold ownHoseStatus
  split
  · exact .error
  · exact .ok (putHose_secures _ (.of_same rfl rfl))

theorem stopHose_secures (h : Hose) (s : State) : Secures s (stopHose h s) := by
  unfold stopHose
  split
  · rename_i hs; exact refuseHose_secures (by rw [hs]; nofun) _
  · rename_i hs; exact refuseHose_secures (by rw [hs]; nofun) _
  · exact stopFill_secures h _ s
  · exact stopFill_secures h _ s
  all_goals exact .refl s

theorem ownStop_secures (n : Nat) (s : State) : Takes Secures s (ownStop n s) := by
  unfold ownStop
  split
  · exact .error
  · exact .ite (fun _ => .error) fun _ => .ok (stopHose_secures _ s)

theorem ownHoseEnable_secures (n : Nat) (s : State) : Takes Secures s (ownHoseEnable n s) := by
  unfold ownHoseEnable
  split
  · exact .error
  · rename_i h _
    have enabled : Secures s (setEnabled h true s) := (only_setHoseConfigs _ s).secures
    refine .ok (enabled.trans (.ite (fun hb => ?_) fun _ => .refl _))
    exact moveHose_secures (by rw [hb]; nofun) (startedState_not_stoppable _ _)

theorem ownHoseDisable_secures (n : Nat) (s : State) : Takes Secures s (ownHoseDisable n s) := by
  unfold ownHoseDisable
  split
  · exact .error
  · rename_i h _
    refine .ite (fun _ => .error) fun hr => .ok ?_
    have hr : (s.hose h).state.resting = true := by simpa using hr
    have disabled : Secures s (setEnabled h false s) := (only_setHoseConfigs _ s).secures
    refine (disabled.trans (moveHose_secures (h := h) (fun hf => ?_) rfl)).trans (channelOff_touches _ _).secures
    have hf : (s.hose h).state = .flowing := hf
    rw [hf] at hr
    cases hr

theorem ownDeliveryOpen_secures (p : Nat × Text × Option Int) (s : State) :
    Takes Secures s (ownDeliveryOpen p s) := by
  unfold ownDeliveryOpen
  split
  · exact .error
  · refine .ite (fun _ => .error) fun _ => .ite (fun _ => .error) fun hd => .ite (fun _ => .error) fun hr =>
      .ite (fun _ => .error) fun _ => .ok ?_
    have none_open : s.store.delivery = none := by simpa using (not_or.mp hd).1
    have resting := List.all_eq_true.mp (by simpa only [Bool.not_eq_true', Bool.not_eq_false] using hr)
    exact openDelivery_secures _ _ none_open fun h hc => resting h (mem_hosesOf.mpr hc)

theorem ownDeliveryClose_secures (s : State) : Takes Secures s (ownDeliveryClose () s) := by
  unfold ownDeliveryClose
  split
  · exact .error
  · rename_i hd
    exact .ok (closeDelivery_secures hd)

end Sys2Proof.Machine
end

section
/-! PROOF. The laws of the valves and the deliveries over every command and every step, and O50. -/

namespace Sys2Proof.Machine

variable {s t : State} {h : Hose}

/-! ## The line and the events of a part that runs (R185 to R187, R197) -/

theorem takeBadCheck_touches (tag : SeqTag) (code : Septet) (s : State) :
    OnlyIn [.link] s (takeBadCheck tag code s) :=
  .ite ((only_setLink _ s).trans (only_setLink _ _))
    (((only_setLink _ s).trans (only_setLink _ _)).trans (only_setLink _ _))

theorem takeBroken_touches (kind : BrokenFrame) (s : State) : OnlyIn [.link] s (takeBroken kind s) :=
  .ite ((only_setLink _ s).trans (only_setLink _ _)) ((only_setLink _ s).trans (only_setLink _ _))

theorem endReply_secures (s : State) : Secures s (endReply s) :=
  .ite (fun _ => startUpAt_secures _ s) fun _ => (only_setLink _ s).secures

/-- An event that is taken under a condition, and comes to nothing without it. -/
theorem Secures.when {p : Prop} [Decidable p] (a : p → Secures s t) : Secures s (if p then t else s) :=
  .ite a fun _ => .refl s

/-- A discrete input changes its level; a part that runs takes the change as an event. -/
theorem Secures.input {p q : Prop} [Decidable p] [Decidable q] {v : Inputs} (a : Secures (s.setInputs v) t) :
    Secures s (if p then s else if q then t else s.setInputs v) :=
  have level : Secures s (s.setInputs v) := (only_setInputs v s).secures
  .ite (fun _ => .refl s) fun _ => .ite (fun _ => level.trans a) fun _ => level

/-! ## The bowser's inputs and the tick -/

/-- R107: the emergency stop reaches the park, the pumps, the hoses and the delivery. -/
theorem emergencyStop_secures (s : State) : Secures s (emergencyStop s) := by
  have before : OnlyIn [.park, .units, .handed, .pumps] s
      (evalPump .c2 (evalPump .c1 (disturbPark .emergency .emergency s))) :=
    (((disturbPark_touches _ _ s).mono (by decide)).then (evalPump_touches _ _) (by decide)).then
      (evalPump_touches _ _) (by decide)
  exact ((((before.secures.trans (strikeAll_secures _ _ _ _)).trans (closeInlet_secures _ _)).trans
    (raiseAlarm_touches _ _).secures).trans (evalRest_touches _ _).secures).trans (evalRest_touches _ _).secures

theorem onChannel_touches (h : Hose) (f : Channel → Channel) (s : State) :
    OnlyIn [.channels] s (onChannel h f s) :=
  .ite (only_setChannels _ s) (.refl _ s)

theorem takeValid_touches (h : Hose) (id : TagId) (s : State) :
    OnlyIn [.channels, .handed] s (takeValid h id s) :=
  .ite (((only_setChannels _ s).mono (by decide)).then (report_touches h _ _) (by decide)) (.refl _ s)

theorem takeInverted_touches (h : Hose) (s : State) : OnlyIn [.channels, .alarms] s (takeInverted h s) :=
  .ite (((only_setChannels _ s).mono (by decide)).trans
    (.ite ((raiseAlarm_touches _ _).mono (by decide)) (.refl _ _))) (.refl _ s)

/-- R158: a tick runs the timers of the hoses and of the inlet down, and moves no valve. -/
theorem elapseTimers_secures (s : State) : Secures s (elapseTimers s) := by
  have hoses : Secures s (s.setHoses ⟨s.hoses.h1.elapse, s.hoses.h2.elapse, s.hoses.h3.elapse⟩) :=
    .of_hoses ((only_setHoses _ s).mono (by decide)) fun g => by cases g <;> exact .of_same rfl rfl
  have rest : OnlyIn [.channels, .meters, .sources, .pumps, .inlet, .guard, .park, .link]
      (s.setHoses ⟨s.hoses.h1.elapse, s.hoses.h2.elapse, s.hoses.h3.elapse⟩) (elapseTimers s) :=
    ((((((((only_setChannels _ _).mono (by decide)).then (only_setMeters _ _) (by decide)).then
      (only_setSources _ _) (by decide)).then (only_setPumps _ _) (by decide)).then
      (only_setInlet _ _) (by decide)).then (only_setGuard _ _) (by decide)).then
      (only_setPark _ _) (by decide)).then (only_setLink _ _) (by decide)
  exact hoses.trans (.of_standing rest rfl rfl)

/-! ## Every command and every step -/

/-- An outcome that is a next state within a relation. -/
inductive Leads (R : State → State → Prop) (s : State) : Host.Outcome State Fault Refusal → Prop
  | next {t : State} (k : R s t) : Leads R s (.next t)

theorem Leads.of_next {R : State → State → Prop} (l : Leads R s (.next t)) : R s t := by
  cases l
  assumption

/-- A request secures the laws where its owner does. -/
theorem leads_request {α : Type} {tag : SeqTag} {code : Nat} {parse : List Septet → Option α} {body : List Septet}
    {owner : α → State → Owned} (ho : ∀ a u, Takes Secures u (owner a u)) :
    Leads Secures s (.next (takeRequest tag code parse body owner s)) := .next (carries_secures.takeRequest ho)

/-- A command that changes no part that the laws look at. -/
theorem leads_idle {ps : List Part} (ho : OnlyIn ps s t) (hp : ps ⊆ idleParts := by decide) :
    Leads Secures s (.next t) := .next (ho.secures hp)

theorem exec_secures (i : Instr) (s : State) : Leads Secures s (exec i s) := by
  cases i with
  | siteStatus | settingsRead | equipmentStatus | deliveryStatus | logStatus | parkStatus =>
    exact leads_request fun _ _ => Takes.read.secures
  | alarms => exact leads_request fun _ u => .ok (only_setAlarms _ u).secures
  | linkCounters => exact leads_request fun _ u => .ok (only_setLink _ u).secures
  | settingsWrite => exact leads_request fun o u => (ownSettingsWrite_frame o u).secures
  | restart => exact leads_request fun _ u => ownRestart_secures u
  | tagChannelRead => exact leads_request fun n u => (ownTagChannelRead_frame n u).secures
  | machineRead => exact leads_request fun o u => (ownMachineRead_frame o u).secures
  | machineWrite => exact leads_request fun o u => (ownMachineWrite_frame o u).secures
  | machineDelete => exact leads_request fun k u => (ownMachineDelete_frame k u).secures
  | machineFind => exact leads_request fun n u => (ownMachineFind_frame n u).secures
  | machineList => exact leads_request fun k u => (ownMachineList_frame k u).secures
  | accountRead => exact leads_request fun k u => (ownAccountRead_frame k u).secures
  | accountWrite => exact leads_request fun o u => (ownAccountWrite_frame o u).secures
  | accountDelete => exact leads_request fun k u => (ownAccountDelete_frame k u).secures
  | approve => exact leads_request fun o u => ownApprove_secures o u
  | decline => exact leads_request fun n u => ownDecline_secures n u
  | authorise => exact leads_request fun o u => ownAuthorise_secures o u
  | hoseStatus => exact leads_request fun n u => ownHoseStatus_secures n u
  | stop => exact leads_request fun n u => ownStop_secures n u
  | hoseEnable => exact leads_request fun n u => ownHoseEnable_secures n u
  | hoseDisable => exact leads_request fun n u => ownHoseDisable_secures n u
  | hoseSettingsRead => exact leads_request fun n u => (ownHoseSettingsRead_frame n u).secures
  | hoseSettingsWrite => exact leads_request fun o u => (ownHoseSettingsWrite_frame o u).secures
  | pumpSettingsRead => exact leads_request fun n u => (ownPumpSettingsRead_frame n u).secures
  | pumpSettingsWrite => exact leads_request fun o u => (ownPumpSettingsWrite_frame o u).secures
  | inhibitClear => exact leads_request fun n u => (ownInhibitClear_frame n u).secures
  | stockStatus => exact leads_request fun n u => (ownStockStatus_frame n u).secures
  | tankSetupRead => exact leads_request fun n u => (ownTankSetupRead_frame n u).secures
  | tankSetupWrite => exact leads_request fun o u => (ownTankSetupWrite_frame o u).secures
  | strappingRead => exact leads_request fun o u => (ownStrappingRead_frame o u).secures
  | strappingWrite =>
    exact .next (carries_secures.takeFrame fun _ => carries_secures.handleLast fun a u =>
      (ownStrappingWrite_frame a u).secures)
  | strappingWritePart => exact .next (carries_secures.takeFrame fun u => (handlePart_touches _ _ _ _ u).secures)
  | gauge => exact leads_request fun n u => (ownGauge_frame n u).secures
  | gaugeRead => exact leads_request fun n u => (ownGaugeRead_frame n u).secures
  | bookAdjust => exact leads_request fun o u => (ownBookAdjust_frame o u).secures
  | deliveryOpen => exact leads_request fun o u => ownDeliveryOpen_secures o u
  | deliveryClose => exact leads_request fun _ u => ownDeliveryClose_secures u
  | logRead => exact leads_request fun part u => (ownLogRead_frame part u).secures
  | logConfirm => exact leads_request fun n u => (ownLogConfirm_frame n u).secures
  | logRewind => exact leads_request fun _ u => (ownLogRewind_frame u).secures
  | clockSet => exact leads_request fun n u => (ownClockSet_frame n u).secures
  | shiftClose => exact leads_request fun _ u => (ownShiftClose_frame u).secures
  | shiftTotals => exact leads_request fun k u => (ownShiftTotals_frame k u).secures
  | calRead => exact leads_request fun n u => (ownCalRead_frame n u).secures
  | calOpen => exact leads_request fun _ u => (ownCalOpen_frame u).secures
  | calWrite => exact leads_request fun o u => (ownCalWrite_frame o u).secures
  | calClose => exact leads_request fun _ u => (ownCalClose_frame u).secures
  | auditRead => exact leads_request fun n u => (ownAuditRead_frame n u).secures
  | park => exact leads_request fun _ u => (ownPark_frame u).secures
  | unknown =>
    exact .next (carries_secures.takeFrame fun u => carries_secures.trans (carries_secures.link _ u)
      (carries_secures.link _ _))
  | check tag code => exact leads_idle (.ite (takeBadCheck_touches tag code s) (.refl _ s))
  | overlap => exact leads_idle (.ite ((only_setLink _ s).trans (only_setLink _ _)) (.refl _ s))
  | brokenFrame kind => exact leads_idle (.ite (takeBroken_touches kind s) (.refl _ s))
  | byteError => exact leads_idle (.ite ((only_setLink _ s).trans (only_setLink _ _)) (.refl _ s))
  | waking => exact .next (.when fun _ => carries_secures.takeFrame fun u => .refl u)
  | nozzleLift h =>
    exact .next (.input ((disturbPark_touches _ _ _).secures.trans (liftHose_secures h _)))
  | nozzleHang h => exact .next (.input (hangHose_secures h _))
  | meterPulse m =>
    refine .next (.when fun _ => ?_)
    cases m with
    | m1 | m2 | m3 => exact hosePulse_secures _ s
    | m4 => exact inletPulse_secures s
  | tempReading p r => exact leads_idle (.ite (takeReading_touches p r s) (.refl _ s))
  | tempFaultIndication p => exact leads_idle (.ite (takeFault_touches p s) (.refl _ s))
  | levelReading c level =>
    exact .next (.when fun _ => ((setLevel_touches c _ s).secures.trans (offerLevel_secures c _)).trans
      (sampleRun_touches c level _).secures)
  | levelFaultIndication c =>
    exact .next (.when fun _ => ((setLevel_touches c _ s).secures.trans (offerLevel_secures c _)).trans
      (faultRun_touches c _).secures)
  | valid h id => exact leads_idle (.ite (takeValid_touches h id s) (.refl _ s))
  | inverted h => exact leads_idle (.ite (takeInverted_touches h s) (.refl _ s))
  | checkBad h => exact leads_idle (.ite (onChannel_touches h _ s) (.refl _ s))
  | badStart h => exact leads_idle (.ite (onChannel_touches h _ s) (.refl _ s))
  | confirmed h id =>
    exact .next (.when fun _ => (takeHanded_touches _ s).secures.trans (takeConfirmed_secures h id _))
  | lost h => exact .next (.when fun _ => (takeHanded_touches _ s).secures.trans (takeLost_secures h _))
  | changed h => exact .next (.when fun _ => (takeHanded_touches _ s).secures.trans (takeChanged_secures h _))
  | emergencyStopActive => exact .next (.input (emergencyStop_secures _))
  | emergencyStopInactive =>
    exact .next (.input ((evalPump_touches _ _).secures.trans (evalPump_touches _ _).secures))
  | overfillSwitchActive c =>
    exact .next (.input ((raiseAlarm_touches _ _).secures.trans (.when fun _ => closeInlet_secures _ _)))
  | overfillSwitchInactive => exact leads_idle (only_setInputs _ s)
  | sealSwitchOpen => exact .next (.input (raiseAlarm_touches _ _).secures)
  | sealSwitchClosed => exact .next (.input (only_setGuard _ _).secures)
  | storeDisturbance => exact leads_idle (only_setCal _ s)
  | startUp => exact .next (startUpAt_secures _ s)
  | intervalEnd m =>
    exact .next (.when fun _ => (endInterval_touches m s).secures.trans (recomputeVcf_secures m _))
  | sourceHoldTimerExpiry p => exact leads_idle (.ite (enterDefault_touches p s) (.refl _ s))
  | channelHoldTimerExpiry h =>
    exact leads_idle (ps := [.channels, .handed]) (.ite
      (((only_setChannels _ s).mono (by decide)).then (report_touches h _ _) (by decide)) (.refl _ s))
  | identifyTimerExpiry h =>
    refine .next (.when fun hl => refuseHose_secures ?_ _)
    obtain ⟨hl, -⟩ := Bool.and_eq_true_iff.mp hl
    obtain ⟨-, hi⟩ := Bool.and_eq_true_iff.mp hl
    rw [of_decide_eq_true hi]
    nofun
  | approvalTimerExpiry h =>
    refine .next (.when fun hl => refuseHose_secures ?_ _)
    obtain ⟨hl, -⟩ := Bool.and_eq_true_iff.mp hl
    exact HoseState.not_flowing_of_awaiting (Bool.and_eq_true_iff.mp hl).2
  | noFlowTimerExpiry h => exact .next (.when fun _ => stopFill_secures h _ s)
  | resumeGraceTimerExpiry h => exact .next (.when fun _ => stopFill_secures h _ s)
  | hoseDrainQuietExpiry h => exact .next (.when fun _ => closeFill_secures h s)
  | hoseDrainCapExpiry h => exact .next (.when fun _ => (cutDrain_secures h s).trans (closeFill_secures h _))
  | deliveryDrainQuietExpiry => exact .next (.when fun _ => endDrain_secures false s)
  | deliveryDrainCapExpiry => exact .next (.when fun _ => endDrain_secures true s)
  | maxRunReached c => exact .next (.when fun _ => guardPump_secures c s)
  | restTimerExpiry => exact leads_idle (.ite (only_setPumps _ s) (.refl _ s))
  | windowTimerExpiry => exact leads_idle (.ite (only_setGuard _ s) (.refl _ s))
  | checkTimerExpiry =>
    exact .next (.when fun _ => (only_setGuard _ s).secures.trans (integrityCheck_secures _))
  | watchdogExpiry order => exact .next (.when fun _ => (only_setLink _ s).secures.trans (dropLinks_secures _ _))
  | watchTimerExpiry =>
    exact leads_idle (ps := [.park, .units]) (.ite ((((only_setPark _ s).mono (by decide)).then
      (requestWatch_touches _ _) (by decide)).then (requestWatch_touches _ _) (by decide)) (.refl _ s))
  | confirmTimerExpiry => exact leads_idle (.ite (only_setPark _ s) (.refl _ s))
  | siteClockTick =>
    have clock : Secures s (advanceClock s) := (only_setClock _ s).secures
    exact .next (.ite (fun _ => clock.trans (elapseTimers_secures _)) fun _ => .when fun _ => clock)
  | preGaugeResult c r =>
    exact .next (.when fun _ => (takeHanded_touches _ s).secures.trans (takePreGauge_secures c r _))
  | postGaugeResult c r =>
    exact .next (.when fun _ => (takeHanded_touches _ s).secures.trans (takePostGauge_secures c r _))
  | parkBaselineResult c r =>
    exact .next (.when fun _ => (takeHanded_touches _ s).secures.trans
      (.when fun _ => (takeBaseline_touches c r _).secures))
  | parkWatchResult c r =>
    exact .next (.when fun _ => (takeHanded_touches _ s).secures.trans (takeWatch_touches c r _).secures)
  | answerSent => exact .next (.when fun _ => endReply_secures s)
  | lossOfPower => exact .next (losePower_secures s)

theorem takeByte_secures (b : LineByte) (s : State) : Leads Secures s (takeByte b s) := by
  obtain he | ⟨a, he⟩ | ⟨a, i, -, he⟩ := takeByte_cases b s <;> rw [he]
  · exact .next (.refl s)
  · exact leads_idle (only_setLink _ s)
  · exact exec_secures i s

/-- A step keeps the laws of the valves and the deliveries. -/
theorem step_secures (hs : step s = .next t) : Secures s t := by
  obtain ⟨i, rest, -, he⟩ | ⟨b, rest, -, -, he⟩ | ⟨-, -, he⟩ := step_cases s <;> rw [he] at hs
  · exact (only_setPending rest s).secures.trans (hs ▸ exec_secures i _).of_next
  · exact (only_setLine rest s).secures.trans (hs ▸ takeByte_secures b _).of_next
  · cases hs
    exact .refl s

/-- Settles O50: every command secures the three laws, by `exec_secures`, and so does every step. -/
theorem valvesAndDeliveriesKeepTheirLaws : Obligations.ValvesAndDeliveriesKeepTheirLaws := by
  unfold Obligations.ValvesAndDeliveriesKeepTheirLaws
  intro s t hs
  have secured := step_secures hs
  exact ⟨secured.valve, secured.inlet, secured.delivery⟩

end Sys2Proof.Machine
end

section
/-! PROOF. The pause and the resumption of a fill (R81 to R84): the loss of the tag and its return. -/

namespace Sys2Proof.Machine

variable {h g : Hose} {m : Meter} {tx : Transaction} {id : TagId} {n : Nat} {ps : List Part} {s t : State}

/-! ## The non-volatile store as one -/

/-- The parts of the state that make up the non-volatile store. -/
def storeParts : List Part :=
  [.machines, .queue, .accounts, .hoseConfigs, .txs, .pumpConfigs, .comps, .delivery, .selector, .log, .shift, .cal,
    .site]

theorem OnlyIn.store (o : OnlyIn ps s t) (hp : ∀ p ∈ storeParts, p ∉ ps := by decide) : t.store = s.store := by
  have same : ∀ p ∈ storeParts, p.same s t := fun p hm => o p (hp p hm)
  simp only [storeParts, List.forall_mem_cons, Part.same] at same
  obtain ⟨h1, h2, h3, h4, h5, h6, h7, h8, h9, h10, h11, h12, h13, -⟩ := same
  cases ht : t.store
  simp only [ht] at h1 h2 h3 h4 h5 h6 h7 h8 h9 h10 h11 h12 h13
  subst h1 h2 h3 h4 h5 h6 h7 h8 h9 h10 h11 h12 h13
  rfl

/-! ## The loss of the tag (R83) -/

/-- The state of a fill that pauses, before its pump and its compartment's rest are evaluated. -/
def pausing (h : Hose) (s : State) : State :=
  stopInterval (meterOf h) (s.putHose h { s.hose h with
    state := .paused
    valve := .closed
    noFlow := (s.hose h).noFlow.freeze
    grace := .running (s.config h).resumeGrace })

theorem pauseFill_eq (h : Hose) (s : State) : pauseFill h s = settle (compOf h) (pausing h s) := rfl

theorem pausing_touches (h : Hose) (s : State) : OnlyIn [.hoses, .meters] s (pausing h s) :=
  ((only_setHoses _ s).mono (by decide)).then (stopInterval_touches _ _) (by decide)

theorem pauseFill_only (h : Hose) (s : State) : OnlyIn [.hoses, .meters, .pumps, .units] s (pauseFill h s) :=
  ((pausing_touches h s).mono (by decide)).then (settle_touches _ _) (by decide)

/-- R83: the hose of a fill that pauses. -/
theorem pauseFill_hose (h : Hose) (s : State) : (pauseFill h s).hose h = { s.hose h with
    state := .paused, valve := .closed, noFlow := (s.hose h).noFlow.freeze,
    grace := .running (s.config h).resumeGrace } := by
  rw [pauseFill_eq, (settle_touches _ _).hose, pausing, (stopInterval_touches _ _).hose, State.hose_putHose]

theorem pauseFill_otherHoses (h : Hose) (s : State) : OtherHoses h s (pauseFill h s) := fun g hg => by
  rw [pauseFill_eq, (settle_touches _ _).hose, pausing, (stopInterval_touches _ _).hose, State.hose_putHose_ne _ _ hg]

/-- R83: the meter of a fill that pauses. -/
theorem pauseFill_meter (h : Hose) (s : State) : (pauseFill h s).meter (meterOf h) =
    { s.meter (meterOf h) with acc := 0, interval := .stopped } :=
  ((settle_touches _ _).meter _).trans (State.meter_putMeter _ _)

theorem pauseFill_meter_ne (s : State) (hm : m ≠ meterOf h) : (pauseFill h s).meter m = s.meter m :=
  ((settle_touches _ _).meter _).trans (State.meter_putMeter_ne _ _ hm)

/-- R83: with a grace above 0 the loss of the tag pauses a fill on a tag. -/
theorem takeLost_pauses (hf : flowingOnTag h s = true) (hg : 0 < (s.config h).resumeGrace) :
    takeLost h s = pauseFill h s :=
  (if_pos hf).trans (if_neg (Nat.pos_iff_ne_zero.mp hg))

/-! ## The return of the tag (R81, R84) -/

/-- R84: the return of the transaction's own tag resumes its fill. -/
theorem takeConfirmed_resumes (hs : (s.hose h).state = .paused) (ht : s.tx h = some tx) (hm : tx.manual = false)
    (hi : tx.tag = some id) : takeConfirmed h id s = resumeFill h tx s := by
  simp only [takeConfirmed, hs, confirmPaused, ht, hm, hi, Bool.false_eq_true, if_false, if_true]

/-- R84: the hose of a fill that resumes, before its stage is evaluated. -/
theorem resumed_hose (h : Hose) (tx : Transaction) (s : State) : (resumed h tx s).hose h = { s.hose h with
    state := .flowing, lowUntil := tx.volume.net / 1000 + (s.config h).startVolume,
    noFlow := (s.hose h).noFlow.thaw, grace := .stopped } := by
  rw [resumed, (startInterval_touches _ _).hose, State.hose_putHose]
  rfl

theorem resumed_otherHoses (h : Hose) (tx : Transaction) (s : State) : OtherHoses h s (resumed h tx s) :=
  fun g hg => by
    rw [resumed, (startInterval_touches _ _).hose, State.hose_putHose_ne _ _ hg]
    rfl

/-- R84: one pause more, which saturates at 255. -/
theorem resumed_tx (h : Hose) (tx : Transaction) (s : State) :
    (resumed h tx s).tx h = some { tx with pauses := min (tx.pauses + 1) 255 } :=
  State.tx_putTx _ _

theorem resumed_tx_ne (tx : Transaction) (s : State) (hg : g ≠ h) : (resumed h tx s).tx g = s.tx g :=
  State.tx_putTx_ne _ _ hg

/-- R84: the meter of a fill that resumes is in band 1 with a new interval. -/
theorem resumed_meter (h : Hose) (tx : Transaction) (s : State) : (resumed h tx s).meter (meterOf h) =
    { s.meter (meterOf h) with band := 1, acc := 0, interval := .running 1 } :=
  State.meter_putMeter _ _

/-- R81, R84: below the limit a fill that resumes takes its stage. -/
theorem resumeFill_below (hl : tx.volume.net / 1000 < tx.limit) (s : State) :
    resumeFill h tx s = settle (compOf h) ((resumed h tx s).putHose h (((resumed h tx s).hose h).atStage
      (stageOf (tx.volume.net / 1000) tx.limit (s.config h).taperVolume
        (tx.volume.net / 1000 + (s.config h).startVolume)))) := by
  rw [resumeFill_eq, evalStage_below (resumed_tx h tx s) hl, resumed_hose]
  rfl

/-- R81, R84: the hose of a fill that resumes below the limit. -/
theorem resumeFill_hose (hl : tx.volume.net / 1000 < tx.limit) :
    (resumeFill h tx s).hose h = ((resumed h tx s).hose h).atStage
      (stageOf (tx.volume.net / 1000) tx.limit (s.config h).taperVolume
        (tx.volume.net / 1000 + (s.config h).startVolume)) := by
  rw [resumeFill_below hl, (settle_touches _ _).hose, State.hose_putHose]

theorem resumeFill_otherHoses (hl : tx.volume.net / 1000 < tx.limit) (s : State) :
    OtherHoses h s (resumeFill h tx s) := fun g hg => by
  rw [resumeFill_below hl, (settle_touches _ _).hose, State.hose_putHose_ne _ _ hg, resumed_otherHoses h tx s g hg]

theorem resumeFill_tx (hl : tx.volume.net / 1000 < tx.limit) (s : State) :
    (resumeFill h tx s).tx h = some { tx with pauses := min (tx.pauses + 1) 255 } := by
  rw [resumeFill_below hl, (settle_touches _ _).tx]
  exact resumed_tx h tx s

theorem resumeFill_tx_ne (hl : tx.volume.net / 1000 < tx.limit) (s : State) (hg : g ≠ h) :
    (resumeFill h tx s).tx g = s.tx g := by
  rw [resumeFill_below hl, (settle_touches _ _).tx]
  exact resumed_tx_ne tx s hg

theorem resumeFill_meter (hl : tx.volume.net / 1000 < tx.limit) (s : State) :
    (resumeFill h tx s).meter (meterOf h) =
      { s.meter (meterOf h) with band := 1, acc := 0, interval := .running 1 } := by
  rw [resumeFill_below hl, (settle_touches _ _).meter]
  exact resumed_meter h tx s

/-- R81: at the volume of the resumption the start stage is the one of a start volume above 0. -/
theorem stageOf_resumed (n limit taper start : Nat) : stageOf n limit taper (n + start) =
    if limit ≤ n + taper then .taper else if 0 < start then .start else .full := by
  simp only [stageOf_eq, Nat.lt_add_right_iff_pos]

/-- Settles O31: the loss is `pauseFill` and the return `resumeFill`, each on the state whose report has been taken. -/
theorem tagLossPausesAndTagReturnResumes : Obligations.TagLossPausesAndTagReturnResumes := by
  unfold Obligations.TagLossPausesAndTagReturnResumes
  refine fun h tx s hp ht hm => ⟨fun n hf hn hg => ?_, fun id n hs hn hi hl => ?_⟩
  · let u := takeHanded (.report h .lost) s
    have taken : OnlyIn [.handed] s u := takeHanded_touches _ s
    have lost : exec (.lost h) s = .next (pauseFill h u) := (exec_lost hp h).trans
      (congrArg _ (takeLost_pauses (s := u) (flowingOnTag_of_tag (s := u) hf ht hm) hg))
    have touched : OnlyIn [.hoses, .meters, .pumps, .units, .handed] s (pauseFill h u) :=
      (taken.mono (by decide)).then (pauseFill_only h u) (by decide)
    have paused := pauseFill_hose h u
    have frozen : (u.hose h).noFlow.freeze = .frozen n := congrArg NoFlowTimer.freeze hn
    rw [frozen] at paused
    exact ⟨_, lost, pauseFill_otherHoses h u, touched.store, paused, pauseFill_meter h u,
      fun m hm => pauseFill_meter_ne u hm, touched⟩
  · let u := takeHanded (.report h (.confirmed id)) s
    have taken : OnlyIn [.handed] s u := takeHanded_touches _ s
    have back : exec (.confirmed h id) s = .next (resumeFill h tx u) := (exec_confirmed hp h id).trans
      (congrArg _ (takeConfirmed_resumes (s := u) hs ht hm hi))
    have touched : OnlyIn [.hoses, .txs, .meters, .pumps, .units, .handed] s (resumeFill h tx u) :=
      (taken.mono (by decide)).then (resumeFill_touches h tx u) (by decide)
    refine ⟨_, back, ?_⟩
    have thawed : (u.hose h).noFlow.thaw = .running n := congrArg NoFlowTimer.thaw hn
    have hose := resumeFill_hose (s := u) (h := h) hl
    rw [resumed_hose, thawed, stageOf_resumed] at hose
    rw [hose]
    exact ⟨resumeFill_otherHoses hl u, resumeFill_tx hl u, fun g hg => resumeFill_tx_ne hl u hg, rfl, rfl, rfl, rfl,
      rfl, valveOf_eq _, resumeFill_meter hl u, touched⟩

end Sys2Proof.Machine
end

section
/-! PROOF. The overrun of a fill (R85, R91, R111): what the first pulse beyond the reservation does to the fill, and
what the inhibit that follows it does beside the fill. -/

namespace Sys2Proof.Machine

variable {h g : Hose} {tx : Transaction} {b : Band} {k : InhibitCause} {cause : StopCause} {ps qs : List Part}
  {s t u : State}

/-! ## Changes that stay with one hose -/

/-- `t` differs from `s` in the parts listed, and among hoses and transactions only in those of `h`. -/
structure OwnOnly (h : Hose) (ps : List Part) (s t : State) : Prop where
  only : OnlyIn ps s t
  hoses : OtherHoses h s t
  txs : ∀ g, g ≠ h → t.tx g = s.tx g

theorem OwnOnly.refl (h : Hose) (ps : List Part) (s : State) : OwnOnly h ps s s :=
  ⟨.refl ps s, fun _ _ => rfl, fun _ _ => rfl⟩

theorem OwnOnly.mono (o : OwnOnly h ps s t) (sub : ps ⊆ qs) : OwnOnly h qs s t := ⟨o.only.mono sub, o.hoses, o.txs⟩

theorem OwnOnly.trans (o : OwnOnly h ps s t) (p : OwnOnly h ps t u) : OwnOnly h ps s u :=
  ⟨o.only.trans p.only, fun g hg => (p.hoses g hg).trans (o.hoses g hg), fun g hg => (p.txs g hg).trans (o.txs g hg)⟩

theorem OnlyIn.ownOnly (o : OnlyIn ps s t) (hh : .hoses ∉ ps := by decide) (ht : .txs ∉ ps := by decide) :
    OwnOnly h ps s t :=
  ⟨o, fun g _ => o.hose g hh, fun g _ => o.tx g ht⟩

theorem putTx_ownOnly (h : Hose) (v : Option Transaction) (s : State) : OwnOnly h [.txs] s (s.putTx h v) :=
  ⟨only_setTxs _ s, fun _ _ => rfl, fun _ hg => State.tx_putTx_ne v s hg⟩

theorem putHose_ownOnly (h : Hose) (v : HoseCtl) (s : State) : OwnOnly h [.hoses] s (s.putHose h v) :=
  ⟨only_setHoses _ s, fun _ hg => State.hose_putHose_ne v s hg, fun _ _ => rfl⟩

theorem counted_ownOnly (h : Hose) (tx : Transaction) (b : Band) (s : State) :
    OwnOnly h [.txs, .meters] s (counted h tx b s) :=
  ⟨counted_touches h tx b s, fun _ _ => rfl, fun _ hg => State.tx_putTx_ne _ _ hg⟩

/-- R85, R88: a stop event stays with its hose. -/
theorem stopFill_ownOnly (h : Hose) (cause : StopCause) (s : State) : OwnOnly h stopParts s (stopFill h cause s) := by
  have stops (hs : (s.hose h).state.stops) : OwnOnly h stopParts s (stopFill h cause s) := by
    obtain ⟨-, -, -, hoses, txs, -⟩ := stopFill_stops hs cause
    exact ⟨stopFill_touches h cause s, hoses, txs⟩
  cases hs : (s.hose h).state with
  | flowing => exact stops (.inl hs)
  | paused => exact stops (.inr hs)
  | idle | identifying | awaiting | refused | blocked | draining | finished =>
    simp only [stopFill, hs]
    exact .refl h stopParts s

/-- R88: a hose that drains already does not stop again. -/
theorem stopFill_draining (hd : (s.hose h).state = .draining) : stopFill h cause s = s := by
  simp only [stopFill, hd]

/-! ## The fill that overruns (R85, R91) -/

/-- R91: the first volume beyond the reservation is a new overrun. -/
theorem newlyOverrun_of_beyond (hr : tx.reservation < tx.volume.net / 1000) (ho : tx.overrunNoted = false) :
    newlyOverrun tx = true := by
  simp [newlyOverrun, Volume.netMl, hr, ho]

/-- The state in which the cause of a fill is OVERRUN. -/
def overrunCaused (h : Hose) (s : State) : State :=
  s.putTx h ((s.tx h).map fun tx => { tx with cause := some .overrun })

/-- The state of a fill that overruns: stopped, and OVERRUN raised, before the compartment is inhibited. -/
def overrunRaised (h : Hose) (s : State) : State :=
  raiseAlarm (.overrun h) (stopFill h .overrun (overrunCaused h s))

theorem overrunCaused_tx (ht : s.tx h = some tx) :
    (overrunCaused h s).tx h = some { tx with cause := some .overrun } := by
  rw [overrunCaused, State.tx_putTx, ht]
  rfl

/-- The state of a fill that overruns once its compartment is inhibited. -/
def overrunInhibited (h : Hose) (s : State) : State := inhibit (compOf h) (.overrun h) (overrunRaised h s)

theorem overrun_eq (h : Hose) (s : State) : overrun h s = (overrunInhibited h s).putTx h
    (((overrunInhibited h s).tx h).map fun tx => { tx with overrunNoted := true }) := rfl

theorem overrunRaised_ownOnly (h : Hose) (s : State) : OwnOnly h (.alarms :: stopParts) s (overrunRaised h s) :=
  (((putTx_ownOnly h _ s).mono (by decide)).trans ((stopFill_ownOnly h _ _).mono (by decide))).trans
    ((raiseAlarm_touches _ _).ownOnly.mono (by decide))

/-- R192: a raise reads the alarm table and the clock alone. -/
theorem raiseAlarm_alarms (a : Alarm) (ha : u.alarms = s.alarms) (hc : u.clock = s.clock) :
    (raiseAlarm a u).alarms = (raiseAlarm a s).alarms := by
  simp only [raiseAlarm, State.now, ha, hc, State.setAlarms_alarms]

theorem overrunRaised_alarms (h : Hose) (s : State) :
    (overrunRaised h s).alarms = (raiseAlarm (.overrun h) s).alarms := by
  have stopped := stopFill_touches h .overrun (overrunCaused h s)
  exact raiseAlarm_alarms _ (stopped .alarms (by decide)) (stopped .clock (by decide))

/-- R85, R91: a fill that flows stops when it overruns, with the cause OVERRUN whatever it was. -/
theorem overrunRaised_flowing (hf : (s.hose h).state = .flowing) (ht : s.tx h = some tx) :
    (overrunRaised h s).hose h = { s.hose h with
      state := .draining, valve := .closed, noFlow := .stopped, grace := .stopped,
      quiet := .running 2, cap := .running 15 } ∧
    (overrunRaised h s).tx h = some { tx with cause := some .overrun } := by
  obtain ⟨hose, stoppedTx, -⟩ := stopFill_stops (s := overrunCaused h s) (h := h) (.inl hf) .overrun
  refine ⟨hose, stoppedTx.trans ?_⟩
  rw [overrunCaused_tx ht]
  rfl

/-- R91: a fill that drains keeps its hose when it overruns; the cause becomes OVERRUN. -/
theorem overrunRaised_draining (hd : (s.hose h).state = .draining) (ht : s.tx h = some tx) :
    (overrunRaised h s).hose h = s.hose h ∧
    (overrunRaised h s).tx h = some { tx with cause := some .overrun } := by
  have stands : stopFill h .overrun (overrunCaused h s) = overrunCaused h s := stopFill_draining hd
  rw [overrunRaised, stands, (raiseAlarm_touches _ _).hose, (raiseAlarm_touches _ _).tx]
  exact ⟨rfl, overrunCaused_tx ht⟩

/-- R88, R91, R111: the inhibit that follows an overrun leaves the fill, which drains, but for the note. -/
theorem overrun_own (hd : ((overrunRaised h s).hose h).state = .draining)
    (ht : (overrunRaised h s).tx h = some tx) :
    (overrun h s).hose h = (overrunRaised h s).hose h ∧
      (overrun h s).tx h = some { tx with overrunNoted := true } := by
  obtain ⟨hose, own⟩ := inhibit_draining hd (compOf h) (.overrun h)
  rw [overrun_eq, State.tx_putTx, overrunInhibited, own, ht]
  exact ⟨hose, rfl⟩

/-! ## What an inhibit that follows does beside the fill (R111) -/

/-- R111: an inhibit leaves a hose that drains already, and one that neither waits nor fills. -/
theorem inhibit_stands {c : Comp} (hn : (s.comp c).inhibit = none) (k : InhibitCause) (hg : compOf g = c)
    (hs : (s.hose g).state = .draining ∨ (s.hose g).state.stoppable = false) :
    (inhibit c k s).hose g = s.hose g ∧ (inhibit c k s).tx g = s.tx g := by
  obtain ⟨u, hose, own, struck, struckTx⟩ := inhibit_at hn k hg
  rw [struck, struckTx, strike_of_else (by rw [hose]; exact hs)]
  exact ⟨hose, own⟩

/-- R85, R91, R111: what the inhibit of the compartment of `h` does beside `h`. -/
def InhibitedBeside (h : Hose) (k : InhibitCause) (s t : State) : Prop :=
  OtherComp (compOf h) s t ∧
  ((s.comp (compOf h)).inhibit = none →
    t.comp (compOf h) = { s.comp (compOf h) with inhibit := some ⟨k, s.clock⟩ } ∧
    (t.pump (compOf h)).isRunning = false ∧
    (∀ g, g ≠ h → compOf g = compOf h →
      ((s.hose g).state = .flowing ∨ (s.hose g).state = .paused →
        (t.hose g).state = .draining ∧
        t.tx g = (s.tx g).map (fun x => { x with cause := some (x.cause.getD .inhibit) })) ∧
      ((s.hose g).state = .identifying ∨ (s.hose g).state.isAwaiting = true →
        (t.hose g).state = .refused .inhibited ∧ t.tx g = s.tx g) ∧
      ((s.hose g).state = .draining ∨ (s.hose g).state.stoppable = false →
        t.hose g = s.hose g ∧ t.tx g = s.tx g))) ∧
  ((s.comp (compOf h)).inhibit ≠ none → OtherHoses h s t ∧ (∀ g, g ≠ h → t.tx g = s.tx g) ∧
    OnlyIn (.alarms :: stopParts) s t) ∧
  (∀ g, compOf g ≠ compOf h → t.hose g = s.hose g ∧ t.tx g = s.tx g) ∧
  OnlyIn (.comps :: .machines :: .queue :: .alarms :: stopParts) s t

/-- R111: an inhibit between two changes that stay with `h`. -/
theorem inhibitedBeside (before : OwnOnly h (.alarms :: stopParts) s u)
    (after : OwnOnly h [.hoses, .txs] (inhibit (compOf h) k u) t) : InhibitedBeside h k s t := by
  have comps : u.comp (compOf h) = s.comp (compOf h) := before.only.comp _
  have clock : u.clock = s.clock := before.only .clock (by decide)
  refine ⟨fun e he => ?_, fun hn => ?_, fun hi => ?_, fun g hg => ?_, ?_⟩
  · rw [after.only.comp, inhibit_otherComp _ k u e he, before.only.comp]
  · have hu : (u.comp (compOf h)).inhibit = none := by rw [comps]; exact hn
    refine ⟨?_, ?_, fun g hg hc => ?_⟩
    · rw [after.only.comp, State.comp, inhibit_comps hu, PerComp.get_set_self, comps, clock]
    · rw [after.only.pump]
      exact inhibit_pump hu k
    · rw [after.hoses g hg, after.txs g hg, ← before.hoses g hg, ← before.txs g hg]
      exact ⟨inhibit_stops hu k hc, inhibit_refuses hu k hc, inhibit_stands hu k hc⟩
  · rw [inhibit_again (by rw [comps]; exact hi)] at after
    have own := before.trans (after.mono (by decide))
    exact ⟨own.hoses, own.txs, own.only⟩
  · have hne : g ≠ h := fun he => hg (congrArg compOf he)
    obtain ⟨hose, own⟩ := inhibit_hose_ne k u hg
    rw [after.hoses g hne, after.txs g hne, hose, own]
    exact ⟨before.hoses g hne, before.txs g hne⟩
  · exact ((before.only.mono (by decide)).then (inhibit_touches _ k u) (by decide)).trans
      (after.only.mono (by decide))

theorem overrunInhibited_ownOnly (h : Hose) (s : State) : OwnOnly h [.hoses, .txs] (overrunInhibited h s) (overrun h s) :=
  (putTx_ownOnly h _ (overrunInhibited h s)).mono (by decide)

/-- R91: the alarms that an overrun leaves after a pulse that raised none. -/
theorem overrun_alarms (before : OwnOnly h [.hoses, .txs, .meters] s u) :
    (overrun h u).alarms = (raiseAlarm (.overrun h) s).alarms := by
  have inhibited : (overrunInhibited h u).alarms = (overrunRaised h u).alarms :=
    inhibit_touches _ _ _ .alarms (by decide)
  have raised := overrunRaised_alarms h u
  exact (inhibited.trans raised).trans
    (raiseAlarm_alarms _ (before.only .alarms (by decide)) (before.only .clock (by decide)))

/-! ## The pulse (R91) -/

/-- R82, R91: the first pulse beyond the reservation in FLOWING. -/
theorem hosePulse_overruns (hf : (s.hose h).state = .flowing) (ht : s.tx h = some tx)
    (hb : (s.store.cal.set.bands.get (meterOf h))[(s.meter (meterOf h)).band - 1]? = some b)
    (hr : tx.reservation < (countVolume b.factor tx.volume).net / 1000) (ho : tx.overrunNoted = false) :
    hosePulse h s = overrun h (timed h (counted h tx b s)) := by
  have hx : (timed h (counted h tx b s)).tx h =
      some { tx with volume := countVolume b.factor tx.volume } := counted_tx h tx b s
  have hn : newlyOverrun { tx with volume := countVolume b.factor tx.volume } = true :=
    newlyOverrun_of_beyond hr ho
  simp only [hosePulse, hf, pulseFlowing, countHosePulse_eq ht hb]
  change (if (((timed h (counted h tx b s)).tx h).map newlyOverrun).getD false = true then _ else _) = _
  rw [hx, Option.map_some, hn]
  rfl

/-- The state after an overrun in DRAINING: the drain quiet timer is restarted. -/
def quieted (h : Hose) (s : State) : State := s.putHose h { s.hose h with quiet := .running 2 }

/-- R89, R91: the first pulse beyond the reservation in DRAINING. -/
theorem hosePulse_overrunsDraining (hd : (s.hose h).state = .draining) (ht : s.tx h = some tx)
    (hb : (s.store.cal.set.bands.get (meterOf h))[(s.meter (meterOf h)).band - 1]? = some b)
    (hr : tx.reservation < (countVolume b.factor tx.volume).net / 1000) (ho : tx.overrunNoted = false) :
    hosePulse h s = quieted h (overrun h (counted h tx b s)) := by
  have hn : newlyOverrun { tx with volume := countVolume b.factor tx.volume } = true :=
    newlyOverrun_of_beyond hr ho
  simp only [hosePulse, hd, pulseDraining, countHosePulse_eq ht hb, counted_tx, Option.map_some, hn,
    Option.getD_some, if_true]
  rfl

/-- Settles O34: the pulse is counted, the fill overruns, and the inhibit that follows is `inhibitedBeside`. -/
theorem overrunStopsAndInhibits : Obligations.OverrunStopsAndInhibits := by
  unfold Obligations.OverrunStopsAndInhibits
  intro h tx b s hp ht hs hb hr ho
  have count : OwnOnly h [.hoses, .txs, .meters] s (counted h tx b s) :=
    (counted_ownOnly h tx b s).mono (by decide)
  obtain hf | hd := hs
  · let u := timed h (counted h tx b s)
    have before : OwnOnly h [.hoses, .txs, .meters] s u := count.trans ((putHose_ownOnly h _ _).mono (by decide))
    have hose : u.hose h = { s.hose h with noFlow := .running (s.config h).noFlowTime } := State.hose_putHose _ _
    have flows : (u.hose h).state = .flowing := by rw [hose]; exact hf
    obtain ⟨raised, raisedTx⟩ := overrunRaised_flowing flows (counted_tx h tx b s)
    obtain ⟨own, ownTx⟩ := overrun_own (by rw [raised]) raisedTx
    refine ⟨_, (exec_meterPulse hp h).trans (congrArg _ (hosePulse_overruns hf ht hb hr ho)), ownTx, ?_⟩
    rw [own, raised]
    exact ⟨rfl, rfl, fun _ => ⟨rfl, rfl⟩, fun hd => absurd (hd.symm.trans hf) nofun, overrun_alarms before,
      inhibitedBeside ((before.mono (by decide)).trans (overrunRaised_ownOnly h u)) (overrunInhibited_ownOnly h u)⟩
  · let u := counted h tx b s
    have drains : (u.hose h).state = .draining := hd
    obtain ⟨raised, raisedTx⟩ := overrunRaised_draining drains (counted_tx h tx b s)
    obtain ⟨own, ownTx⟩ := overrun_own (by rw [raised]; exact hd) raisedTx
    have quiet : (quieted h (overrun h u)).hose h = { s.hose h with quiet := .running 2 } := by
      rw [quieted, State.hose_putHose, own, raised]
      rfl
    refine ⟨_, (exec_meterPulse hp h).trans (congrArg _ (hosePulse_overrunsDraining hd ht hb hr ho)), ownTx, ?_⟩
    rw [quiet]
    exact ⟨hd, rfl, fun hf => absurd (hf.symm.trans hd) nofun, fun _ => rfl, overrun_alarms count,
      inhibitedBeside ((count.mono (by decide)).trans (overrunRaised_ownOnly h u))
        ((overrunInhibited_ownOnly h u).trans ((putHose_ownOnly h _ _).mono (by decide)))⟩

end Sys2Proof.Machine
end

section
/-! PROOF. The service and the settings of a hose (R98 to R100): what HOSE DISABLE, HOSE ENABLE and HOSE SETTINGS WRITE
accept, what they refuse, and what they change. -/

namespace Sys2Proof.Machine

variable {h g : Hose} {o : HoseOperands} {n : Nat} {b : Septet} {s : State}

@[simp] theorem State.config_putConfig (v : HoseConfig) (s : State) : (s.putConfig h v).config h = v :=
  PerHose.get_set_self _ _ _

theorem State.config_putConfig_ne (v : HoseConfig) (s : State) (hg : g ≠ h) :
    (s.putConfig h v).config g = s.config g :=
  PerHose.get_set_ne _ _ hg

/-! ## HOSE DISABLE (R98) -/

/-- The state after a hose is blocked, its enabled setting cleared and its channel OFF. -/
def hoseDisabled (h : Hose) (s : State) : State := channelOff h (moveHose h .blocked (setEnabled h false s))

theorem hoseDisabled_touches (h : Hose) (s : State) : OnlyIn [.hoses, .channels, .hoseConfigs] s (hoseDisabled h s) :=
  (((only_setHoseConfigs _ s).mono (by decide)).then (moveHose_touches _ _ _) (by decide)).then
    (channelOff_touches _ _) (by decide)

theorem hoseDisabled_hose (h : Hose) (s : State) : (hoseDisabled h s).hose h = { s.hose h with
    state := .blocked, identify := .stopped, approval := .stopped } :=
  ((channelOff_touches _ _).hose h).trans (State.hose_putHose _ _)

theorem hoseDisabled_otherHoses (h : Hose) (s : State) : OtherHoses h s (hoseDisabled h s) := fun g hg =>
  ((channelOff_touches _ _).hose g).trans (State.hose_putHose_ne _ _ hg)

theorem hoseDisabled_config (h : Hose) (s : State) :
    (hoseDisabled h s).config h = { s.config h with enabled := false } :=
  State.config_putConfig _ s

theorem hoseDisabled_config_ne (s : State) (hg : g ≠ h) : (hoseDisabled h s).config g = s.config g :=
  State.config_putConfig_ne _ s hg

/-- R98: HOSE DISABLE of a hose at rest, with the state BLOCKED in its answer. -/
theorem ownHoseDisable_resting (hn : n = hoseNumber h) (hr : (s.hose h).state.resting = true) :
    ownHoseDisable n s = .ok (hoseDisabled h s, [.count (hoseNumber h), .code 4]) := by
  have fields : hoseStateFields h (hoseDisabled h s) = [.count (hoseNumber h), .code 4] := by
    rw [hoseStateFields, hoseDisabled_hose]
    rfl
  rw [← fields]
  simp only [ownHoseDisable, hn, hoseOfNumber_hoseNumber, hr, Bool.not_true, Bool.false_eq_true, if_false]
  rfl

/-- R98: HOSE DISABLE of a hose in use. -/
theorem ownHoseDisable_busy (hn : n = hoseNumber h) (hr : (s.hose h).state.resting = false) :
    ownHoseDisable n s = .error .busy := by
  simp only [ownHoseDisable, hn, hoseOfNumber_hoseNumber, hr, Bool.not_false, if_true]

theorem hoseDisable_disables (hr : Ready s) (tag : SeqTag) (hn : b.toNat = hoseNumber h)
    (hs : (s.hose h).state.resting = true) : ∃ t, exec (.hoseDisable tag [b]) s = .next t ∧
      t.hose h = { s.hose h with state := .blocked, identify := .stopped, approval := .stopped } ∧
      t.channel h = { s.channel h with state := .off, run := 0, hold := .stopped } ∧
      t.config h = { s.config h with enabled := false } ∧ OtherHoses h s t ∧
      OtherChannels h s t ∧ (∀ g, g ≠ h → t.config g = s.config g) ∧
      OnlyIn [.hoses, .channels, .hoseConfigs, .link] s t ∧
      replyOf t = some (.answer tag 43 [.count (hoseNumber h), .code 4]) :=
  ⟨_, congrArg Host.Outcome.next (countRequest_ok hr (ownHoseDisable_resting (s := heard s) hn hs)),
    hoseDisabled_hose h (heard s), channelOff_channel h (moveHose h .blocked (setEnabled h false (heard s))),
    hoseDisabled_config h (heard s), hoseDisabled_otherHoses h (heard s),
    channelOff_others h (moveHose h .blocked (setEnabled h false (heard s))),
    fun _ hg => hoseDisabled_config_ne (heard s) hg,
    (((heard_touches s).mono (by decide)).then (hoseDisabled_touches _ _) (by decide)).then
      (replied_touches _ _) (by decide), rfl⟩

/-! ## HOSE ENABLE (R99) -/

/-- The state after a hose is enabled: a BLOCKED one has returned by its nozzle switch. -/
def hoseEnabled (h : Hose) (s : State) : State := unblock h (setEnabled h true s)

theorem unblock_touches (h : Hose) (s : State) : OnlyIn [.hoses] s (unblock h s) :=
  .ite (moveHose_touches _ _ _) (.refl _ _)

theorem unblock_otherHoses (h : Hose) (s : State) : OtherHoses h s (unblock h s) := by
  intro g hg
  unfold unblock
  split
  · exact State.hose_putHose_ne _ _ hg
  · rfl

/-- R99: the state in which a hose is after its enabling. -/
theorem unblock_state (h : Hose) (s : State) : ((unblock h s).hose h).state =
    if (s.hose h).state = .blocked then (if s.inputs.lifted.get h then .refused .rehang else .idle)
    else (s.hose h).state := by
  unfold unblock
  split
  · rw [moveHose, State.hose_putHose]
    rfl
  · rfl

theorem hoseEnabled_touches (h : Hose) (s : State) : OnlyIn [.hoses, .hoseConfigs] s (hoseEnabled h s) :=
  ((only_setHoseConfigs _ s).mono (by decide)).then (unblock_touches _ _) (by decide)

theorem hoseEnabled_config (h : Hose) (s : State) :
    (hoseEnabled h s).config h = { s.config h with enabled := true } := by
  have kept := unblock_touches h (setEnabled h true s) .hoseConfigs (by decide)
  exact (congrArg (PerHose.get · h) kept).trans (State.config_putConfig _ s)

theorem hoseEnabled_config_ne (s : State) (hg : g ≠ h) : (hoseEnabled h s).config g = s.config g := by
  have kept := unblock_touches h (setEnabled h true s) .hoseConfigs (by decide)
  exact (congrArg (PerHose.get · g) kept).trans (State.config_putConfig_ne _ s hg)

theorem ownHoseEnable_hose (hn : n = hoseNumber h) (s : State) :
    ownHoseEnable n s = .ok (hoseEnabled h s, hoseStateFields h (hoseEnabled h s)) := by
  simp only [ownHoseEnable, hn, hoseOfNumber_hoseNumber]
  rfl

theorem hoseEnable_enables (hr : Ready s) (tag : SeqTag) (hn : b.toNat = hoseNumber h) :
    ∃ t, exec (.hoseEnable tag [b]) s = .next t ∧
      t.config h = { s.config h with enabled := true } ∧ OtherHoses h s t ∧
      (∀ g, g ≠ h → t.config g = s.config g) ∧
      (t.hose h).state = (if (s.hose h).state = .blocked then
        (if s.inputs.lifted.get h then .refused .rehang else .idle) else (s.hose h).state) ∧
      OnlyIn [.hoses, .hoseConfigs, .link] s t ∧
      replyOf t = some (.answer tag 42 [.count (hoseNumber h), .code (t.hose h).state.code]) :=
  ⟨_, congrArg Host.Outcome.next (countRequest_ok hr (ownHoseEnable_hose hn (heard s))),
    hoseEnabled_config h (heard s), unblock_otherHoses h (setEnabled h true (heard s)),
    fun _ hg => hoseEnabled_config_ne (heard s) hg, unblock_state h (setEnabled h true (heard s)),
    (((heard_touches s).mono (by decide)).then (hoseEnabled_touches _ _) (by decide)).then
      (replied_touches _ _) (by decide), rfl⟩

/-! ## HOSE SETTINGS WRITE (R100) -/

theorem ownHoseSettingsWrite_range (hn : o.hose = hoseNumber h) (hi : o.inRange = false) :
    ownHoseSettingsWrite o s = .error .range := by
  simp only [ownHoseSettingsWrite, hn, hoseOfNumber_hoseNumber, hi, Bool.not_false, if_true]

theorem ownHoseSettingsWrite_busy (hn : o.hose = hoseNumber h) (hi : o.inRange = true)
    (hs : (s.hose h).state.resting = false) : ownHoseSettingsWrite o s = .error .busy := by
  simp only [ownHoseSettingsWrite, hn, hoseOfNumber_hoseNumber, hi, hs, Bool.not_true, Bool.not_false,
    Bool.false_eq_true, if_false, if_true]

theorem ownHoseSettingsWrite_resting (hn : o.hose = hoseNumber h) (hi : o.inRange = true)
    (hs : (s.hose h).state.resting = true) : ownHoseSettingsWrite o s =
      .ok (s.putConfig h (o.settings (s.config h).enabled), [.count (hoseNumber h)]) := by
  simp only [ownHoseSettingsWrite, hn, hoseOfNumber_hoseNumber, hi, hs, Bool.not_true, Bool.false_eq_true, if_false]

/-- Settles O37: each request is its owner's equation in the state that has heard it. -/
theorem hoseServiceAndSettings : Obligations.HoseServiceAndSettings := by
  unfold Obligations.HoseServiceAndSettings
  refine fun tag h s hr => ⟨fun n hn => ⟨hoseDisable_disables hr tag hn, fun hs => ?_, hoseEnable_enables hr tag hn⟩,
    fun body o hp hn => ⟨fun hi hs => ?_, fun hi hs => ?_, fun hi => ?_⟩⟩
  · exact congrArg Host.Outcome.next (countRequest_error hr (ownHoseDisable_busy (s := heard s) hn hs))
  · exact ⟨_, congrArg Host.Outcome.next
        (takeRequest_ok hr hp (ownHoseSettingsWrite_resting (s := heard s) hn hi hs)),
      State.config_putConfig _ (heard s), fun _ hg => State.config_putConfig_ne _ (heard s) hg,
      (((heard_touches s).mono (by decide)).then (only_setHoseConfigs _ _) (by decide)).then
        (replied_touches _ _) (by decide), rfl⟩
  · exact request_refused hr hp (ownHoseSettingsWrite_busy (s := heard s) hn hi hs)
  · exact request_refused hr hp (ownHoseSettingsWrite_range (s := heard s) hn hi)

end Sys2Proof.Machine
end

section
/-! PROOF. The law of the pumps (O42) as a law that one change of the state keeps: a change that takes no demand from a
compartment keeps it, and so does one after which demand is evaluated (R103). -/

namespace Sys2Proof.Machine

variable {s t u : State} {g h : Hose} {c e : Comp} {k : Nat} {m : MachineEntry} {ps : List Part} {cause : StopCause}
  {r : Reason}

/-! ## Demand (R103) -/

theorem demand_iff : demand c s = true ↔ (∃ h, compOf h = c ∧ (s.hose h).state = .flowing) ∧
    (s.comp c).inhibit = none ∧ s.inputs.emergency = false := by
  simp [demand, flowing, List.any_eq_true, mem_hosesOf, and_assoc]

theorem demand_mono (hh : ∀ h, compOf h = c → (s.hose h).state = .flowing → (t.hose h).state = .flowing)
    (hi : (s.comp c).inhibit = none → (t.comp c).inhibit = none) (he : t.inputs.emergency = s.inputs.emergency)
    (hd : demand c s = true) : demand c t = true := by
  obtain ⟨⟨h, hc, hf⟩, normal, quiet⟩ := demand_iff.mp hd
  exact demand_iff.mpr ⟨⟨h, hc, hh h hc hf⟩, hi normal, he.trans quiet⟩

/-- R103: the law of the pump of one compartment. -/
def PumpDriven (c : Comp) (s : State) : Prop :=
  s.power = .on → (s.pump c).isRunning = true → demand c s = true

theorem pumpLaw_iff : PumpLaw s ↔ ∀ c, PumpDriven c s := by
  simp only [PumpLaw, PumpDriven, demand_iff]
  exact ⟨fun l c hp => l hp c, fun l hp c => l c hp⟩

theorem evalPump_demand (c e : Comp) (s : State) : demand e (evalPump c s) = demand e s := by
  have ho := evalPump_touches c s
  have inputs : (evalPump c s).inputs = s.inputs := ho .inputs (by decide)
  rw [Bool.eq_iff_iff, demand_iff, demand_iff, ho.comp _ (by decide), inputs]
  simp only [ho.hose _ (by decide)]

/-- R103: a pump whose demand has been evaluated runs on demand alone. -/
theorem evalPump_driven (c : Comp) (s : State) : PumpDriven c (evalPump c s) := by
  intro _ hr
  rw [evalPump_demand]
  by_contra hd
  rw [evalPump_of_no_demand (Bool.eq_false_of_not_eq_true hd)] at hr
  cases hr

theorem evalPump_driven_ne (he : e ≠ c) (l : PumpDriven e s) : PumpDriven e (evalPump c s) := by
  unfold PumpDriven
  rw [evalPump_demand, evalPump_pump_ne s he, evalPump_touches c s .power (by decide)]
  exact l

/-! ## What it means to keep the law -/

/-- The law of the pumps holds after a change where it held before. -/
structure PumpKept (s t : State) : Prop where
  law : PumpLaw s → PumpLaw t

theorem PumpKept.refl (s : State) : PumpKept s s := ⟨id⟩

theorem PumpKept.trans (a : PumpKept s t) (b : PumpKept t u) : PumpKept s u := ⟨fun l => b.law (a.law l)⟩

theorem PumpKept.ite {p : Prop} [Decidable p] (a : p → PumpKept s t) (b : ¬ p → PumpKept s u) :
    PumpKept s (if p then t else u) := by
  split
  · exact a ‹_›
  · exact b ‹_›

/-- An event that is taken under a condition, and comes to nothing without it. -/
theorem PumpKept.when {p : Prop} [Decidable p] (a : p → PumpKept s t) : PumpKept s (if p then t else s) :=
  .ite a fun _ => .refl s

/-- R19, R101: where no pump runs the law holds. -/
theorem PumpKept.of_still (h : ∀ c, (t.pump c).isRunning = false) : PumpKept s t :=
  ⟨fun _ => pumpLaw_iff.mpr fun c _ hr => absurd hr (ne_true_of_eq_false (h c))⟩

/-- A part that does not run has no pump to drive. -/
theorem PumpKept.of_not_on (h : t.power ≠ .on) : PumpKept s t := ⟨fun _ hp => absurd hp h⟩

/-- The parts that the law does not look at: neither the pumps, nor the hoses, the compartments and the inputs, nor
the power. -/
abbrev pumpFreeParts : List Part :=
  [.machines, .queue, .accounts, .hoseConfigs, .txs, .pumpConfigs, .delivery, .selector, .log, .shift, .cal, .site,
    .clock, .channels, .meters, .sources, .units, .inlet, .logWatch, .guard, .park, .link, .alarms, .handed, .draws,
    .pending, .line]

/-- A pump whose compartment loses no demand. -/
theorem PumpDriven.of_demand (ho : OnlyIn (.hoses :: .comps :: pumpFreeParts) s t)
    (hh : ∀ h, compOf h = c → (s.hose h).state = .flowing → (t.hose h).state = .flowing)
    (hi : (s.comp c).inhibit = none → (t.comp c).inhibit = none) (l : PumpDriven c s) : PumpDriven c t := by
  intro hp hr
  rw [ho .power (by decide)] at hp
  rw [ho.pump c (by decide)] at hr
  exact demand_mono hh hi (congrArg Inputs.emergency (ho .inputs (by decide))) (l hp hr)

/-- A change after which every hose that flowed flows, and no compartment is INHIBITED that was not. -/
theorem PumpKept.of_demand (ho : OnlyIn (.hoses :: .comps :: pumpFreeParts) s t)
    (hh : ∀ h, (s.hose h).state = .flowing → (t.hose h).state = .flowing)
    (hi : ∀ c, (s.comp c).inhibit = none → (t.comp c).inhibit = none) : PumpKept s t :=
  ⟨fun l => pumpLaw_iff.mpr fun c => .of_demand ho (fun h _ => hh h) (hi c) (pumpLaw_iff.mp l c)⟩

/-- A change within the parts that the law does not look at. -/
theorem OnlyIn.pumpKept (ho : OnlyIn ps s t) (hp : ps ⊆ pumpFreeParts) : PumpKept s t := by
  have ho := ho.mono hp
  exact .of_demand (ho.mono (by decide)) (fun h => by rw [ho.hose _ (by decide)]; exact id) fun c => by
    rw [ho.comp _ (by decide)]; exact id

theorem PumpKept.then (a : PumpKept s t) (ho : OnlyIn ps t u) (hp : ps ⊆ pumpFreeParts) : PumpKept s u :=
  a.trans (ho.pumpKept hp)

/-- R103: where demand is evaluated for a compartment, the change before may have taken its demand. -/
theorem PumpKept.of_evaluated (ho : OnlyIn (.hoses :: .comps :: pumpFreeParts) s t)
    (hh : ∀ h, compOf h ≠ c → (s.hose h).state = .flowing → (t.hose h).state = .flowing)
    (hi : ∀ e, e ≠ c → (s.comp e).inhibit = none → (t.comp e).inhibit = none) : PumpKept s (evalPump c t) := by
  refine ⟨fun l => pumpLaw_iff.mpr fun e => ?_⟩
  by_cases he : e = c
  · subst he
    exact evalPump_driven e t
  · exact evalPump_driven_ne he
      (.of_demand ho (fun h hc => hh h (by rw [hc]; exact he)) (hi e he) (pumpLaw_iff.mp l e))

theorem evalPump_pumpKept (c : Comp) (s : State) : PumpKept s (evalPump c s) :=
  .of_evaluated (.refl _ s) (fun _ _ => id) fun _ _ => id

theorem settle_pumpKept (c : Comp) (s : State) : PumpKept s (settle c s) :=
  (evalPump_pumpKept c s).then (evalRest_touches _ _) (by decide)

/-- R103, R107, R108: where demand is evaluated for both compartments, the law holds. -/
theorem evalPumps_pumpLaw (s : State) : PumpLaw (evalPump .c2 (evalPump .c1 s)) :=
  pumpLaw_iff.mpr fun
    | .c1 => evalPump_driven_ne (by decide) (evalPump_driven .c1 s)
    | .c2 => evalPump_driven .c2 _

/-! ## One compartment, one hose -/

/-- A compartment that does not become INHIBITED. -/
theorem putComp_pumpKept {x : Compartment} (hx : (s.comp c).inhibit = none → x.inhibit = none) :
    PumpKept s (s.putComp c x) := by
  have ho := only_setComps (s.store.comps.set c x) s
  refine .of_demand (ho.mono (by decide)) (fun h => by rw [ho.hose _ (by decide)]; exact id) fun e => ?_
  by_cases he : e = c
  · subst he
    rw [State.comp_putComp]
    exact hx
  · rw [State.comp_putComp_ne _ _ he]
    exact id

/-- A hose that flows on, if it flowed. -/
theorem putHose_pumpKept {x : HoseCtl} (hx : (s.hose h).state = .flowing → x.state = .flowing) :
    PumpKept s (s.putHose h x) := by
  have ho := only_setHoses (s.hoses.set h x) s
  refine .of_demand (ho.mono (by decide)) (fun g => ?_) fun c => by rw [ho.comp _ (by decide)]; exact id
  by_cases hg : g = h
  · subst hg
    rw [State.hose_putHose]
    exact hx
  · rw [State.hose_putHose_ne _ _ hg]
    exact id

/-- R103: a change of one hose, with the demand of its compartment evaluated. -/
theorem PumpKept.of_settled (ho : OnlyIn ps s t) (others : OtherHoses h s t)
    (hp : ps ⊆ .hoses :: pumpFreeParts) : PumpKept s (settle (compOf h) t) := by
  have ho := ho.mono hp
  refine (PumpKept.of_evaluated (c := compOf h) (ho.mono (by decide)) (fun g hc => ?_) fun e _ => ?_).then
    (evalRest_touches _ _) (by decide)
  · have hg : g ≠ h := by rintro rfl; exact hc rfl
    rw [others g hg]
    exact id
  · rw [ho.comp _ (by decide)]
    exact id

end Sys2Proof.Machine
end

section
/-! PROOF. The law of the pumps (O42) over the hoses (R58 to R92, R111, R174), the compartments (R112, R115, R119, R124,
R131, R143, R161) and the power (R19, R101). -/

namespace Sys2Proof.Machine

variable {s t : State} {g h : Hose} {c : Comp} {k : Nat} {id : TagId} {m : MachineEntry} {ps : List Part}
  {cause : StopCause} {r : Reason} {d : Delivery}

/-! ## Hoses that wait (R59, R60, R64) -/

theorem moveHose_pumpKept {st : HoseState} (hn : (s.hose h).state ≠ .flowing) : PumpKept s (moveHose h st s) :=
  putHose_pumpKept fun hf => absurd hf hn

theorem refuseHose_pumpKept (hn : (s.hose h).state ≠ .flowing) (r : Reason) : PumpKept s (refuseHose h r s) :=
  (moveHose_pumpKept hn).then (endAwaitHold_touches _ _) (by decide)

theorem idleHose_pumpKept (hn : (s.hose h).state ≠ .flowing) : PumpKept s (idleHose h s) :=
  (moveHose_pumpKept hn).then (endAwaitHold_touches _ _) (by decide)

/-! ## Stops and conditions (R59, R85, R88, R104, R107, R111, R174) -/

theorem stopFill_of_not (hs : ¬ (s.hose h).state.stops) (cause : StopCause) : stopFill h cause s = s := by
  cases hc : (s.hose h).state with
  | flowing => exact absurd (.inl hc) hs
  | paused => exact absurd (.inr hc) hs
  | _ => simp only [stopFill, hc]

/-- R88, R103: a stop event is followed by the evaluation of demand. -/
theorem stopFill_pumpKept (h : Hose) (cause : StopCause) (s : State) : PumpKept s (stopFill h cause s) := by
  by_cases hs : (s.hose h).state.stops
  · obtain ⟨u, hu, ho, hoses, -⟩ := exists_stopFill hs cause
    rw [hu]
    refine .of_settled ho (fun g hg => ?_) (by decide)
    rw [State.hose, hoses]
    exact State.hose_putHose_ne _ _ hg
  · rw [stopFill_of_not hs]
    exact .refl s

theorem strike_pumpKept (cause : StopCause) (r : Reason) (h : Hose) (s : State) :
    PumpKept s (strike cause r h s) := by
  unfold strike
  split
  · exact stopFill_pumpKept h cause s
  · exact stopFill_pumpKept h cause s
  · rename_i hs; exact refuseHose_pumpKept (by rw [hs]; nofun) r
  · rename_i hs; exact refuseHose_pumpKept (by rw [hs]; nofun) r
  all_goals exact .refl s

theorem strikeAll_pumpKept (cause : StopCause) (r : Reason) (hs : List Hose) (s : State) :
    PumpKept s (strikeAll cause r hs s) :=
  strikeAll_keeps (P := PumpKept s) (fun h t ht => ht.trans (strike_pumpKept cause r h t)) hs (.refl s)

/-- R103, R111: a compartment that becomes INHIBITED has its demand evaluated. -/
theorem markInhibited_pumpKept (c : Comp) (k : InhibitCause) (s : State) : PumpKept s (markInhibited c k s) := by
  have ho := only_setComps (s.store.comps.set c { s.comp c with inhibit := some ⟨k, s.clock⟩ }) s
  refine .of_evaluated (ho.mono (by decide)) (fun h _ => by rw [ho.hose _ (by decide)]; exact id) fun e he => ?_
  rw [State.comp_putComp_ne _ _ he]
  exact id

theorem inhibit_pumpKept (c : Comp) (k : InhibitCause) (s : State) : PumpKept s (inhibit c k s) := by
  by_cases hn : (s.comp c).inhibit = none
  · rw [inhibit_normal hn]
    exact ((markInhibited_pumpKept c k s).trans (strikeAll_pumpKept _ _ _ _)).then
      (evalRest_touches _ _) (by decide)
  · rw [inhibit_again hn]
    exact .refl s

theorem integrityCheck_pumpKept (s : State) : PumpKept s (integrityCheck s) :=
  .ite (fun _ => .refl s) fun _ =>
    (((only_setGuard _ s).pumpKept (by decide)).then (raiseAlarm_touches _ _) (by decide)).trans
      (strikeAll_pumpKept _ _ _ _)

/-- R102, R104: a pump that is set to a state in which it does not run. -/
theorem putPump_pumpKept {p : Pump} (hp : p.isRunning = false) : PumpKept s (s.putPump c p) := by
  have ho : OnlyIn [.pumps] s (s.putPump c p) := only_setPumps _ s
  refine ⟨fun l => pumpLaw_iff.mpr fun e hon hr => ?_⟩
  by_cases he : e = c
  · subst he
    rw [State.pump_putPump, hp] at hr
    cases hr
  · rw [State.pump_putPump_ne _ _ he] at hr
    exact demand_mono (fun h _ => by rw [ho.hose _ (by decide)]; exact id) (by rw [ho.comp _ (by decide)]; exact id) rfl
      (pumpLaw_iff.mp l e hon hr)

theorem guardPump_pumpKept (c : Comp) (s : State) : PumpKept s (guardPump c s) :=
  (((putPump_pumpKept rfl).trans (strikeAll_pumpKept _ _ _ _)).then (raiseAlarm_touches _ _) (by decide)).then
    (evalRest_touches _ _) (by decide)

/-- R103, R107: the emergency stop evaluates the demand of both compartments before it reaches the hoses. -/
theorem emergencyStop_pumpLaw (s : State) : PumpLaw (emergencyStop s) := by
  have evaluated := evalPumps_pumpLaw (disturbPark .emergency .emergency s)
  have after : PumpKept (evalPump .c2 (evalPump .c1 (disturbPark .emergency .emergency s))) (emergencyStop s) :=
    ((((strikeAll_pumpKept _ _ _ _).then (closeInlet_touches _ _) (by decide)).then
      (raiseAlarm_touches _ _) (by decide)).then (evalRest_touches _ _) (by decide)).then (evalRest_touches _ _)
      (by decide)
  exact after.law evaluated

/-! ## The stage, the pulses and the drain (R1, R79, R89 to R92, R109) -/

/-- R79: a stage leaves the hose FLOWING. -/
theorem evalStage_pumpKept (h : Hose) (s : State) : PumpKept s (evalStage h s) := by
  unfold evalStage
  split
  · exact .refl s
  · exact .ite (fun _ => stopFill_pumpKept h .limit s) fun _ => putHose_pumpKept id

theorem overrun_pumpKept (h : Hose) (s : State) : PumpKept s (overrun h s) :=
  (((((only_setTxs _ s).pumpKept (by decide)).trans (stopFill_pumpKept h _ _)).then (raiseAlarm_touches _ _)
    (by decide)).trans (inhibit_pumpKept _ _ _)).then (only_setTxs _ _) (by decide)

theorem pulseFlowing_pumpKept (h : Hose) (s : State) : PumpKept s (pulseFlowing h s) := by
  have restart : PumpKept s (timed h (countHosePulse h s)) :=
    ((countHosePulse_touches h s).pumpKept (by decide)).trans (putHose_pumpKept id)
  exact .ite (fun _ => restart.trans (overrun_pumpKept h _)) fun _ => restart.trans (evalStage_pumpKept h _)

theorem pulseDraining_pumpKept (h : Hose) (s : State) : PumpKept s (pulseDraining h s) := by
  have count : PumpKept s (countHosePulse h s) := (countHosePulse_touches h s).pumpKept (by decide)
  have tested : PumpKept s (if (((countHosePulse h s).tx h).map newlyOverrun).getD false
      then overrun h (countHosePulse h s) else countHosePulse h s) :=
    .ite (fun _ => count.trans (overrun_pumpKept h _)) fun _ => count
  exact tested.trans (putHose_pumpKept id)

theorem hosePulse_pumpKept (h : Hose) (s : State) : PumpKept s (hosePulse h s) := by
  unfold hosePulse
  split
  · exact pulseFlowing_pumpKept h s
  · exact pulseDraining_pumpKept h s
  all_goals
    rw [strayPulse_eq]
    exact ((strayNoted_touches h s).pumpKept (by decide)).trans (inhibit_pumpKept _ _ _)

/-- R92: the charge of a fill inhibits no compartment. -/
theorem settledFill_pumpKept (h : Hose) (x : Transaction) (s : State) : PumpKept s (settledFill h x s) := by
  have ho : OnlyIn (.txs :: chargeParts) s (settledFill h x s) :=
    ((chargeFill_touches h x s).mono (by decide)).then (only_setTxs _ _) (by decide)
  refine .of_demand (ho.mono (by decide)) (fun g => by rw [ho.hose _ (by decide)]; exact id) fun c => ?_
  by_cases hc : c = compOf h
  · subst hc
    rw [(settledFill_comp h x s).2.2]
    exact id
  · rw [settledFill_comp_ne h x s c hc]
    exact id

/-- R92, R103: the close of a fill is followed by the evaluation of demand. -/
theorem closeFill_pumpKept (h : Hose) (s : State) : PumpKept s (closeFill h s) := by
  cases ht : s.tx h with
  | none =>
    have same : closeFill h s = s := by simp only [closeFill, ht]
    rw [same]
    exact .refl s
  | some tx =>
    have rested : OnlyIn [.hoses, .machines, .queue, .meters] (settledFill h tx s)
        (stopInterval (meterOf h) (endHold tx.machine (closedFill h tx s))) :=
      (((only_setHoses _ _).mono (by decide)).then (endHold_touches _ _) (by decide)).then
        (stopInterval_touches _ _) (by decide)
    have others : OtherHoses h (settledFill h tx s)
        (stopInterval (meterOf h) (endHold tx.machine (closedFill h tx s))) := fun g hg =>
      ((stopInterval_touches _ _).hose g (by decide)).trans
        (((endHold_touches _ _).hose g (by decide)).trans (State.hose_putHose_ne _ _ hg))
    rw [closeFill_eq ht]
    exact (settledFill_pumpKept h tx s).trans (.of_settled rested others (by decide))

theorem cutDrain_pumpKept (h : Hose) (s : State) : PumpKept s (cutDrain h s) := by
  rw [cutDrain_eq]
  exact ((cutNoted_touches h s).pumpKept (by decide)).trans (inhibit_pumpKept _ _ _)

/-! ## The grant and the lookup (R61 to R68, R71 to R76) -/

/-- R75, R76: the opening of a fill sets its hose FLOWING and inhibits no compartment. -/
theorem opened_pumpKept (h : Hose) (x : Transaction) (s : State) : PumpKept s (opened h x s) := by
  refine .of_demand ((opened_only h x s).mono (by decide)) (fun g => ?_) fun c => ?_
  · by_cases hg : g = h
    · subst hg
      exact fun _ => opened_state g x s
    · rw [opened_hose_ne _ _ hg]
      exact id
  · by_cases hc : c = compOf h
    · subst hc
      rw [opened_comp]
      exact id
    · rw [opened_comp_ne _ _ hc]
      exact id

theorem grant_pumpKept {g : GrantRequest} (hn : (s.hose g.hose).state ≠ .flowing) : PumpKept s (grant g s) := by
  unfold grant
  split
  · exact .refl s
  · split
    · exact refuseHose_pumpKept hn _
    · rw [openFill_eq]
      exact ((opened_pumpKept _ _ _).trans (evalStage_pumpKept _ _)).trans (settle_pumpKept _ _)

theorem dropLink_pumpKept (h : Hose) (s : State) : PumpKept s (dropLink h s) := by
  unfold dropLink
  split
  · rename_i hs
    have hn : (s.hose h).state ≠ .flowing := by rw [hs]; nofun
    exact .ite (fun _ => grant_pumpKept hn) fun _ => refuseHose_pumpKept hn _
  all_goals exact .refl s

theorem dropLinks_pumpKept (hs : List Hose) (s : State) : PumpKept s (dropLinks hs s) := by
  induction hs generalizing s with
  | nil => exact .refl s
  | cons h hs ih => exact (dropLink_pumpKept h s).trans (ih _)

section Waiting

variable (hn : (s.hose h).state ≠ .flowing)

include hn

theorem identified_pumpKept : PumpKept s (identified h k id m s) :=
  .ite (fun _ => .ite (fun _ => putHose_pumpKept fun hf => absurd hf hn) fun _ => grant_pumpKept hn) fun _ =>
    .ite (fun _ => grant_pumpKept hn) fun _ => refuseHose_pumpKept hn _

theorem lookup_pumpKept (id : TagId) : PumpKept s (lookup h id s) := by
  unfold lookup
  split
  · exact refuseHose_pumpKept hn _
  · split
    · exact refuseHose_pumpKept hn _
    · unfold testEntry
      refine .ite (fun _ => refuseHose_pumpKept hn _) fun _ => ?_
      split
      · exact refuseHose_pumpKept hn _
      · exact identified_pumpKept hn

theorem authorise_pumpKept (preset : Option Int) : PumpKept s (authorise h k preset m s) := by
  unfold authorise
  refine .ite (fun _ => refuseHose_pumpKept hn _) fun _ => ?_
  split
  · exact refuseHose_pumpKept hn _
  · exact grant_pumpKept hn

end Waiting

/-! ## Nozzles and reports (R58, R60, R64, R70, R83 to R86, R94) -/

theorem liftHose_pumpKept (h : Hose) (s : State) : PumpKept s (liftHose h s) := by
  by_cases hs : (s.hose h).state = .idle
  · have hn : (s.hose h).state ≠ .flowing := by rw [hs]; nofun
    cases hc : siteCondition h s with
    | some r => rw [liftHose_refused hs hc]; exact moveHose_pumpKept hn
    | none =>
      rw [liftHose_identifies hs hc]
      exact (putHose_pumpKept fun hf => absurd hf hn).then (channelOn_touches _ _) (by decide)
  · rw [liftHose_of_not hs]
    exact .refl s

theorem hangHose_pumpKept (h : Hose) (s : State) : PumpKept s (hangHose h s) := by
  have off (t : State) : PumpKept t (channelOff h t) := (channelOff_touches h t).pumpKept (by decide)
  unfold hangHose
  split
  · rename_i hs; exact (idleHose_pumpKept (by rw [hs]; nofun)).trans (off _)
  · rename_i hs; exact (idleHose_pumpKept (by rw [hs]; nofun)).trans (off _)
  · exact (stopFill_pumpKept h _ s).trans (off _)
  · exact (stopFill_pumpKept h _ s).trans (off _)
  · exact off s
  · rename_i hs; exact (moveHose_pumpKept (by rw [hs]; nofun)).trans (off _)
  · rename_i hs; exact (moveHose_pumpKept (by rw [hs]; nofun)).trans (off _)
  all_goals exact .refl s

theorem pauseFill_pumpKept (h : Hose) (s : State) : PumpKept s (pauseFill h s) := by
  rw [pauseFill_eq]
  refine .of_settled (pausing_touches h s) (fun g hg => ?_) (by decide)
  rw [pausing, (stopInterval_touches _ _).hose g (by decide), State.hose_putHose_ne _ _ hg]

theorem resumeFill_pumpKept (h : Hose) (tx : Transaction) (s : State) : PumpKept s (resumeFill h tx s) := by
  have moved : PumpKept s (resumed h tx s) :=
    (((only_setTxs _ s).pumpKept (by decide)).trans (putHose_pumpKept fun _ => rfl)).then (startInterval_touches _ _)
      (by decide)
  rw [resumeFill_eq]
  exact (moved.trans (evalStage_pumpKept h _)).trans (settle_pumpKept _ _)

theorem takeConfirmed_pumpKept (h : Hose) (id : TagId) (s : State) : PumpKept s (takeConfirmed h id s) := by
  unfold takeConfirmed
  split
  · rename_i hs
    exact lookup_pumpKept (by rw [hs]; nofun) id
  · unfold confirmPaused
    split
    · exact .refl s
    · exact .ite (fun _ => .refl s) fun _ =>
        .ite (fun _ => resumeFill_pumpKept h _ s) fun _ => stopFill_pumpKept h _ s
  all_goals exact .refl s

theorem takeLost_pumpKept (h : Hose) (s : State) : PumpKept s (takeLost h s) :=
  .when fun _ => .ite (fun _ => stopFill_pumpKept h _ s) fun _ => pauseFill_pumpKept h s

/-! ## Compartments (R112, R115, R119, R124, R131, R143, R161) -/

theorem setStale_pumpKept (c : Comp) (s : State) : PumpKept s (setStale c s) := putComp_pumpKept id

theorem afterBookChange_pumpKept (c : Comp) (s : State) : PumpKept s (afterBookChange c s) :=
  (setStale_pumpKept c s).then (watchStock_touches _ _) (by decide)

theorem completeRun_pumpKept (c : Comp) (reqs : List Requester) (n sum : Nat) (s : State) :
    PumpKept s (completeRun c reqs n sum s) := by
  have gauged : PumpKept s (s.putComp c { s.comp c with gauging :=
      { ok := true, stale := false, values := some (valuesOf c (gaugeLevel c (sum / n) s) s) } }) :=
    putComp_pumpKept id
  exact (gauged.then (setRun_touches c .idle _) (by decide)).then (handResults_touches c _ reqs _) (by decide)

theorem failRun_pumpKept (c : Comp) (reqs : List Requester) (s : State) : PumpKept s (failRun c reqs s) := by
  have failed : PumpKept s (s.putComp c { s.comp c with gauging := { (s.comp c).gauging with ok := false } }) :=
    putComp_pumpKept id
  exact ((failed.then (raiseAlarm_touches (.levelProbeFault c) _) (by decide)).then
    (setRun_touches c .idle _) (by decide)).then (handResults_touches c _ reqs _) (by decide)

theorem sampleRun_pumpKept (c : Comp) (level : Nat) (s : State) : PumpKept s (sampleRun c level s) := by
  unfold sampleRun
  split
  · exact .ite (fun _ => completeRun_pumpKept _ _ _ _ s) fun _ => (setRun_touches _ _ s).pumpKept (by decide)
  all_goals exact .refl s

theorem faultRun_pumpKept (c : Comp) (s : State) : PumpKept s (faultRun c s) := by
  unfold faultRun
  split
  · exact failRun_pumpKept _ _ s
  all_goals exact .refl s

theorem creditDelivery_pumpKept (d : Delivery) (s : State) : PumpKept s (creditDelivery d s) := by
  have credit : PumpKept s ((stopInterval .m4 s).putComp d.comp
      (((stopInterval .m4 s).comp d.comp).credit d.volume.netMl)) :=
    ((stopInterval_touches .m4 s).pumpKept (by decide)).trans (putComp_pumpKept id)
  exact ((credit.then (only_setDelivery _ _) (by decide)).then (only_setInlet _ _) (by decide)).trans
    (afterBookChange_pumpKept _ _)

theorem endDrain_pumpKept (cut : Bool) (s : State) : PumpKept s (endDrain cut s) := by
  unfold endDrain
  split
  · exact .refl s
  · split
    · exact ((creditDelivery_pumpKept _ s).then (evalRest_touches _ _) (by decide)).then
        (requestRun_touches _ _ _) (by decide)
    all_goals exact .refl s

theorem adjustBook_pumpKept (c : Comp) (o : AdjustOperands) (after : Int) (s : State) :
    PumpKept s (adjustBook c o after s) := by
  have set : PumpKept s (bookSet c after s) :=
    ((takeCommitment_touches s).pumpKept (by decide)).trans (putComp_pumpKept id)
  exact (set.then (writeRecord_touches _ _) (by decide)).trans (afterBookChange_pumpKept _ _)

theorem shiftTurned_pumpKept (s : State) : PumpKept s (shiftTurned s) := by
  have ho := shiftTurned_touches s
  refine .of_demand (ho.mono (by decide)) (fun h => by rw [ho.hose _ (by decide)]; exact id) fun c => ?_
  rw [shiftTurned_comp]
  exact id

theorem closeShift_pumpKept (s : State) : PumpKept s (closeShift s) := by
  have recorded : PumpKept s (writeRecord (.shift (shiftRecord s)) (takeCommitment s)) :=
    ((takeCommitment_touches s).pumpKept (by decide)).then (writeRecord_touches _ _) (by decide)
  exact (recorded.trans (shiftTurned_pumpKept _)).then (only_setShift _ _) (by decide)

theorem writeItem_pumpKept (item : CalItem) (v : CalValue) (s : State) : PumpKept s (writeItem item v s) := by
  have base : PumpKept s ((s.setCal (s.store.cal.write item v s.now)).setGuard
      { s.guard with fault := false, window := .running Config.windowTime }) :=
    ((only_setCal _ s).pumpKept (by decide)).then (only_setGuard _ _) (by decide)
  cases item with
  | alpha c => exact base.trans (setStale_pumpKept c _)
  | meter | offset => exact base

theorem clearInhibit_pumpKept (c : Comp) (s : State) : PumpKept s (clearInhibit c s) :=
  (putComp_pumpKept fun _ => rfl).trans (evalPump_pumpKept c _)

/-! ## The power (R19, R101) -/

/-- R101, R103: no pump runs after a start-up. -/
theorem startUpAt_pumpKept (clock : Stamp) (s : State) : PumpKept s (startUpAt clock s) := by
  obtain ⟨-, -, -, -, -, -, -, -, -, -, -, comps, -⟩ := startUpAt_startedUp clock s
  refine .of_still fun c => ?_
  rw [(comps c).1]
  rfl

theorem losePower_pumpKept (s : State) : PumpKept s (losePower s) := .of_not_on nofun

end Sys2Proof.Machine
end

section
/-! PROOF. The law of the pumps over every command and every step, and O42. -/

namespace Sys2Proof.Machine

variable {s t : State} {h : Hose} {c : Comp} {ps : List Part} {o : Owned}

/-! ## The owners of the requests (R187) -/

theorem carries_pumpKept : Carries PumpKept := ⟨PumpKept.trans, fun ho => ho.pumpKept (by decide)⟩

/-- An owner that changes no part that the law looks at. -/
theorem Takes.pumpKept (ho : Takes (OnlyIn ps) s o) (hp : ps ⊆ pumpFreeParts) : Takes PumpKept s o :=
  ho.mono fun _ h => h.pumpKept hp

theorem ownApprove_pumpKept (p : Nat × Option Int) (s : State) : Takes PumpKept s (ownApprove p s) := by
  unfold ownApprove
  split
  · exact .error
  · refine .ite (fun _ => .error) fun _ => ?_
    split
    · rename_i hs
      exact .ok (grant_pumpKept (by rw [hs]; nofun))
    all_goals exact .error

theorem ownDecline_pumpKept (n : Nat) (s : State) : Takes PumpKept s (ownDecline n s) := by
  unfold ownDecline
  split
  · exact .error
  · exact .ite (fun hw => .ok (refuseHose_pumpKept (HoseState.not_flowing_of_awaiting hw) _)) fun _ => .error

theorem ownAuthorise_pumpKept (p : Nat × Nat × Option Int) (s : State) : Takes PumpKept s (ownAuthorise p s) := by
  unfold ownAuthorise
  split
  · exact .error
  · refine .ite (fun _ => .error) fun _ => .ite (fun _ => .error) fun hi => .ite (fun _ => .error) fun _ => ?_
    split
    · exact .error
    · exact .ok (authorise_pumpKept (by rw [not_not.mp hi]; nofun) _)

theorem ownHoseStatus_pumpKept (n : Nat) (s : State) : Takes PumpKept s (ownHoseStatus n s) := by
  unfold ownHoseStatus
  split
  · exact .error
  · exact .ok (putHose_pumpKept id)

theorem stopHose_pumpKept (h : Hose) (s : State) : PumpKept s (stopHose h s) := by
  unfold stopHose
  split
  · rename_i hs; exact refuseHose_pumpKept (by rw [hs]; nofun) _
  · rename_i hs; exact refuseHose_pumpKept (by rw [hs]; nofun) _
  · exact stopFill_pumpKept h _ s
  · exact stopFill_pumpKept h _ s
  all_goals exact .refl s

theorem ownStop_pumpKept (n : Nat) (s : State) : Takes PumpKept s (ownStop n s) := by
  unfold ownStop
  split
  · exact .error
  · exact .ite (fun _ => .error) fun _ => .ok (stopHose_pumpKept _ s)

theorem ownHoseEnable_pumpKept (n : Nat) (s : State) : Takes PumpKept s (ownHoseEnable n s) := by
  unfold ownHoseEnable
  split
  · exact .error
  · rename_i h _
    have enabled : PumpKept s (setEnabled h true s) := (only_setHoseConfigs _ s).pumpKept (by decide)
    exact .ok (enabled.trans (.when fun hb => moveHose_pumpKept (by rw [hb]; nofun)))

theorem not_flowing_of_resting {st : HoseState} (hr : st.resting = true) : st ≠ .flowing := by
  rintro rfl
  cases hr

/-- R98: a hose that is taken out of service was at rest. -/
theorem ownHoseDisable_pumpKept (n : Nat) (s : State) : Takes PumpKept s (ownHoseDisable n s) := by
  unfold ownHoseDisable
  split
  · exact .error
  · rename_i h _
    refine .ite (fun _ => .error) fun hr => .ok ?_
    have rests : (s.hose h).state.resting = true := by simpa using hr
    have disabled : PumpKept s (setEnabled h false s) := (only_setHoseConfigs _ s).pumpKept (by decide)
    have moved : PumpKept (setEnabled h false s) (moveHose h .blocked (setEnabled h false s)) :=
      moveHose_pumpKept (s := setEnabled h false s) (not_flowing_of_resting rests)
    exact (disabled.trans moved).then (channelOff_touches _ _) (by decide)

theorem ownInhibitClear_pumpKept (n : Nat) (s : State) : Takes PumpKept s (ownInhibitClear n s) := by
  unfold ownInhibitClear
  split
  · exact .error
  · exact .ite (fun _ => .error) fun _ => .ite (fun _ => .error) fun _ => .ok (clearInhibit_pumpKept _ s)

theorem ownTankSetupWrite_pumpKept (p : TankOperands) (s : State) : Takes PumpKept s (ownTankSetupWrite p s) := by
  unfold ownTankSetupWrite
  split
  · exact .error
  · rename_i c _
    have set : PumpKept s (setTank c p s) := putComp_pumpKept id
    exact .ite (fun _ => .error) fun _ => .ite (fun _ => .error) fun _ => .ite (fun _ => .error) fun _ =>
      .ok (set.then (watchStock_touches _ _) (by decide))

theorem ownStrappingWrite_pumpKept (p : Nat × List (Nat × Int)) (s : State) :
    Takes PumpKept s (ownStrappingWrite p s) := by
  unfold ownStrappingWrite
  split
  · exact .error
  · rename_i c _
    have set : PumpKept s (s.putComp c { s.comp c with strapping := p.2.map pointOf }) := putComp_pumpKept id
    exact .ite (fun _ => .error) fun _ => .ite (fun _ => .error) fun _ => .ite (fun _ => .error) fun _ =>
      .ok (set.trans (setStale_pumpKept _ _))

theorem ownBookAdjust_pumpKept (p : AdjustOperands) (s : State) : Takes PumpKept s (ownBookAdjust p s) := by
  unfold ownBookAdjust
  split
  · exact .error
  · refine .ite (fun _ => .error) fun _ => .ite (fun _ => .error) fun _ => .ite (fun _ => .error) fun _ =>
      .ite (fun _ => .error) fun _ => ?_
    split
    · exact .error
    · exact .ok (adjustBook_pumpKept _ p _ s)

theorem ownDeliveryOpen_pumpKept (p : Nat × Text × Option Int) (s : State) :
    Takes PumpKept s (ownDeliveryOpen p s) := by
  unfold ownDeliveryOpen
  split
  · exact .error
  · refine .ite (fun _ => .error) fun _ => .ite (fun _ => .error) fun _ => .ite (fun _ => .error) fun _ =>
      .ite (fun _ => .error) fun _ => .ok ?_
    exact ((((takeCommitment_touches s).pumpKept (by decide)).then (only_setDelivery _ _) (by decide)).then
      (only_setSelector _ _) (by decide)).then (requestRun_touches _ _ _) (by decide)

theorem closeDelivery_pumpKept (d : Delivery) (s : State) : PumpKept s (closeDelivery d s) := by
  unfold closeDelivery
  split
  · exact ((cancelRequest_touches _ _ s).pumpKept (by decide)).then (cancelDelivery_touches _) (by decide)
  · exact (closeInlet_touches _ s).pumpKept (by decide)
  all_goals exact .refl s

theorem ownDeliveryClose_pumpKept (s : State) : Takes PumpKept s (ownDeliveryClose () s) := by
  unfold ownDeliveryClose
  split
  · exact .error
  · exact .ok (closeDelivery_pumpKept _ s)

theorem ownShiftClose_pumpKept (s : State) : Takes PumpKept s (ownShiftClose () s) :=
  .ite (fun _ => .error) fun _ => .ite (fun _ => .error) fun _ => .ok (closeShift_pumpKept s)

theorem ownCalWrite_pumpKept (p : Option (CalItem × CalValue)) (s : State) : Takes PumpKept s (ownCalWrite p s) := by
  obtain ⟨r, -, he⟩ | ⟨-, -, he⟩ | ⟨item, v, -, -, ⟨-, he⟩ | ⟨-, -, he⟩ | ⟨-, -, fields, he⟩⟩ :=
    ownCalWrite_cases p s <;> rw [he]
  case inr.inr.inr.inr => exact .ok (writeItem_pumpKept item v s)
  all_goals exact .error

/-- R197: from the acceptance of a RESTART the part does not run. -/
theorem ownRestart_pumpKept (s : State) : Takes PumpKept s (ownRestart () s) :=
  .ite (fun _ => .ok (.of_not_on nofun)) fun _ => .error

/-! ## The bowser's inputs and the tick (R58, R85, R107, R108, R139, R158, R165) -/

/-- A part that runs is live. -/
theorem not_on_of_not_live (hl : ¬ s.live = true) : s.power ≠ .on := fun hp => hl (live_of_on hp)

/-- R103: a level of an input other than the emergency stop. -/
theorem setInputs_pumpKept {v : Inputs} (hv : v.emergency = s.inputs.emergency) : PumpKept s (s.setInputs v) :=
  ⟨fun l => pumpLaw_iff.mpr fun c hp hr => demand_mono (s := s) (fun _ _ => id) id hv (pumpLaw_iff.mp l c hp hr)⟩

/-- A discrete input other than the emergency stop changes its level; a part that runs takes the change as an event. -/
theorem PumpKept.input {p q : Prop} [Decidable p] [Decidable q] {v : Inputs} (hv : v.emergency = s.inputs.emergency)
    (a : PumpKept (s.setInputs v) t) : PumpKept s (if p then s else if q then t else s.setInputs v) :=
  .ite (fun _ => .refl s) fun _ => .ite (fun _ => (setInputs_pumpKept hv).trans a) fun _ => setInputs_pumpKept hv

/-- R107, R108: the emergency stop changes its level; a part that does not run has no pump to drive. -/
theorem PumpKept.emergency {p : Prop} [Decidable p] {v : Inputs} (a : PumpKept s t) :
    PumpKept s (if p then s else if s.live then t else s.setInputs v) :=
  .ite (fun _ => .refl s) fun _ => .ite (fun _ => a) fun hl => .of_not_on (not_on_of_not_live hl)

theorem isRunning_elapse (p : Pump) : p.elapse.isRunning = p.isRunning := by cases p <;> rfl

theorem elapseTimers_touches (s : State) :
    OnlyIn [.hoses, .channels, .meters, .sources, .pumps, .inlet, .guard, .park, .link] s (elapseTimers s) :=
  (((((((((only_setHoses _ s).mono (by decide)).then (only_setChannels _ _) (by decide)).then
    (only_setMeters _ _) (by decide)).then (only_setSources _ _) (by decide)).then (only_setPumps _ _) (by decide)).then
    (only_setInlet _ _) (by decide)).then (only_setGuard _ _) (by decide)).then (only_setPark _ _) (by decide)).then
    (only_setLink _ _) (by decide)

theorem elapseTimers_pump (c : Comp) (s : State) : (elapseTimers s).pump c = (s.pump c).elapse := by
  have pumps : (elapseTimers s).pumps = ⟨s.pumps.c1.elapse, s.pumps.c2.elapse⟩ := by simp [elapseTimers]
  rw [State.pump, pumps]
  cases c <;> rfl

theorem elapseTimers_hose (h : Hose) (s : State) : (elapseTimers s).hose h = (s.hose h).elapse := by
  have hoses : (elapseTimers s).hoses = ⟨s.hoses.h1.elapse, s.hoses.h2.elapse, s.hoses.h3.elapse⟩ := by
    simp [elapseTimers]
  rw [State.hose, hoses]
  cases h <;> rfl

/-- R102, R158: a tick moves no pump from or to RUNNING, and no hose to another state. -/
theorem elapseTimers_pumpKept (s : State) : PumpKept s (elapseTimers s) := by
  have ho := elapseTimers_touches s
  have inputs : (elapseTimers s).inputs = s.inputs := ho .inputs (by decide)
  refine ⟨fun l => pumpLaw_iff.mpr fun c hp hr => ?_⟩
  rw [ho .power (by decide)] at hp
  rw [elapseTimers_pump, isRunning_elapse] at hr
  refine demand_mono (fun h _ hf => ?_) (by rw [ho.comp _ (by decide)]; exact id) (by rw [inputs])
    (pumpLaw_iff.mp l c hp hr)
  rw [elapseTimers_hose]
  exact hf

theorem takePreGauge_touches (c : Comp) (r : GaugeResult) (s : State) :
    OnlyIn [.delivery, .inlet, .units, .meters, .alarms] s (takePreGauge c r s) := by
  unfold takePreGauge
  split
  · exact .refl _ s
  · exact .ite (enterReceiving_touches _ s) (.refl _ s)

theorem takePostGauge_touches (c : Comp) (r : GaugeResult) (s : State) :
    OnlyIn [.delivery, .log, .logWatch, .alarms] s (takePostGauge c r s) := by
  unfold takePostGauge
  split
  · exact .refl _ s
  · exact .ite (recordDelivery_touches _ _ s) (.refl _ s)

theorem endReply_pumpKept (s : State) : PumpKept s (endReply s) :=
  .ite (fun _ => startUpAt_pumpKept _ s) fun _ => (only_setLink _ s).pumpKept (by decide)

/-! ## Every command and every step -/

/-- A command that changes no part that the law looks at. -/
theorem leads_pumpFree (ho : OnlyIn ps s t) (hp : ps ⊆ pumpFreeParts) : Leads PumpKept s (.next t) :=
  .next (ho.pumpKept hp)

theorem exec_pumpKept (i : Instr) (s : State) : Leads PumpKept s (exec i s) := by
  have request {α : Type} {tag : SeqTag} {code : Nat} {parse : List Septet → Option α} {body : List Septet}
      {owner : α → State → Owned} (ho : ∀ a u, Takes PumpKept u (owner a u)) :
      Leads PumpKept s (.next (takeRequest tag code parse body owner s)) := .next (carries_pumpKept.takeRequest ho)
  cases i with
  | siteStatus | settingsRead | equipmentStatus | deliveryStatus | logStatus | parkStatus =>
    exact request fun _ _ => Takes.read.pumpKept (by decide)
  | alarms => exact request fun _ u => .ok ((only_setAlarms _ u).pumpKept (by decide))
  | linkCounters => exact request fun _ u => .ok ((only_setLink _ u).pumpKept (by decide))
  | settingsWrite => exact request fun o u => (ownSettingsWrite_frame o u).pumpKept (by decide)
  | restart => exact request fun _ u => ownRestart_pumpKept u
  | tagChannelRead => exact request fun n u => (ownTagChannelRead_frame n u).pumpKept (by decide)
  | machineRead => exact request fun o u => (ownMachineRead_frame o u).pumpKept (by decide)
  | machineWrite => exact request fun o u => (ownMachineWrite_frame o u).pumpKept (by decide)
  | machineDelete => exact request fun k u => (ownMachineDelete_frame k u).pumpKept (by decide)
  | machineFind => exact request fun n u => (ownMachineFind_frame n u).pumpKept (by decide)
  | machineList => exact request fun k u => (ownMachineList_frame k u).pumpKept (by decide)
  | accountRead => exact request fun k u => (ownAccountRead_frame k u).pumpKept (by decide)
  | accountWrite => exact request fun o u => (ownAccountWrite_frame o u).pumpKept (by decide)
  | accountDelete => exact request fun k u => (ownAccountDelete_frame k u).pumpKept (by decide)
  | approve => exact request ownApprove_pumpKept
  | decline => exact request ownDecline_pumpKept
  | authorise => exact request ownAuthorise_pumpKept
  | hoseStatus => exact request ownHoseStatus_pumpKept
  | stop => exact request ownStop_pumpKept
  | hoseEnable => exact request ownHoseEnable_pumpKept
  | hoseDisable => exact request ownHoseDisable_pumpKept
  | hoseSettingsRead => exact request fun n u => (ownHoseSettingsRead_frame n u).pumpKept (by decide)
  | hoseSettingsWrite => exact request fun o u => (ownHoseSettingsWrite_frame o u).pumpKept (by decide)
  | pumpSettingsRead => exact request fun n u => (ownPumpSettingsRead_frame n u).pumpKept (by decide)
  | pumpSettingsWrite => exact request fun o u => (ownPumpSettingsWrite_frame o u).pumpKept (by decide)
  | inhibitClear => exact request ownInhibitClear_pumpKept
  | stockStatus => exact request fun n u => (ownStockStatus_frame n u).pumpKept (by decide)
  | tankSetupRead => exact request fun n u => (ownTankSetupRead_frame n u).pumpKept (by decide)
  | tankSetupWrite => exact request ownTankSetupWrite_pumpKept
  | strappingRead => exact request fun o u => (ownStrappingRead_frame o u).pumpKept (by decide)
  | strappingWrite =>
    exact .next (carries_pumpKept.takeFrame fun _ => carries_pumpKept.handleLast ownStrappingWrite_pumpKept)
  | strappingWritePart =>
    exact .next (carries_pumpKept.takeFrame fun u => (handlePart_touches _ _ _ _ u).pumpKept (by decide))
  | gauge => exact request fun n u => (ownGauge_frame n u).pumpKept (by decide)
  | gaugeRead => exact request fun n u => (ownGaugeRead_frame n u).pumpKept (by decide)
  | bookAdjust => exact request ownBookAdjust_pumpKept
  | deliveryOpen => exact request ownDeliveryOpen_pumpKept
  | deliveryClose => exact request fun _ u => ownDeliveryClose_pumpKept u
  | logRead => exact request fun part u => (ownLogRead_frame part u).pumpKept (by decide)
  | logConfirm => exact request fun n u => (ownLogConfirm_frame n u).pumpKept (by decide)
  | logRewind => exact request fun _ u => (ownLogRewind_frame u).pumpKept (by decide)
  | clockSet => exact request fun n u => (ownClockSet_frame n u).pumpKept (by decide)
  | shiftClose => exact request fun _ u => ownShiftClose_pumpKept u
  | shiftTotals => exact request fun k u => (ownShiftTotals_frame k u).pumpKept (by decide)
  | calRead => exact request fun n u => (ownCalRead_frame n u).pumpKept (by decide)
  | calOpen => exact request fun _ u => (ownCalOpen_frame u).pumpKept (by decide)
  | calWrite => exact request ownCalWrite_pumpKept
  | calClose => exact request fun _ u => (ownCalClose_frame u).pumpKept (by decide)
  | auditRead => exact request fun n u => (ownAuditRead_frame n u).pumpKept (by decide)
  | park => exact request fun _ u => (ownPark_frame u).pumpKept (by decide)
  | unknown =>
    exact .next (carries_pumpKept.takeFrame fun u => carries_pumpKept.trans (carries_pumpKept.link _ u)
      (carries_pumpKept.link _ _))
  | check tag code => exact leads_pumpFree (.ite (takeBadCheck_touches tag code s) (.refl _ s)) (by decide)
  | overlap => exact leads_pumpFree (.ite ((only_setLink _ s).trans (only_setLink _ _)) (.refl _ s)) (by decide)
  | brokenFrame kind => exact leads_pumpFree (.ite (takeBroken_touches kind s) (.refl _ s)) (by decide)
  | byteError => exact leads_pumpFree (.ite ((only_setLink _ s).trans (only_setLink _ _)) (.refl _ s)) (by decide)
  | waking => exact .next (.when fun _ => carries_pumpKept.takeFrame fun u => .refl u)
  | nozzleLift h =>
    exact .next (.input rfl (((disturbPark_touches _ _ _).pumpKept (by decide)).trans (liftHose_pumpKept h _)))
  | nozzleHang h => exact .next (.input rfl (hangHose_pumpKept h _))
  | meterPulse m =>
    refine .next (.when fun _ => ?_)
    cases m with
    | m1 | m2 | m3 => exact hosePulse_pumpKept _ s
    | m4 => exact (inletPulse_touches s).pumpKept (by decide)
  | tempReading p r => exact leads_pumpFree (.ite (takeReading_touches p r s) (.refl _ s)) (by decide)
  | tempFaultIndication p => exact leads_pumpFree (.ite (takeFault_touches p s) (.refl _ s)) (by decide)
  | levelReading c level =>
    exact .next (.when fun _ => (((setLevel_touches c _ s).pumpKept (by decide)).then (offerLevel_touches c _)
      (by decide)).trans (sampleRun_pumpKept c level _))
  | levelFaultIndication c =>
    exact .next (.when fun _ => (((setLevel_touches c _ s).pumpKept (by decide)).then (offerLevel_touches c _)
      (by decide)).trans (faultRun_pumpKept c _))
  | valid h id => exact leads_pumpFree (.ite (takeValid_touches h id s) (.refl _ s)) (by decide)
  | inverted h => exact leads_pumpFree (.ite (takeInverted_touches h s) (.refl _ s)) (by decide)
  | checkBad h | badStart h => exact leads_pumpFree (.ite (onChannel_touches h _ s) (.refl _ s)) (by decide)
  | confirmed h id =>
    exact .next (.when fun _ => ((takeHanded_touches _ s).pumpKept (by decide)).trans (takeConfirmed_pumpKept h id _))
  | lost h => exact .next (.when fun _ => ((takeHanded_touches _ s).pumpKept (by decide)).trans (takeLost_pumpKept h _))
  | changed h =>
    exact .next (.when fun _ => ((takeHanded_touches _ s).pumpKept (by decide)).trans
      (.when fun _ => stopFill_pumpKept h _ _))
  | emergencyStopActive => exact .next (.emergency ⟨fun _ => emergencyStop_pumpLaw (setEmergency true s)⟩)
  | emergencyStopInactive => exact .next (.emergency ⟨fun _ => evalPumps_pumpLaw (setEmergency false s)⟩)
  | overfillSwitchActive c =>
    exact .next (.input rfl (((raiseAlarm_touches _ _).pumpKept (by decide)).trans
      (.when fun _ => (closeInlet_touches _ _).pumpKept (by decide))))
  | overfillSwitchInactive => exact .next (setInputs_pumpKept rfl)
  | sealSwitchOpen => exact .next (.input rfl ((raiseAlarm_touches _ _).pumpKept (by decide)))
  | sealSwitchClosed => exact .next (.input rfl ((only_setGuard _ _).pumpKept (by decide)))
  | storeDisturbance => exact leads_pumpFree (only_setCal _ s) (by decide)
  | startUp => exact .next (startUpAt_pumpKept _ s)
  | intervalEnd m =>
    exact .next (.when fun _ => ((endInterval_touches m s).pumpKept (by decide)).then (recomputeVcf_touches m _)
      (by decide))
  | sourceHoldTimerExpiry p => exact leads_pumpFree (.ite (enterDefault_touches p s) (.refl _ s)) (by decide)
  | channelHoldTimerExpiry h =>
    exact leads_pumpFree (ps := [.channels, .handed]) (.ite
      (((only_setChannels _ s).mono (by decide)).then (report_touches h _ _) (by decide)) (.refl _ s)) (by decide)
  | identifyTimerExpiry h =>
    refine .next (.when fun hl => refuseHose_pumpKept ?_ _)
    obtain ⟨hl, -⟩ := Bool.and_eq_true_iff.mp hl
    rw [of_decide_eq_true (Bool.and_eq_true_iff.mp hl).2]
    nofun
  | approvalTimerExpiry h =>
    refine .next (.when fun hl => refuseHose_pumpKept ?_ _)
    obtain ⟨hl, -⟩ := Bool.and_eq_true_iff.mp hl
    exact HoseState.not_flowing_of_awaiting (Bool.and_eq_true_iff.mp hl).2
  | noFlowTimerExpiry h | resumeGraceTimerExpiry h => exact .next (.when fun _ => stopFill_pumpKept h _ s)
  | hoseDrainQuietExpiry h => exact .next (.when fun _ => closeFill_pumpKept h s)
  | hoseDrainCapExpiry h => exact .next (.when fun _ => (cutDrain_pumpKept h s).trans (closeFill_pumpKept h _))
  | deliveryDrainQuietExpiry => exact .next (.when fun _ => endDrain_pumpKept false s)
  | deliveryDrainCapExpiry => exact .next (.when fun _ => endDrain_pumpKept true s)
  | maxRunReached c => exact .next (.when fun _ => guardPump_pumpKept c s)
  | restTimerExpiry => exact .next (.when fun _ => putPump_pumpKept rfl)
  | windowTimerExpiry => exact leads_pumpFree (.ite (only_setGuard _ s) (.refl _ s)) (by decide)
  | checkTimerExpiry =>
    exact .next (.when fun _ => ((only_setGuard _ s).pumpKept (by decide)).trans (integrityCheck_pumpKept _))
  | watchdogExpiry order =>
    exact .next (.when fun _ => ((only_setLink _ s).pumpKept (by decide)).trans (dropLinks_pumpKept _ _))
  | watchTimerExpiry =>
    exact leads_pumpFree (ps := [.park, .units]) (.ite ((((only_setPark _ s).mono (by decide)).then
      (requestWatch_touches _ _) (by decide)).then (requestWatch_touches _ _) (by decide)) (.refl _ s)) (by decide)
  | confirmTimerExpiry => exact leads_pumpFree (.ite (only_setPark _ s) (.refl _ s)) (by decide)
  | siteClockTick =>
    have clock : PumpKept s (advanceClock s) := (only_setClock _ s).pumpKept (by decide)
    exact .next (.ite (fun _ => clock.trans (elapseTimers_pumpKept _)) fun _ => .when fun _ => clock)
  | preGaugeResult c r =>
    exact .next (.when fun _ => ((takeHanded_touches _ s).pumpKept (by decide)).then
      (takePreGauge_touches c r _) (by decide))
  | postGaugeResult c r =>
    exact .next (.when fun _ => ((takeHanded_touches _ s).pumpKept (by decide)).then
      (takePostGauge_touches c r _) (by decide))
  | parkBaselineResult c r =>
    exact .next (.when fun _ => ((takeHanded_touches _ s).pumpKept (by decide)).trans
      (.when fun _ => (takeBaseline_touches c r _).pumpKept (by decide)))
  | parkWatchResult c r =>
    exact .next (.when fun _ => ((takeHanded_touches _ s).pumpKept (by decide)).then
      (takeWatch_touches c r _) (by decide))
  | answerSent => exact .next (.when fun _ => endReply_pumpKept s)
  | lossOfPower => exact .next (losePower_pumpKept s)

theorem takeByte_pumpKept (b : LineByte) (s : State) : Leads PumpKept s (takeByte b s) := by
  obtain he | ⟨a, he⟩ | ⟨a, i, -, he⟩ := takeByte_cases b s <;> rw [he]
  · exact .next (.refl s)
  · exact leads_pumpFree (only_setLink _ s) (by decide)
  · exact exec_pumpKept i s

/-- A step keeps the law of the pumps. -/
theorem step_pumpKept (hs : step s = .next t) : PumpKept s t := by
  obtain ⟨i, rest, -, he⟩ | ⟨b, rest, -, -, he⟩ | ⟨-, -, he⟩ := step_cases s <;> rw [he] at hs
  · exact ((only_setPending rest s).pumpKept (by decide)).trans (hs ▸ exec_pumpKept i _).of_next
  · exact ((only_setLine rest s).pumpKept (by decide)).trans (hs ▸ takeByte_pumpKept b _).of_next
  · cases hs
    exact .refl s

/-- Settles O42: every command keeps the law, by `exec_pumpKept`, and so does every step. -/
theorem pumpsRunOnlyOnDemand : Obligations.PumpsRunOnlyOnDemand := by
  unfold Obligations.PumpsRunOnlyOnDemand
  exact fun s t l hs => (step_pumpKept hs).law l

end Sys2Proof.Machine
end

section
/-! PROOF. The status reads (O4), the pump's settings (R106) and the clearing of an inhibit (R112). -/

namespace Sys2Proof.Machine

variable {s : State} {c : Comp} {n k run rest : Nat}

/-- Settles O4: each read's owner answers with the state that has heard it, in which every field of the answer is as
it stood. -/
theorem statusRequestsChangeNothing : Obligations.StatusRequestsChangeNothing := by
  unfold Obligations.StatusRequestsChangeNothing
  exact fun tag s hr => ⟨request_answered (owner := ownEquipmentStatus) hr rfl rfl,
    request_answered (owner := ownDeliveryStatus) hr rfl rfl, request_answered (owner := ownLogStatus) hr rfl rfl,
    request_answered (owner := ownParkStatus) hr rfl rfl, request_answered (owner := ownSettingsRead) hr rfl rfl⟩

/-! ## The evaluation of demand (R103, R105) -/

/-- R105: a resting pump is left to its rest. -/
theorem evalPump_of_resting (hp : s.pump c = .resting n) : evalPump c s = s := by
  simp only [evalPump, hp]

/-- R103: without demand a pump that does not run stays as it is. -/
theorem evalPump_of_still (hd : demand c s = false) (hr : (s.pump c).isRunning = false) : evalPump c s = s := by
  cases hp : s.pump c with
  | off => simp only [evalPump, hp, hd, Bool.false_eq_true, if_false]
  | running n => rw [hp] at hr; cases hr
  | resting n => exact evalPump_of_resting hp

/-- R103: a compartment none of whose hoses is FLOWING has no demand. -/
theorem demand_of_no_flow (hn : ∀ h, compOf h = c → (s.hose h).state ≠ .flowing) : demand c s = false :=
  Bool.eq_false_of_not_eq_true fun hd => by
    obtain ⟨⟨h, hc, hf⟩, -⟩ := demand_iff.mp hd
    exact hn h hc hf

/-! ## INHIBIT CLEAR (R112) -/

theorem hosesOf_any_engaged : (hosesOf c).any (hoseEngaged s) = true ↔
    ∃ h, compOf h = c ∧ (s.hose h).state.stoppable = true := by
  simp only [List.any_eq_true, mem_hosesOf, hoseEngaged]

theorem ownInhibitClear_range (hn : compOfNumber n = none) (s : State) : ownInhibitClear n s = .error .range := by
  simp only [ownInhibitClear, hn]

theorem ownInhibitClear_state (hn : (s.comp c).inhibit = none) :
    ownInhibitClear (compNumber c) s = .error .state := by
  simp only [ownInhibitClear, compOfNumber_compNumber, hn, Option.isNone_none, if_true]

theorem ownInhibitClear_busy (hi : (s.comp c).inhibit ≠ none)
    (he : ∃ h, compOf h = c ∧ (s.hose h).state.stoppable = true) :
    ownInhibitClear (compNumber c) s = .error .busy := by
  simp only [ownInhibitClear, compOfNumber_compNumber, Option.isNone_iff_eq_none, if_neg hi,
    if_pos (hosesOf_any_engaged.mpr he)]

theorem ownInhibitClear_clears (hi : (s.comp c).inhibit ≠ none)
    (he : ∀ h, compOf h = c → (s.hose h).state.stoppable = false) :
    ownInhibitClear (compNumber c) s = .ok (clearInhibit c s, [.count (compNumber c)]) := by
  have rests : ¬ (hosesOf c).any (hoseEngaged s) = true := fun hb => by
    obtain ⟨h, hc, hs⟩ := hosesOf_any_engaged.mp hb
    rw [he h hc] at hs
    cases hs
  simp only [ownInhibitClear, compOfNumber_compNumber, Option.isNone_iff_eq_none, if_neg hi, if_neg rests]

theorem clearInhibit_touches (c : Comp) (s : State) : OnlyIn [.comps, .pumps] s (clearInhibit c s) :=
  ((only_setComps _ s).mono (by decide)).then (evalPump_touches _ _) (by decide)

theorem clearInhibit_comp (c : Comp) (s : State) : (clearInhibit c s).comp c = { s.comp c with inhibit := none } :=
  ((evalPump_touches _ _).comp c (by decide)).trans (State.comp_putComp _ _)

theorem clearInhibit_otherComp (c : Comp) (s : State) : OtherComp c s (clearInhibit c s) := fun e he =>
  ((evalPump_touches _ _).comp e (by decide)).trans (State.comp_putComp_ne _ _ he)

/-- R112: the clearing starts no pump, as no hose of the compartment is engaged. -/
theorem clearInhibit_still (he : ∀ h, compOf h = c → (s.hose h).state.stoppable = false) :
    ((clearInhibit c s).pump c).isRunning = false :=
  evalPump_of_no_demand <| demand_of_no_flow fun h hc hf => by
    have engaged := he h hc
    rw [show (s.hose h).state = .flowing from hf] at engaged
    cases engaged

theorem clearInhibit_resting (hp : s.pump c = .resting n) : (clearInhibit c s).pump c = .resting n :=
  (congrArg (State.pump · c) (evalPump_of_resting (s := s.putComp c { s.comp c with inhibit := none }) hp)).trans hp

/-! ## PUMP SETTINGS WRITE (R106) -/

theorem pumpSettings_inRange :
    (countWithin 5 60 run && countWithin 30 600 rest) = true ↔ 5 ≤ run ∧ run ≤ 60 ∧ 30 ≤ rest ∧ rest ≤ 600 := by
  simp only [countWithin, Bool.and_eq_true, decide_eq_true_eq, and_assoc]

theorem ownPumpSettingsWrite_range
    (hk : k = 0 ∨ 2 < k ∨ ¬ (5 ≤ run ∧ run ≤ 60 ∧ 30 ≤ rest ∧ rest ≤ 600)) (s : State) :
    ownPumpSettingsWrite (k, run, rest) s = .error .range := by
  cases hc : compOfNumber k with
  | none => simp only [ownPumpSettingsWrite, hc]
  | some c =>
    have named : ¬ (k = 0 ∨ 2 < k) := fun hn => by
      rw [compOfNumber_eq_none hn] at hc
      cases hc
    have beyond := (or_assoc.mpr hk).resolve_left named
    simp only [ownPumpSettingsWrite, hc, Bool.eq_false_of_not_eq_true (mt pumpSettings_inRange.mp beyond),
      Bool.not_false, if_true]

section InRange

variable (hi : 5 ≤ run ∧ run ≤ 60 ∧ 30 ≤ rest ∧ rest ≤ 600)

include hi

theorem ownPumpSettingsWrite_off (hp : s.pump c = .off) : ownPumpSettingsWrite (compNumber c, run, rest) s =
    .ok (s.setPumpConfigs (s.store.pumpConfigs.set c ⟨run, rest⟩), [.count (compNumber c)]) := by
  simp only [ownPumpSettingsWrite, compOfNumber_compNumber, pumpSettings_inRange.mpr hi, hp, Bool.not_true,
    Bool.false_eq_true, if_false, ne_eq, not_true]

theorem ownPumpSettingsWrite_busy (hp : s.pump c ≠ .off) :
    ownPumpSettingsWrite (compNumber c, run, rest) s = .error .busy := by
  simp only [ownPumpSettingsWrite, compOfNumber_compNumber, pumpSettings_inRange.mpr hi, Bool.not_true,
    Bool.false_eq_true, if_false, if_pos hp]

end InRange

/-- Settles O39: each outcome is its owner's equation in the state that has heard the request. -/
theorem pumpSettingsAndInhibitClear : Obligations.PumpSettingsAndInhibitClear := by
  unfold Obligations.PumpSettingsAndInhibitClear
  refine fun tag body s hr => ⟨fun n hp hn => ?_, fun c hp => ⟨fun hi => ?_, fun hi he => ?_, fun hi he => ?_⟩,
    fun k run rest hp => ⟨?_, fun hk => ?_⟩⟩
  · exact request_refused hr hp (ownInhibitClear_range (compOfNumber_eq_none hn) _)
  · exact request_refused hr hp (ownInhibitClear_state (s := heard s) hi)
  · exact ⟨_, congrArg Host.Outcome.next (takeRequest_ok hr hp (ownInhibitClear_clears (s := heard s) hi he)),
      clearInhibit_comp c (heard s), clearInhibit_otherComp c (heard s), clearInhibit_still (s := heard s) he,
      fun n hn => clearInhibit_resting (s := heard s) hn, fun e hc => evalPump_pump_ne _ hc,
      (((heard_touches s).mono (by decide)).then (clearInhibit_touches _ _) (by decide)).then
        (replied_touches _ _) (by decide), rfl⟩
  · exact request_refused hr hp (ownInhibitClear_busy (s := heard s) hi he)
  · rintro c rfl hi
    exact ⟨fun ho => congrArg Host.Outcome.next
        (takeRequest_ok hr hp (ownPumpSettingsWrite_off (s := heard s) hi ho)),
      fun ho => request_refused hr hp (ownPumpSettingsWrite_busy (s := heard s) hi ho)⟩
  · exact request_refused hr hp (ownPumpSettingsWrite_range hk _)

end Sys2Proof.Machine
end

section
/-! PROOF. What a condition that reaches several hoses does to each of them and to the pumps (R59, R85, R103), and the
run guard (R104, R105). -/

namespace Sys2Proof.Machine

variable {s t : State} {g h : Hose} {c e : Comp} {hs : List Hose} {cause : StopCause} {r : Reason} {n : Nat}

/-! ## Each hose that a condition reaches (R59, R85) -/

/-- R85, R88: a fill that flows or is paused stops. -/
theorem strikeAll_stops (hn : hs.Nodup) (hg : g ∈ hs) (st : (s.hose g).state.stops) :
    ((strikeAll cause r hs s).hose g).state = .draining ∧ ((strikeAll cause r hs s).hose g).valve = .closed ∧
      ((strikeAll cause r hs s).tx g).map Transaction.cause =
        (s.tx g).map fun tx => some (tx.cause.getD cause) := by
  obtain ⟨u, hose, tx, struck, struckTx⟩ := strikeAll_at (cause := cause) (r := r) hn hg s
  have hu : (u.hose g).state.stops := by rw [hose]; exact st
  obtain ⟨drains, caused, -⟩ := stopFill_stops hu cause
  rw [struck, struckTx, strike_of_stops hu, drains, caused, tx, Option.map_map]
  exact ⟨rfl, rfl, rfl⟩

/-- R59: a waiting hose is refused. -/
theorem strikeAll_refuses (hn : hs.Nodup) (hg : g ∈ hs)
    (hw : (s.hose g).state = .identifying ∨ (s.hose g).state.isAwaiting = true) :
    ((strikeAll cause r hs s).hose g).state = .refused r := by
  obtain ⟨u, hose, -, struck, -⟩ := strikeAll_at (cause := cause) (r := r) hn hg s
  have hu : (u.hose g).state = .identifying ∨ (u.hose g).state.isAwaiting = true := by rw [hose]; exact hw
  rw [struck, strike_of_waits hu, (refuseHose_refuses g r u).1]

/-- A hose that neither waits nor fills, or drains already, is left as it is. -/
theorem strikeAll_leaves (hn : hs.Nodup) (hg : g ∈ hs)
    (he : (s.hose g).state = .draining ∨ (s.hose g).state.stoppable = false) :
    (strikeAll cause r hs s).hose g = s.hose g ∧ (strikeAll cause r hs s).tx g = s.tx g := by
  obtain ⟨u, hose, tx, struck, struckTx⟩ := strikeAll_at (cause := cause) (r := r) hn hg s
  have hu : (u.hose g).state = .draining ∨ (u.hose g).state.stoppable = false := by rw [hose]; exact he
  rw [struck, struckTx, strike_of_else hu]
  exact ⟨hose, tx⟩

/-! ## The pumps beside it (R103, R105, R107) -/

/-- A pump that an evaluation of demand leaves as it is: it rests, or it does not run and the emergency stop denies
demand. -/
def PumpStays (c : Comp) (s : State) : Prop :=
  (∃ n, s.pump c = .resting n) ∨ ((s.pump c).isRunning = false ∧ s.inputs.emergency = true)

theorem demand_of_emergency (he : s.inputs.emergency = true) (c : Comp) : demand c s = false :=
  Bool.eq_false_of_not_eq_true fun hd => by
    obtain ⟨-, -, quiet⟩ := demand_iff.mp hd
    rw [he] at quiet
    cases quiet

theorem PumpStays.evalPump (st : PumpStays c s) : evalPump c s = s := by
  obtain ⟨n, hp⟩ | ⟨hr, he⟩ := st
  · exact evalPump_of_resting hp
  · exact evalPump_of_still (demand_of_emergency he c) hr

theorem PumpStays.of_kept (st : PumpStays c s) (hp : t.pump c = s.pump c) (hi : t.inputs = s.inputs) :
    PumpStays c t := by
  rw [PumpStays, hp, hi]
  exact st

theorem stopFill_pump (hc : compOf h = c → PumpStays c s) : (stopFill h cause s).pump c = s.pump c := by
  by_cases hs : (s.hose h).state.stops
  · by_cases he : c = compOf h
    · subst he
      obtain ⟨u, hu, ho, -⟩ := exists_stopFill hs cause
      have kept : u.pump (compOf h) = s.pump (compOf h) := ho.pump _ (by decide)
      rw [hu, settle_pump, ((hc rfl).of_kept kept (ho .inputs (by decide))).evalPump, kept]
    · obtain ⟨-, -, -, -, -, -, others⟩ := stopFill_stops hs cause
      exact (others c he).1
  · rw [stopFill_of_not hs]

/-- R103: a condition leaves the pump of another compartment, and one that stays as it is. -/
theorem strike_pump (hc : compOf h = c → PumpStays c s) : (strike cause r h s).pump c = s.pump c := by
  obtain ⟨-, he⟩ | he | he := strike_cases cause r h s <;> rw [he]
  · exact stopFill_pump hc
  · exact (refuseHose_touches h r s).pump c (by decide)

theorem strikeAll_pump (hc : ∀ h ∈ hs, compOf h = c → PumpStays c s) :
    (strikeAll cause r hs s).pump c = s.pump c := by
  induction hs generalizing s with
  | nil => rfl
  | cons h hs ih =>
    have kept : (strike cause r h s).pump c = s.pump c := strike_pump (hc h List.mem_cons_self)
    have inputs := strike_touches cause r h s .inputs (by decide)
    exact (ih fun g hg into => (hc g (List.mem_cons_of_mem h hg) into).of_kept kept inputs).trans kept

/-! ## The run guard (R104) -/

/-- R104: the pump set to its rest. -/
def restedPump (c : Comp) (s : State) : State := s.putPump c (.resting (s.store.pumpConfigs.get c).restTime)

theorem restedPump_touches (c : Comp) (s : State) : OnlyIn [.pumps] s (restedPump c s) := only_setPumps _ s

theorem restedPump_pump (c : Comp) (s : State) :
    (restedPump c s).pump c = .resting (s.store.pumpConfigs.get c).restTime := State.pump_putPump _ s

/-- R104: the guard's conditions on the compartment's hoses. -/
def guardStruck (c : Comp) (s : State) : State :=
  strikeAll .pumpGuard .pumpResting (hosesOf c) (restedPump c s)

theorem guardPump_eq (c : Comp) (s : State) :
    guardPump c s = evalRest c (raiseAlarm (.pumpGuard c) (guardStruck c s)) := rfl

/-- R104: after the hoses are reached, the alarm and rest alone follow. -/
theorem guardPump_after (c : Comp) (s : State) : OnlyIn [.units, .alarms] (guardStruck c s) (guardPump c s) :=
  ((raiseAlarm_touches _ _).mono (by decide)).then (evalRest_touches _ _) (by decide)

theorem guardPump_touches (c : Comp) (s : State) :
    OnlyIn (.machines :: .queue :: .alarms :: stopParts) s (guardPump c s) :=
  (((restedPump_touches c s).mono (by decide)).then (strikeAll_touches _ _ _ _) (by decide)).then
    (guardPump_after c s) (by decide)

/-- R104, R105: the pump rests through the stops of its hoses. -/
theorem guardPump_rests (c : Comp) (s : State) :
    (guardPump c s).pump c = .resting (s.store.pumpConfigs.get c).restTime := by
  have rests := restedPump_pump c s
  rw [(guardPump_after c s).pump c (by decide), guardStruck, strikeAll_pump fun _ _ _ => .inl ⟨_, rests⟩, rests]

theorem guardPump_pump_ne (s : State) (he : e ≠ c) : (guardPump c s).pump e = s.pump e := by
  have others : ∀ h ∈ hosesOf c, compOf h = e → PumpStays e (restedPump c s) := fun h hh into =>
    absurd (into.symm.trans (mem_hosesOf.mp hh)) he
  rw [(guardPump_after c s).pump e (by decide), guardStruck, strikeAll_pump others]
  exact State.pump_putPump_ne _ _ he

theorem guardPump_hose (c : Comp) (s : State) (h : Hose) :
    (guardPump c s).hose h = (guardStruck c s).hose h ∧ (guardPump c s).tx h = (guardStruck c s).tx h :=
  ⟨(guardPump_after c s).hose h (by decide), (guardPump_after c s).tx h (by decide)⟩

theorem guardPump_stops (hc : compOf h = c) (st : (s.hose h).state.stops) :
    ((guardPump c s).hose h).state = .draining ∧
      ((guardPump c s).tx h).map Transaction.cause = (s.tx h).map fun tx => some (tx.cause.getD .pumpGuard) := by
  obtain ⟨hose, tx⟩ := guardPump_hose c s h
  obtain ⟨drains, -, caused⟩ := strikeAll_stops (cause := .pumpGuard) (r := .pumpResting) (hosesOf_nodup c)
    (mem_hosesOf.mpr hc) (s := restedPump c s) st
  rw [hose, tx]
  exact ⟨drains, caused⟩

theorem guardPump_refuses (hc : compOf h = c)
    (hw : (s.hose h).state = .identifying ∨ (s.hose h).state.isAwaiting = true) :
    ((guardPump c s).hose h).state = .refused .pumpResting := by
  rw [(guardPump_hose c s h).1]
  exact strikeAll_refuses (hosesOf_nodup c) (mem_hosesOf.mpr hc) (s := restedPump c s) hw

theorem guardPump_hose_ne (s : State) (hc : compOf h ≠ c) :
    (guardPump c s).hose h = s.hose h ∧ (guardPump c s).tx h = s.tx h := by
  obtain ⟨hose, tx⟩ := guardPump_hose c s h
  obtain ⟨left, leftTx⟩ := strikeAll_hose_of_notMem (cause := .pumpGuard) (r := .pumpResting) (restedPump c s)
    (mt mem_hosesOf.mp hc)
  exact ⟨hose.trans left, tx.trans leftTx⟩

theorem guardPump_alarms (c : Comp) (s : State) :
    (guardPump c s).alarms = (raiseAlarm (.pumpGuard c) s).alarms := by
  have struck : OnlyIn (.pumps :: strikeParts) s (guardStruck c s) :=
    ((restedPump_touches c s).mono (by decide)).then (strikeAll_touches _ _ _ _) (by decide)
  rw [guardPump_eq, evalRest_touches _ _ .alarms (by decide)]
  exact raiseAlarm_alarms _ (struck .alarms (by decide)) (struck .clock (by decide))

/-! ## MAX RUN REACHED and REST TIMER EXPIRY -/

theorem exec_maxRunReached (hp : s.power = .on) (hr : s.pump c = .running n) :
    exec (.maxRunReached c) s = .next (guardPump c s) := by
  have taken : (s.live && (s.pump c).isRunning) = true := by rw [live_of_on hp, hr]; rfl
  exact congrArg Host.Outcome.next (if_pos taken)

theorem exec_restTimerExpiry (hp : s.power = .on) (hr : s.pump c = .resting n) :
    exec (.restTimerExpiry c) s = .next (s.putPump c .off) := by
  have taken : (s.live && (s.pump c).isResting) = true := by rw [live_of_on hp, hr]; rfl
  exact congrArg Host.Outcome.next (if_pos taken)

/-- Settles O41: the guard's effect on the pumps and on each hose is that of its condition, by `guardPump_rests`,
`guardPump_stops` and `guardPump_refuses`. -/
theorem runGuardRestsThePump : Obligations.RunGuardRestsThePump := by
  unfold Obligations.RunGuardRestsThePump
  refine fun c s hp => ⟨fun n hr => ⟨guardPump c s, exec_maxRunReached hp hr, guardPump_rests c s, ?_, ?_, ?_, ?_,
    guardPump_alarms c s, guardPump_touches c s⟩, fun n hr => exec_restTimerExpiry hp hr⟩
  · exact fun e he => guardPump_pump_ne s he
  · exact fun h hc st => guardPump_stops hc st
  · exact fun h hc hw => guardPump_refuses hc hw
  · exact fun h hc => guardPump_hose_ne s hc

end Sys2Proof.Machine
end

section
/-! PROOF. The emergency stop (R107, R108, R178, R182): what it does to the park, the pumps, the hoses, the delivery and
the alarms, and its release. -/

namespace Sys2Proof.Machine

variable {s t u : State} {h : Hose} {c e : Comp} {ps : List Part} {hs : List Hose} {cause : StopCause} {r : Reason}
  {k : DeliveryCause} {d : Delivery} {n : Nat} {o : ParkOutcome}

/-! ## The requesters of the gauging runs (R122 to R124) -/

/-- Every gauging run has the same requesters after a change as before. -/
def SameRequesters (s t : State) : Prop := ∀ c, (t.unit c).run.requesters = (s.unit c).run.requesters

theorem SameRequesters.trans (a : SameRequesters s t) (b : SameRequesters t u) : SameRequesters s u := fun c =>
  (b c).trans (a c)

theorem OnlyIn.sameRequesters (ho : OnlyIn ps s t) (hp : .units ∉ ps) : SameRequesters s t := fun c => by
  rw [ho.unit c hp]

theorem SameRequesters.refl (s : State) : SameRequesters s s := fun _ => rfl

theorem setRun_sameRequesters {run : Run} (hr : run.requesters = (s.unit c).run.requesters) :
    SameRequesters s (setRun c run s) := by
  intro e
  by_cases he : e = c
  · subst he
    rw [setRun, State.unit_putUnit]
    exact hr
  · rw [setRun, State.unit_putUnit_ne _ _ he]

/-- R122, R124: a run that begins or loses its rest keeps its requesters. -/
theorem evalRest_sameRequesters (c : Comp) (s : State) : SameRequesters s (evalRest c s) := by
  unfold evalRest
  split
  · exact .refl s
  · rename_i reqs hr
    split
    · exact setRun_sameRequesters (by rw [hr]; rfl)
    · exact .refl s
  · rename_i reqs w n sum hr
    split
    · exact .refl s
    · exact setRun_sameRequesters (by rw [hr]; rfl)

theorem stopFill_sameRequesters (h : Hose) (cause : StopCause) (s : State) :
    SameRequesters s (stopFill h cause s) := by
  by_cases st : (s.hose h).state.stops
  · obtain ⟨u, hu, ho, -⟩ := exists_stopFill st cause
    rw [hu]
    exact ((ho.sameRequesters (by decide)).trans ((evalPump_touches _ u).sameRequesters (by decide))).trans
      (evalRest_sameRequesters _ _)
  · rw [stopFill_of_not st]
    exact .refl s

theorem strike_sameRequesters (cause : StopCause) (r : Reason) (h : Hose) (s : State) :
    SameRequesters s (strike cause r h s) := by
  obtain ⟨-, he⟩ | he | he := strike_cases cause r h s <;> rw [he]
  · exact stopFill_sameRequesters h cause s
  · exact (refuseHose_touches h r s).sameRequesters (by decide)
  · exact .refl s

theorem strikeAll_sameRequesters (cause : StopCause) (r : Reason) (hs : List Hose) (s : State) :
    SameRequesters s (strikeAll cause r hs s) :=
  strikeAll_keeps (P := SameRequesters s) (fun h t ht => ht.trans (strike_sameRequesters cause r h t)) hs (.refl s)

/-! ## The close of the inlet (R138, R142) -/

/-- R142: the delivery drains with its inlet valve shut, before rest is evaluated. -/
def inletShut (d : Delivery) (s : State) : State :=
  (s.setDelivery (some { d with state := .draining })).setInlet
    { valveOpen := false, quiet := .running Config.drainQuiet, cap := .running Config.drainCap }

theorem drainDelivery_eq (d : Delivery) (s : State) : drainDelivery d s = evalRest d.comp (inletShut d s) := rfl

theorem inletShut_touches (d : Delivery) (s : State) : OnlyIn [.delivery, .inlet] s (inletShut d s) :=
  ((only_setDelivery _ s).mono (by decide)).then (only_setInlet _ _) (by decide)

theorem drainDelivery_delivery (d : Delivery) (s : State) :
    (drainDelivery d s).store.delivery = some { d with state := .draining } :=
  (evalRest_touches _ _ .delivery (by decide)).trans rfl

theorem drainDelivery_inlet (d : Delivery) (s : State) :
    (drainDelivery d s).inlet = ⟨false, .running 2, .running 15⟩ :=
  (evalRest_touches _ _ .inlet (by decide)).trans rfl

theorem closeInlet_receiving (hd : s.store.delivery = some d) (hs : d.state = .receiving) :
    closeInlet k s = drainDelivery { d with cause := some k } s := by
  simp only [closeInlet, hd, hs]

theorem closeInlet_none (hd : s.store.delivery = none) : closeInlet k s = s := by
  simp only [closeInlet, hd]

theorem closeInlet_of_not (hd : s.store.delivery = some d) (hs : d.state ≠ .receiving) : closeInlet k s = s := by
  cases hc : d.state with
  | receiving => exact absurd hc hs
  | preGauge | draining | postGauge => simp only [closeInlet, hd, hc]

theorem closeInlet_sameRequesters (k : DeliveryCause) (s : State) : SameRequesters s (closeInlet k s) := by
  cases hd : s.store.delivery with
  | none =>
    rw [closeInlet_none hd]
    exact .refl s
  | some d =>
    by_cases hs : d.state = .receiving
    · rw [closeInlet_receiving hd hs, drainDelivery_eq]
      exact ((inletShut_touches _ s).sameRequesters (by decide)).trans (evalRest_sameRequesters _ _)
    · rw [closeInlet_of_not hd hs]
      exact .refl s

/-! ## The stages of the emergency stop (R107) -/

/-- The park ended and the demand of both compartments evaluated, the input active. -/
def pumpsDenied (s : State) : State :=
  evalPump .c2 (evalPump .c1 (disturbPark .emergency .emergency (setEmergency true s)))

/-- The hoses reached. -/
def emergencyStruck (s : State) : State := strikeAll .emergency .emergency allHoses (pumpsDenied s)

/-- The delivery reached. -/
def emergencyShut (s : State) : State := closeInlet .emergency (emergencyStruck s)

/-- The state after EMERGENCY STOP ACTIVE at a running part. -/
def emergencyTaken (s : State) : State := emergencyStop (setEmergency true s)

theorem emergencyTaken_eq (s : State) :
    emergencyTaken s = evalRest .c2 (evalRest .c1 (raiseAlarm .emergency (emergencyShut s))) := rfl

theorem pumpsDenied_touches (s : State) : OnlyIn [.inputs, .park, .units, .handed, .pumps] s (pumpsDenied s) :=
  ((((only_setInputs _ s).mono (by decide)).then (disturbPark_touches _ _ _) (by decide)).then
    (evalPump_touches _ _) (by decide)).then (evalPump_touches _ _) (by decide)

theorem emergencyShut_after (s : State) : OnlyIn [.delivery, .inlet, .units] (emergencyStruck s) (emergencyShut s) :=
  closeInlet_touches _ _

/-- After the delivery is reached, the alarm and rest alone follow. -/
theorem emergencyTaken_after (s : State) : OnlyIn [.alarms, .units] (emergencyShut s) (emergencyTaken s) :=
  (((raiseAlarm_touches _ _).mono (by decide)).then (evalRest_touches _ _) (by decide)).then
    (evalRest_touches _ _) (by decide)

/-- What follows the hoses reaches neither them nor the pumps. -/
theorem emergencyTaken_rest (s : State) :
    OnlyIn [.delivery, .inlet, .alarms, .units] (emergencyStruck s) (emergencyTaken s) :=
  ((emergencyShut_after s).mono (by decide)).then (emergencyTaken_after s) (by decide)

/-- The parts that the stop reaches after the park has ended. -/
theorem emergencyTaken_afterPark (s : State) : OnlyIn (.delivery :: .inlet :: .alarms :: strikeParts)
    (disturbPark .emergency .emergency (setEmergency true s)) (emergencyTaken s) :=
  ((((evalPump_touches _ _).mono (by decide)).then (evalPump_touches _ _) (by decide)).then
    (strikeAll_touches _ _ _ _) (by decide)).then (emergencyTaken_rest s) (by decide)

theorem emergencyTaken_inputs (s : State) : (emergencyTaken s).inputs = { s.inputs with emergency := true } :=
  (emergencyTaken_afterPark s .inputs (by decide)).trans (disturbPark_touches _ _ _ .inputs (by decide))

/-! ## The park (R178, R182) -/

theorem emergencyTaken_park (s : State) :
    (emergencyTaken s).park = (disturbPark .emergency .emergency (setEmergency true s)).park :=
  emergencyTaken_afterPark s .park (by decide)

theorem emergencyTaken_handed (s : State) :
    (emergencyTaken s).handed = (disturbPark .emergency .emergency (setEmergency true s)).handed :=
  emergencyTaken_afterPark s .handed (by decide)

theorem emergencyTaken_sameRequesters (s : State) :
    SameRequesters (disturbPark .emergency .emergency (setEmergency true s)) (emergencyTaken s) := by
  have pumps : OnlyIn [.pumps] (disturbPark .emergency .emergency (setEmergency true s)) (pumpsDenied s) :=
    (evalPump_touches _ _).trans (evalPump_touches _ _)
  have reached : SameRequesters (pumpsDenied s) (emergencyShut s) :=
    (strikeAll_sameRequesters _ _ _ _).trans (closeInlet_sameRequesters _ _)
  have raised : SameRequesters (emergencyShut s) (raiseAlarm .emergency (emergencyShut s)) :=
    (raiseAlarm_touches _ _).sameRequesters (by decide)
  exact ((((pumps.sameRequesters (by decide)).trans reached).trans raised).trans (evalRest_sameRequesters .c1 _)).trans
    (evalRest_sameRequesters .c2 _)

/-- A park cancelled stays so through what leaves the park, the results and the requesters. -/
theorem ParkCancelled.of_kept (pc : ParkCancelled o s t) (hp : u.park = t.park) (hr : SameRequesters t u)
    (hh : u.handed = t.handed) : ParkCancelled o s u := by
  obtain ⟨park, requesters, handed⟩ := pc
  exact ⟨hp.trans park, fun c => (hr c).trans (requesters c), hh.trans handed⟩

theorem emergencyTaken_cancels (hp : s.park.state = .parking) : ParkCancelled .emergency s (emergencyTaken s) := by
  have cancels : ParkCancelled .emergency s (disturbPark .emergency .emergency (setEmergency true s)) := by
    rw [disturbPark_parking (s := setEmergency true s) hp]
    exact cancelPark_cancels .emergency (setEmergency true s)
  exact cancels.of_kept (emergencyTaken_park s) (emergencyTaken_sameRequesters s) (emergencyTaken_handed s)

theorem emergencyTaken_wakes (hp : s.park.state = .parked ∨ s.park.state = .waking) :
    (emergencyTaken s).park.outcome = some .emergency := by
  rw [emergencyTaken_park, disturbPark_parked (s := setEmergency true s) hp]
  rfl

/-! ## The pumps (R103, R105, R107) -/

theorem pumpsDenied_still (s : State) (c : Comp) : ((pumpsDenied s).pump c).isRunning = false := by
  have first := disturbPark_touches .emergency .emergency (setEmergency true s) .inputs (by decide)
  have active : (disturbPark .emergency .emergency (setEmergency true s)).inputs.emergency = true := by rw [first]; rfl
  cases c with
  | c1 =>
    rw [pumpsDenied, evalPump_pump_ne _ (by decide)]
    exact evalPump_of_no_demand (demand_of_emergency active _)
  | c2 =>
    refine evalPump_of_no_demand ?_
    rw [evalPump_demand]
    exact demand_of_emergency active _

theorem evalPump_rests (e : Comp) (hp : s.pump c = .resting n) : (evalPump e s).pump c = .resting n := by
  by_cases he : c = e
  · subst he
    rw [evalPump_of_resting hp, hp]
  · rw [evalPump_pump_ne _ he, hp]

theorem pumpsDenied_resting (hp : s.pump c = .resting n) : (pumpsDenied s).pump c = .resting n := by
  have kept := (disturbPark_touches .emergency .emergency (setEmergency true s)).pump c (by decide)
  exact evalPump_rests .c2 (evalPump_rests .c1 (kept.trans hp))

/-- R103: no stop of a hose starts a pump again. -/
theorem emergencyTaken_pump (s : State) (c : Comp) : (emergencyTaken s).pump c = (pumpsDenied s).pump c := by
  have active : (pumpsDenied s).inputs.emergency = true := by
    have kept : OnlyIn [.pumps] (disturbPark .emergency .emergency (setEmergency true s)) (pumpsDenied s) :=
      (evalPump_touches _ _).trans (evalPump_touches _ _)
    rw [kept .inputs (by decide), disturbPark_touches _ _ _ .inputs (by decide)]
    rfl
  rw [(emergencyTaken_rest s).pump c (by decide)]
  exact strikeAll_pump fun _ _ _ => .inr ⟨pumpsDenied_still s c, active⟩

/-! ## The hoses (R59, R85, R107) -/

theorem allHoses_nodup : allHoses.Nodup := by decide

theorem mem_allHoses (h : Hose) : h ∈ allHoses := by cases h <;> decide

theorem emergencyTaken_hose (s : State) (h : Hose) : (emergencyTaken s).hose h = (emergencyStruck s).hose h ∧
    (emergencyTaken s).tx h = (emergencyStruck s).tx h :=
  ⟨(emergencyTaken_rest s).hose h (by decide), (emergencyTaken_rest s).tx h (by decide)⟩

theorem pumpsDenied_hose (s : State) (h : Hose) : (pumpsDenied s).hose h = s.hose h ∧ (pumpsDenied s).tx h = s.tx h :=
  ⟨(pumpsDenied_touches s).hose h (by decide), (pumpsDenied_touches s).tx h (by decide)⟩

theorem emergencyTaken_stops (st : (s.hose h).state.stops) :
    ((emergencyTaken s).hose h).state = .draining ∧ ((emergencyTaken s).hose h).valve = .closed ∧
      ((emergencyTaken s).tx h).map Transaction.cause = (s.tx h).map fun tx => some (tx.cause.getD .emergency) := by
  obtain ⟨hose, tx⟩ := emergencyTaken_hose s h
  obtain ⟨before, beforeTx⟩ := pumpsDenied_hose s h
  rw [← before] at st
  rw [hose, tx, ← beforeTx]
  exact strikeAll_stops allHoses_nodup (mem_allHoses h) st

theorem emergencyTaken_refuses (hw : (s.hose h).state = .identifying ∨ (s.hose h).state.isAwaiting = true) :
    ((emergencyTaken s).hose h).state = .refused .emergency := by
  rw [← (pumpsDenied_hose s h).1] at hw
  rw [(emergencyTaken_hose s h).1]
  exact strikeAll_refuses allHoses_nodup (mem_allHoses h) hw

theorem emergencyTaken_leaves (he : (s.hose h).state = .draining ∨ (s.hose h).state.stoppable = false) :
    (emergencyTaken s).hose h = s.hose h ∧ (emergencyTaken s).tx h = s.tx h := by
  obtain ⟨hose, tx⟩ := emergencyTaken_hose s h
  obtain ⟨before, beforeTx⟩ := pumpsDenied_hose s h
  rw [← before] at he
  rw [hose, tx, ← before, ← beforeTx]
  exact strikeAll_leaves allHoses_nodup (mem_allHoses h) he

/-! ## The delivery and the alarm (R107, R138) -/

theorem emergencyStruck_touches (s : State) :
    OnlyIn (.inputs :: .park :: .handed :: strikeParts) s (emergencyStruck s) :=
  ((pumpsDenied_touches s).mono (by decide)).then (strikeAll_touches _ _ _ _) (by decide)

theorem emergencyTaken_delivery (s : State) :
    (emergencyTaken s).store.delivery = (emergencyShut s).store.delivery ∧
      (emergencyTaken s).inlet = (emergencyShut s).inlet :=
  ⟨emergencyTaken_after s .delivery (by decide), emergencyTaken_after s .inlet (by decide)⟩

theorem emergencyTaken_shuts (hd : s.store.delivery = some d) (hs : d.state = .receiving) :
    (emergencyTaken s).inlet.valveOpen = false ∧
      (emergencyTaken s).store.delivery = some { d with state := .draining, cause := some .emergency } := by
  obtain ⟨delivery, inlet⟩ := emergencyTaken_delivery s
  have before : (emergencyStruck s).store.delivery = some d := (emergencyStruck_touches s .delivery (by decide)).trans hd
  rw [delivery, inlet, emergencyShut, closeInlet_receiving before hs, drainDelivery_delivery, drainDelivery_inlet]
  exact ⟨rfl, rfl⟩

/-- R138: a delivery that does not receive is left as it is, and so is the lack of one. -/
theorem emergencyTaken_leavesDelivery (hd : closeInlet .emergency (emergencyStruck s) = emergencyStruck s) :
    (emergencyTaken s).store.delivery = s.store.delivery ∧ (emergencyTaken s).inlet = s.inlet := by
  obtain ⟨delivery, inlet⟩ := emergencyTaken_delivery s
  rw [delivery, inlet, emergencyShut, hd]
  exact ⟨emergencyStruck_touches s .delivery (by decide), emergencyStruck_touches s .inlet (by decide)⟩

theorem emergencyTaken_alarms (s : State) : (emergencyTaken s).alarms = (raiseAlarm .emergency s).alarms := by
  have before : OnlyIn (.inputs :: .park :: .handed :: .delivery :: .inlet :: strikeParts) s (emergencyShut s) :=
    ((emergencyStruck_touches s).mono (by decide)).then (emergencyShut_after s) (by decide)
  rw [emergencyTaken_eq, evalRest_touches _ _ .alarms (by decide), evalRest_touches _ _ .alarms (by decide)]
  exact raiseAlarm_alarms _ (before .alarms (by decide)) (before .clock (by decide))

/-! ## EMERGENCY STOP ACTIVE and INACTIVE -/

theorem exec_emergencyStopActive (hp : s.power = .on) (he : s.inputs.emergency = false) :
    exec .emergencyStopActive s = .next (emergencyTaken s) :=
  congrArg Host.Outcome.next ((if_neg (by simp [he])).trans (if_pos (live_of_on hp)))

theorem exec_emergencyStopInactive (hp : s.power = .on) (he : s.inputs.emergency = true) :
    exec .emergencyStopInactive s = .next (evalPump .c2 (evalPump .c1 (setEmergency false s))) :=
  congrArg Host.Outcome.next ((if_neg (by simp [he])).trans (if_pos (live_of_on hp)))

/-- R108: the release starts no pump while no hose is FLOWING. -/
theorem released_evalPumps (hf : ∀ h, (s.hose h).state ≠ .flowing) (hr : ∀ c, (s.pump c).isRunning = false) :
    evalPump .c2 (evalPump .c1 s) = s := by
  have still (c : Comp) : evalPump c s = s := evalPump_of_still (demand_of_no_flow fun h _ => hf h) (hr c)
  rw [still, still]

/-- Settles O40: each part of the stop's effect is a lemma about `emergencyTaken`; the release evaluates demand to no
effect. -/
theorem emergencyStopStopsEverything : Obligations.EmergencyStopStopsEverything := by
  unfold Obligations.EmergencyStopStopsEverything
  refine fun s hp => ⟨fun he => ⟨emergencyTaken s, exec_emergencyStopActive hp he, emergencyTaken_inputs s, ?_,
    emergencyTaken_cancels, emergencyTaken_wakes, fun hn => ?_, fun c => ?_, fun c n hr => ?_,
    fun h => emergencyTaken_stops, fun h => emergencyTaken_refuses, fun h hl => emergencyTaken_leaves ?_,
    fun d => emergencyTaken_shuts, fun d hd hs => emergencyTaken_leavesDelivery ?_, fun hd => ?_,
    emergencyTaken_alarms s⟩, fun he hf hr => ?_⟩
  · rw [emergencyTaken_park, disturbPark_state]
  · rw [emergencyTaken_handed]
    exact disturbPark_handed (s := setEmergency true s) hn
  · rw [emergencyTaken_pump]
    exact pumpsDenied_still s c
  · rw [emergencyTaken_pump]
    exact pumpsDenied_resting hr
  · exact hl.imp_right fun hr => hr.elim not_stoppable_of_resting fun hf => by rw [hf]; rfl
  · exact closeInlet_of_not ((emergencyStruck_touches s .delivery (by decide)).trans hd) hs
  · rw [← hd]
    exact emergencyTaken_leavesDelivery
      (closeInlet_none ((emergencyStruck_touches s .delivery (by decide)).trans hd))
  · exact (exec_emergencyStopInactive hp he).trans
      (congrArg Host.Outcome.next (released_evalPumps (s := setEmergency false s) hf hr))

end Sys2Proof.Machine
end

section
/-! PROOF. The count, the drain, the credit and the record of a delivery (R110, R115, R117, R137 to R144, R150). -/

namespace Sys2Proof.Machine

variable {s t u : State} {c e : Comp} {d : Delivery} {b : Band} {n level : Nat} {k : Requester} {run : Run}
  {r : GaugeResult}

/-! ## The gauging units beside a run (R122 to R124) -/

/-- The gauging units differ in their runs alone. -/
def SameGauges (s t : State) : Prop :=
  ∀ c, (t.unit c).armed = (s.unit c).armed ∧ (t.unit c).level = (s.unit c).level

theorem SameGauges.refl (s : State) : SameGauges s s := fun _ => ⟨rfl, rfl⟩

theorem SameGauges.trans (a : SameGauges s t) (b : SameGauges t u) : SameGauges s u := fun c =>
  ⟨(b c).1.trans (a c).1, (b c).2.trans (a c).2⟩

theorem setRun_sameGauges (c : Comp) (run : Run) (s : State) : SameGauges s (setRun c run s) := by
  intro e
  by_cases he : e = c
  · subst he
    rw [setRun, State.unit_putUnit]
    exact ⟨rfl, rfl⟩
  · rw [setRun, State.unit_putUnit_ne _ _ he]
    exact ⟨rfl, rfl⟩

theorem evalRest_sameGauges (c : Comp) (s : State) : SameGauges s (evalRest c s) := by
  unfold evalRest
  split
  · exact .refl s
  · split
    · exact setRun_sameGauges c _ s
    · exact .refl s
  · split
    · exact .refl s
    · exact setRun_sameGauges c _ s

theorem requestRun_sameGauges (c : Comp) (k : Requester) (s : State) : SameGauges s (requestRun c k s) := by
  unfold requestRun
  split
  · exact (setRun_sameGauges c _ s).trans (evalRest_sameGauges c _)
  · split
    · exact .refl s
    · exact setRun_sameGauges c _ s
  · split
    · exact .refl s
    · exact setRun_sameGauges c _ s

theorem setRun_requesters (c : Comp) (run : Run) (s : State) :
    ((setRun c run s).unit c).run.requesters = run.requesters := by
  rw [setRun, State.unit_putUnit]

/-- R123: a requester that asks for a run is in its list. -/
theorem requestRun_mem (c : Comp) (k : Requester) (s : State) :
    k ∈ ((requestRun c k s).unit c).run.requesters := by
  cases hr : (s.unit c).run with
  | idle =>
    simp only [requestRun, hr]
    rw [evalRest_sameRequesters, setRun_requesters]
    exact List.mem_singleton_self k
  | pending reqs =>
    simp only [requestRun, hr]
    split
    · rw [hr]
      assumption
    · rw [setRun_requesters]
      exact List.mem_append_right reqs (List.mem_singleton_self k)
  | sampling reqs w n sum =>
    simp only [requestRun, hr]
    split
    · rw [hr]
      assumption
    · rw [setRun_requesters]
      exact List.mem_append_right reqs (List.mem_singleton_self k)

/-- R124: a run whose compartment is not at rest takes no sample. -/
theorem evalRest_not_sampling (hn : atRest c s = false) (reqs : List Requester) (w n sum : Nat) :
    ((evalRest c s).unit c).run ≠ .sampling reqs w n sum := by
  cases hr : (s.unit c).run with
  | idle =>
    simp only [evalRest, hr]
    nofun
  | pending _ =>
    simp only [evalRest, hr, hn, Bool.false_eq_true, if_false]
    nofun
  | sampling _ _ _ _ =>
    simp only [evalRest, hr, hn, Bool.false_eq_true, if_false]
    rw [setRun, State.unit_putUnit]
    nofun

section NotSampling

variable (hn : ∀ reqs w n sum, (s.unit c).run ≠ .sampling reqs w n sum)

include hn

theorem sampleRun_of_not_sampling (level : Nat) : sampleRun c level s = s := by
  cases hr : (s.unit c).run with
  | idle | pending _ => simp only [sampleRun, hr]
  | sampling reqs w n sum => exact absurd hr (hn reqs w n sum)

theorem faultRun_of_not_sampling : faultRun c s = s := by
  cases hr : (s.unit c).run with
  | idle | pending _ => simp only [faultRun, hr]
  | sampling reqs w n sum => exact absurd hr (hn reqs w n sum)

end NotSampling

/-! ## A level while a delivery is RECEIVING (R118, R138) -/

/-- R122: a draining delivery keeps its compartment from rest. -/
theorem inletShut_not_atRest (d : Delivery) (s : State) : atRest d.comp (inletShut d s) = false := by
  have drains : deliveryDraining d.comp (inletShut d s) = true := decide_eq_true ⟨rfl, rfl⟩
  rw [atRest, drains, Bool.not_true, Bool.and_false]

theorem drainDelivery_not_sampling (d : Delivery) (s : State) (reqs : List Requester) (w n sum : Nat) :
    ((drainDelivery d s).unit d.comp).run ≠ .sampling reqs w n sum :=
  evalRest_not_sampling (inletShut_not_atRest d s) reqs w n sum

theorem drainDelivery_sameGauges (d : Delivery) (s : State) : SameGauges s (drainDelivery d s) :=
  evalRest_sameGauges d.comp (inletShut d s)

theorem setLevel_level (c : Comp) (l : Option Nat) (s : State) : ((setLevel c l s).unit c).level = l := by
  rw [setLevel, State.unit_putUnit]

section Receiving

variable (hd : s.store.delivery = some d) (hs : d.state = .receiving)

include hd hs

theorem offerLevel_high (hl : (s.unit d.comp).level = some level) (hc : (s.comp d.comp).cutoff ≤ level) :
    offerLevel d.comp s = drainDelivery { d with cause := some .highLevel } (raiseAlarm (.highLevel d.comp) s) := by
  have delivery : (raiseAlarm (.highLevel d.comp) s).store.delivery = some d := hd
  simp only [offerLevel, hd, hs, and_self, if_true, hl, if_pos hc, closeInlet_receiving delivery hs]

theorem offerLevel_absent (hl : (s.unit d.comp).level = none) : offerLevel d.comp s =
    drainDelivery { d with levelFault := true, cause := some .highLevel }
      (s.setDelivery (some { d with levelFault := true })) := by
  unfold offerLevel
  rw [hd]
  dsimp only
  rw [if_pos ⟨rfl, hs⟩, hl]
  exact closeInlet_receiving (d := { d with levelFault := true }) rfl hs

end Receiving

theorem exec_levelReading (hp : s.power = .on) (c : Comp) (level : Nat) : exec (.levelReading c level) s =
    .next (sampleRun c level (offerLevel c (setLevel c (some level) s))) :=
  congrArg Host.Outcome.next (if_pos (live_of_on hp))

theorem exec_levelFaultIndication (hp : s.power = .on) (c : Comp) : exec (.levelFaultIndication c) s =
    .next (faultRun c (offerLevel c (setLevel c none s))) :=
  congrArg Host.Outcome.next (if_pos (live_of_on hp))

/-- R138: a level at the cutoff shuts the valve, and is no sample. -/
theorem levelReading_shuts (hp : s.power = .on) (hd : s.store.delivery = some d) (hs : d.state = .receiving)
    (hc : (s.comp d.comp).cutoff ≤ level) : ∃ t, exec (.levelReading d.comp level) s = .next t ∧
      t.store.delivery = some { d with state := .draining, cause := some .highLevel } ∧
      t.inlet = ⟨false, .running 2, .running 15⟩ ∧
      t.alarms = (raiseAlarm (.highLevel d.comp) s).alarms ∧ (t.unit d.comp).level = some level := by
  have shut := offerLevel_high (s := setLevel d.comp (some level) s) hd hs (setLevel_level _ _ s) hc
  refine ⟨_, exec_levelReading hp d.comp level, ?_⟩
  rw [shut, sampleRun_of_not_sampling (drainDelivery_not_sampling { d with cause := some .highLevel } _)]
  exact ⟨drainDelivery_delivery _ _, drainDelivery_inlet _ _, drainDelivery_touches _ _ .alarms (by decide),
    (drainDelivery_sameGauges _ _ d.comp).2.trans (setLevel_level _ _ s)⟩

/-- R118, R138: an absent level shuts the valve, and fails no run. -/
theorem levelFault_shuts (hp : s.power = .on) (hd : s.store.delivery = some d) (hs : d.state = .receiving) :
    ∃ t, exec (.levelFaultIndication d.comp) s = .next t ∧
      t.store.delivery = some { d with state := .draining, cause := some .highLevel, levelFault := true } ∧
      t.inlet = ⟨false, .running 2, .running 15⟩ ∧ (t.unit d.comp).level = none := by
  have shut := offerLevel_absent (s := setLevel d.comp none s) hd hs (setLevel_level _ _ s)
  refine ⟨_, exec_levelFaultIndication hp d.comp, ?_⟩
  rw [shut, faultRun_of_not_sampling
    (drainDelivery_not_sampling { d with levelFault := true, cause := some .highLevel } _)]
  exact ⟨drainDelivery_delivery _ _, drainDelivery_inlet _ _,
    (drainDelivery_sameGauges _ _ d.comp).2.trans (setLevel_level _ _ s)⟩

/-! ## The overfill switch (R139) -/

/-- The state after an overfill switch is taken as active, its alarm raised. -/
def overfilled (c : Comp) (s : State) : State := raiseAlarm (.overfill c) (setOverfill c true s)

theorem overfilled_touches (c : Comp) (s : State) : OnlyIn [.inputs, .alarms] s (overfilled c s) :=
  ((only_setInputs _ s).mono (by decide)).then (raiseAlarm_touches _ _) (by decide)

theorem exec_overfillSwitchActive (hp : s.power = .on) (ho : s.inputs.overfill.get c = false) :
    exec (.overfillSwitchActive c) s = .next (overfillDelivery c (overfilled c s)) :=
  congrArg Host.Outcome.next ((if_neg (by simp [ho])).trans (if_pos (live_of_on hp)))

theorem overfillDelivery_touches (c : Comp) (s : State) :
    OnlyIn [.delivery, .inlet, .units] s (overfillDelivery c s) :=
  .ite (closeInlet_touches _ _) (.refl _ s)

theorem overfillDelivery_receiving (hd : s.store.delivery = some d) (hc : d.comp = c) (hs : d.state = .receiving) :
    overfillDelivery c s = drainDelivery { d with cause := some .overfill } s := by
  have into : deliveryInto c s = true := by rw [deliveryInto, hd, ← hc]; exact decide_eq_true rfl
  rw [overfillDelivery, if_pos into, closeInlet_receiving hd hs]

/-- R139: the switch reaches a delivery that receives into its compartment alone. -/
theorem overfillDelivery_of_not (hn : ∀ d, s.store.delivery = some d → d.comp = c → d.state ≠ .receiving) :
    overfillDelivery c s = s := by
  by_cases into : deliveryInto c s = true
  · obtain ⟨d, hd, hc⟩ := Option.map_eq_some_iff.mp (of_decide_eq_true into)
    rw [overfillDelivery, if_pos into, closeInlet_of_not hd (hn d hd hc)]
  · rw [overfillDelivery, if_neg into]

theorem overfill_shuts (hp : s.power = .on) (ho : s.inputs.overfill.get c = false) :
    ∃ t, exec (.overfillSwitchActive c) s = .next t ∧ t.alarms = (raiseAlarm (.overfill c) s).alarms ∧
      t.inputs = { s.inputs with overfill := s.inputs.overfill.set c true } ∧
      OnlyIn [.inputs, .alarms, .delivery, .inlet, .units] s t ∧
      (∀ d, s.store.delivery = some d → d.comp = c → d.state = .receiving →
        t.store.delivery = some { d with state := .draining, cause := some .overfill } ∧
        t.inlet = ⟨false, .running 2, .running 15⟩) ∧
      ((∀ d, s.store.delivery = some d → d.comp = c → d.state ≠ .receiving) → OnlyIn [.inputs, .alarms] s t) := by
  have after := overfillDelivery_touches c (overfilled c s)
  refine ⟨_, exec_overfillSwitchActive hp ho, after .alarms (by decide), after .inputs (by decide),
    ((overfilled_touches c s).mono (by decide)).then after (by decide), fun d hd hc hs => ?_, fun hn => ?_⟩
  · rw [overfillDelivery_receiving (s := overfilled c s) hd hc hs]
    exact ⟨drainDelivery_delivery _ _, drainDelivery_inlet _ _⟩
  · rw [overfillDelivery_of_not (s := overfilled c s) hn]
    exact overfilled_touches c s

/-! ## A pulse of the inlet meter (R1, R3, R4, R110, R137, R142) -/

/-- The state after a pulse of the inlet meter is counted with the factor of its band. -/
def inletCounted (d : Delivery) (b : Band) (s : State) : State :=
  (addToInterval .m4 b.factor s).setDelivery (some { d with volume := countVolume b.factor d.volume })

theorem inletCounted_touches (d : Delivery) (b : Band) (s : State) :
    OnlyIn [.delivery, .meters] s (inletCounted d b s) :=
  ((addToInterval_touches _ _ s).mono (by decide)).then (only_setDelivery _ _) (by decide)

/-- R3, R4: a pulse on the inlet meter with its current band in the list. -/
theorem countInletPulse_eq (hb : (s.store.cal.set.bands.get .m4)[(s.meter .m4).band - 1]? = some b) :
    countInletPulse d s = inletCounted d b s := by
  simp only [countInletPulse, pulseFactor, drawFactor, hb]
  rfl

theorem exec_meterPulse_m4 (hp : s.power = .on) : exec (.meterPulse .m4) s = .next (inletPulse s) :=
  congrArg Host.Outcome.next (if_pos (live_of_on hp))

theorem inletPulse_receiving (hd : s.store.delivery = some d) (hs : d.state = .receiving) :
    inletPulse s = countInletPulse d s := by
  simp only [inletPulse, hd, hs]

/-- R142: a pulse in DRAINING restarts the quiet timer. -/
def quietAgain (s : State) : State := s.setInlet { s.inlet with quiet := .running 2 }

theorem inletPulse_draining (hd : s.store.delivery = some d) (hs : d.state = .draining) :
    inletPulse s = quietAgain (countInletPulse d s) := by
  simp only [inletPulse, hd, hs]
  rfl

theorem inletPulse_counts (hp : s.power = .on) (hd : s.store.delivery = some d)
    (hs : d.state = .receiving ∨ d.state = .draining)
    (hb : (s.store.cal.set.bands.get .m4)[(s.meter .m4).band - 1]? = some b) :
    ∃ t, exec (.meterPulse .m4) s = .next t ∧ OnlyIn [.delivery, .meters, .inlet] s t ∧
      t.store.delivery = some { d with volume := countVolume b.factor d.volume } ∧
      t.inlet = (if d.state = .draining then { s.inlet with quiet := .running 2 } else s.inlet) := by
  have counted := (inletCounted_touches d b s).mono (qs := [.delivery, .meters, .inlet]) (by decide)
  refine ⟨_, exec_meterPulse_m4 hp, ?_⟩
  obtain hs | hs := hs
  · rw [inletPulse_receiving hd hs, countInletPulse_eq hb]
    exact ⟨counted, rfl, (if_neg (by rw [hs]; nofun)).symm⟩
  · rw [inletPulse_draining hd hs, countInletPulse_eq hb]
    exact ⟨counted.then (only_setInlet _ _) (by decide), rfl, (if_pos hs).symm⟩

theorem inletPulse_stray (hn : ∀ d, s.store.delivery = some d → d.state = .preGauge ∨ d.state = .postGauge) :
    inletPulse s = strayInletPulse s := by
  cases hd : s.store.delivery with
  | none => simp only [inletPulse, hd]
  | some d => obtain hs | hs := hn d hd <;> simp only [inletPulse, hd, hs]

/-- R110: a stray pulse of the inlet meter is counted and raises INLET_FLOW. -/
theorem inletPulse_strays (hp : s.power = .on)
    (hn : ∀ d, s.store.delivery = some d → d.state = .preGauge ∨ d.state = .postGauge) :
    ∃ t, exec (.meterPulse .m4) s = .next t ∧ OnlyIn [.alarms, .meters] s t ∧
      (t.meter .m4).strays = min ((s.meter .m4).strays + 1) 65535 ∧
      t.alarms = (raiseAlarm (.inletFlow s.store.selector) s).alarms := by
  have meter : (strayInletPulse s).meter .m4 =
      { s.meter .m4 with strays := min ((s.meter .m4).strays + 1) 65535 } :=
    ((raiseAlarm_touches _ (countStray .m4 s)).meter .m4 (by decide)).trans (State.meter_putMeter _ s)
  refine ⟨_, exec_meterPulse_m4 hp, ?_⟩
  rw [inletPulse_stray hn, meter]
  exact ⟨strayInletPulse_touches s, rfl, rfl⟩

/-! ## The end of the drain (R115, R117, R142, R143) -/

theorem endDeliveryDrain_after (d : Delivery) (s : State) :
    OnlyIn [.units] (creditDelivery d s) (endDeliveryDrain d s) :=
  (evalRest_touches _ _).trans (requestRun_touches _ _ _)

theorem endDeliveryDrain_sameGauges (d : Delivery) (s : State) :
    SameGauges (creditDelivery d s) (endDeliveryDrain d s) :=
  (evalRest_sameGauges _ _).trans (requestRun_sameGauges _ _ _)

theorem endDeliveryDrain_delivery (d : Delivery) (s : State) :
    (endDeliveryDrain d s).store.delivery = some (finishDelivery d s) :=
  (endDeliveryDrain_after d s .delivery (by decide)).trans
    ((afterBookChange_touches d.comp (credited d s) .delivery (by decide)).trans rfl)

theorem endDeliveryDrain_credited (d : Delivery) (s : State) : DeliveryCredited d s (endDeliveryDrain d s) := by
  have after := endDeliveryDrain_after d s
  have alarms : OtherAlarms [.lowStock d.comp] (creditDelivery d s) (endDeliveryDrain d s) :=
    after.otherAlarms (by decide)
  refine ⟨⟨finishDelivery d s, endDeliveryDrain_delivery d s, rfl, rfl, rfl, rfl, rfl, rfl, rfl, rfl, rfl, rfl, rfl,
    rfl⟩, (after.comp _ (by decide)).trans (creditDelivery_comp d s),
    fun e he => (after.comp e (by decide)).trans (creditDelivery_otherComp d s e he),
    (after .inlet (by decide)).trans (creditDelivery_inlet d s), ?_, requestRun_mem _ _ _, ?_,
    (creditDelivery_otherAlarms d s).trans alarms, endDeliveryDrain_touches d s⟩
  · rw [after.meter _ (by decide), creditDelivery_meter]
    exact State.meter_putMeter _ s
  · exact (creditDelivery_lowStockWatched d s).congr rfl rfl rfl (endDeliveryDrain_sameGauges d s d.comp).1
      (congrArg Compartment.book (after.comp _ (by decide)))
      (congrArg Compartment.lowStock (after.comp _ (by decide)))
      (congrArg (tableFind · _) (after .alarms (by decide)))

theorem endDrain_draining (hd : s.store.delivery = some d) (hs : d.state = .draining) (cut : Bool) :
    endDrain cut s = endDeliveryDrain { d with drainCut := d.drainCut || cut } s := by
  simp only [endDrain, hd, hs]

/-- R142, R143: either end of the drain credits the delivery; DRAIN_CUT is kept, and set at the cap. -/
theorem endDrain_credits (hd : s.store.delivery = some d) (hs : d.state = .draining) (cut : Bool) :
    DeliveryCredited d s (endDrain cut s) ∧
      (endDrain cut s).store.delivery.map Delivery.drainCut = some (d.drainCut || cut) := by
  rw [endDrain_draining hd hs, endDeliveryDrain_delivery]
  exact ⟨endDeliveryDrain_credited { d with drainCut := d.drainCut || cut } s, rfl⟩

theorem exec_deliveryDrainQuietExpiry (hp : s.power = .on) (hq : s.inlet.quiet = .running n) :
    exec .deliveryDrainQuietExpiry s = .next (endDrain false s) := by
  have taken : (s.live && s.inlet.quiet.isRunning) = true := by rw [live_of_on hp, hq]; rfl
  exact congrArg Host.Outcome.next (if_pos taken)

theorem exec_deliveryDrainCapExpiry (hp : s.power = .on) (hq : s.inlet.cap = .running n) :
    exec .deliveryDrainCapExpiry s = .next (endDrain true s) := by
  have taken : (s.live && s.inlet.cap.isRunning) = true := by rw [live_of_on hp, hq]; rfl
  exact congrArg Host.Outcome.next (if_pos taken)

/-! ## The post-gauge (R144, R150) -/

theorem takePostGauge_records (hd : s.store.delivery = some d) (hs : d.state = .postGauge) :
    takePostGauge d.comp r s = recordDelivery d (deliveryGauge r) s := by
  simp only [takePostGauge, hd, hs, and_self, if_true]

theorem exec_postGaugeResult (hp : s.power = .on) (hd : s.store.delivery = some d) (hs : d.state = .postGauge) :
    exec (.postGaugeResult d.comp r) s =
      .next (recordDelivery d (deliveryGauge r) (takeHanded (.result .postDelivery d.comp r) s)) :=
  congrArg Host.Outcome.next ((if_pos (live_of_on hp)).trans
    (takePostGauge_records (s := takeHanded (.result .postDelivery d.comp r) s) hd hs))

theorem postGauge_records (hp : s.power = .on) (hd : s.store.delivery = some d) (hs : d.state = .postGauge)
    (r : GaugeResult) : ∃ t, exec (.postGaugeResult d.comp r) s = .next t ∧
      DeliveryRecorded d (deliveryGauge r) s t ∧ OtherAlarms [.logNearFull] s t ∧
      OnlyIn [.delivery, .log, .logWatch, .alarms, .handed] s t := by
  have taken := takeHanded_touches (.result .postDelivery d.comp r) s
  exact ⟨_, exec_postGaugeResult hp hd hs,
    recordDelivery_recorded d _ (takeHanded (.result .postDelivery d.comp r) s),
    (taken.otherAlarms (by decide)).trans (recordDelivery_otherAlarms d _ _),
    (taken.mono (by decide)).then (recordDelivery_touches d _ _) (by decide)⟩

/-- Settles O49: each event is its lemma above, the switch's release by definition. -/
theorem deliveriesDrainCreditAndRecord : Obligations.DeliveriesDrainCreditAndRecord := by
  unfold Obligations.DeliveriesDrainCreditAndRecord
  refine fun c s hp => ⟨rfl, overfill_shuts hp, ?_, ?_, fun d b => inletPulse_counts hp, inletPulse_strays hp, ?_, ?_⟩
  · rintro d level hd rfl hs hc
    exact levelReading_shuts hp hd hs hc
  · rintro d hd rfl hs
    exact levelFault_shuts hp hd hs
  · rintro d hd rfl hs
    refine ⟨fun ⟨n, hq⟩ => ⟨_, exec_deliveryDrainQuietExpiry hp hq, ?_⟩,
      fun ⟨n, hq⟩ => ⟨_, exec_deliveryDrainCapExpiry hp hq, ?_⟩⟩
    · obtain ⟨credits, cut⟩ := endDrain_credits hd hs false
      exact ⟨credits, cut.trans (congrArg some (Bool.or_false d.drainCut))⟩
    · obtain ⟨credits, cut⟩ := endDrain_credits hd hs true
      exact ⟨credits, cut.trans (congrArg some (Bool.or_true d.drainCut))⟩
  · rintro d r hd rfl hs
    cases r with
    | ok g => exact postGauge_records hp hd hs (.ok g)
    | failed => exact postGauge_records hp hd hs .failed

end Sys2Proof.Machine
end

section
/-! PROOF. The laws of the books and the sequence numbers (O53) as laws that one change of the state keeps, and the
changes of the compartments and the log (R92, R111, R115, R131, R143, R147, R148, R154 to R156, R161). -/

namespace Sys2Proof.Machine

variable {s t u : State} {h : Hose} {c e : Comp} {ps : List Part} {k l m : Log} {x : Compartment} {d : Delivery}

/-! ## The book of one compartment (R115) -/

/-- R115: the book of a compartment is the opening book plus delivered, less dispensed, plus adjustments. -/
def Compartment.Balanced (x : Compartment) : Prop :=
  x.book = x.opening + x.delivered - x.dispensed + x.adjustments

theorem bookLaw_iff : BookLaw s ↔ ∀ c, (s.comp c).Balanced := Iff.rfl

theorem Compartment.Balanced.dispense (b : x.Balanced) (net r : Nat) : (x.dispense net r).Balanced := by
  simp only [Compartment.Balanced, Compartment.dispense] at b ⊢
  omega

theorem Compartment.Balanced.credit (b : x.Balanced) (net : Nat) : (x.credit net).Balanced := by
  simp only [Compartment.Balanced, Compartment.credit] at b ⊢
  omega

theorem Compartment.Balanced.adjust (b : x.Balanced) (after : Int) : (x.adjust after).Balanced := by
  simp only [Compartment.Balanced, Compartment.adjust] at b ⊢
  omega

/-- R161: in a new shift the book is the opening book, with nothing delivered, dispensed or adjusted. -/
theorem Compartment.balanced_newShift (x : Compartment) : x.newShift.Balanced := by
  simp [Compartment.Balanced, Compartment.newShift]

/-! ## The sequence numbers of the log (R148) -/

/-- R148: the sequence numbers of the records strictly increase below the next one. -/
def Log.Ascending (l : Log) : Prop :=
  (l.records.map Record.seq).Pairwise (· < ·) ∧ ∀ r ∈ l.records, r.seq < l.nextSeq

theorem sequenceLaw_iff : SequenceLaw s ↔ s.store.log.Ascending := Iff.rfl

/-- A change of the log that keeps the law of the sequence numbers, and under which the next one does not fall. -/
structure Log.Grows (k l : Log) : Prop where
  ascending : k.Ascending → l.Ascending
  next : k.nextSeq ≤ l.nextSeq

theorem Log.Grows.refl (l : Log) : l.Grows l := ⟨id, le_rfl⟩

theorem Log.Grows.trans (a : k.Grows l) (b : l.Grows m) : k.Grows m :=
  ⟨fun h => b.ascending (a.ascending h), a.next.trans b.next⟩

/-- R155: records that are marked or removed, the next number as it was. -/
theorem Log.Grows.of_sublist (hr : (l.records.map Record.seq).Sublist (k.records.map Record.seq))
    (hn : l.nextSeq = k.nextSeq) : k.Grows l := by
  refine ⟨fun ⟨ordered, below⟩ => ⟨ordered.sublist hr, fun r hm => ?_⟩, hn.ge⟩
  obtain ⟨q, hq, he⟩ := List.mem_map.mp (hr.subset (List.mem_map_of_mem hm))
  rw [hn, ← he]
  exact below q hq

theorem Log.Grows.of_seqs (hr : l.records.map Record.seq = k.records.map Record.seq) (hn : l.nextSeq = k.nextSeq) :
    k.Grows l := .of_sublist (hr ▸ .refl _) hn

/-- R147: the commitments have no part in the law. -/
theorem Log.Grows.of_commitments (n : Nat) : l.Grows { l with commitments := n } :=
  .of_seqs rfl rfl

/-- R148: a record takes the next number, and the next one after it is larger. -/
theorem Log.Grows.append {r : Record} (n : Nat) (hr : r.seq = l.nextSeq) :
    l.Grows ⟨l.records ++ [r], n, l.nextSeq + 1⟩ := by
  refine ⟨fun ⟨ordered, below⟩ => ⟨?_, fun q hq => ?_⟩, Nat.le_succ _⟩
  · rw [List.map_append, List.pairwise_append]
    refine ⟨ordered, List.pairwise_singleton _ _, fun i hi j hj => ?_⟩
    obtain ⟨q, hq, rfl⟩ := List.mem_map.mp hi
    rw [List.mem_singleton.mp hj, hr]
    exact below q hq
  · rcases List.mem_append.mp hq with hq | hq
    · exact (below q hq).trans (Nat.lt_succ_self _)
    · rw [List.mem_singleton.mp hq, hr]
      exact Nat.lt_succ_self _

/-- R154: a record that is handed over keeps its number. -/
theorem markSent_grows (n : Nat) (l : Log) : l.Grows (markSent n l) := by
  refine .of_seqs ?_ rfl
  rw [markSent, List.map_map]
  refine List.map_congr_left fun r _ => ?_
  dsimp only [Function.comp_apply]
  split <;> rfl

/-- R156: every record keeps its number. -/
theorem rewind_grows (l : Log) : l.Grows (rewind l) := by
  refine .of_seqs ?_ rfl
  rw [rewind, List.map_map]
  rfl

/-! ## What it means to keep the laws -/

/-- The laws of the books and the sequence numbers hold after a change where they held before, and the next sequence
number has not fallen. -/
structure LedgerKept (s t : State) : Prop where
  book : ∀ c, (s.comp c).Balanced → (t.comp c).Balanced
  log : s.store.log.Grows t.store.log

theorem LedgerKept.refl (s : State) : LedgerKept s s := ⟨fun _ => id, .refl _⟩

theorem LedgerKept.trans (a : LedgerKept s t) (b : LedgerKept t u) : LedgerKept s u :=
  ⟨fun c hb => b.book c (a.book c hb), a.log.trans b.log⟩

theorem LedgerKept.ite {p : Prop} [Decidable p] (a : p → LedgerKept s t) (b : ¬ p → LedgerKept s u) :
    LedgerKept s (if p then t else u) := by
  split
  · exact a ‹_›
  · exact b ‹_›

/-- An event that is taken under a condition, and comes to nothing without it. -/
theorem LedgerKept.when {p : Prop} [Decidable p] (a : p → LedgerKept s t) : LedgerKept s (if p then t else s) :=
  .ite a fun _ => .refl s

/-- The parts that the laws do not look at: neither the compartments nor the log. -/
abbrev ledgerFreeParts : List Part :=
  [.machines, .queue, .accounts, .hoseConfigs, .txs, .pumpConfigs, .delivery, .selector, .shift, .cal, .site, .clock,
    .channels, .hoses, .meters, .sources, .pumps, .units, .inlet, .logWatch, .guard, .park, .link, .alarms, .inputs,
    .power, .handed, .draws, .pending, .line]

/-- A change within the parts that the laws do not look at. -/
theorem OnlyIn.ledgerKept (ho : OnlyIn ps s t) (hp : ps ⊆ ledgerFreeParts := by decide) : LedgerKept s t := by
  have ho := ho.mono hp
  have log : t.store.log = s.store.log := ho .log (by decide)
  exact ⟨fun c => by rw [ho.comp]; exact id, by rw [log]; exact .refl _⟩

theorem LedgerKept.then (a : LedgerKept s t) (ho : OnlyIn ps t u) (hp : ps ⊆ ledgerFreeParts := by decide) :
    LedgerKept s u := a.trans (ho.ledgerKept hp)

/-- A change of the log alone, but for the parts that the laws do not look at. -/
theorem LedgerKept.of_log (ho : OnlyIn ps s t) (hl : s.store.log.Grows t.store.log)
    (hp : ps ⊆ .log :: ledgerFreeParts := by decide) : LedgerKept s t :=
  ⟨fun c => by rw [(ho.mono hp).comp]; exact id, hl⟩

theorem LedgerKept.setLog (hl : s.store.log.Grows l) : LedgerKept s (s.setLog l) := .of_log (only_setLog l s) hl

/-- A change of one compartment, whose book stays balanced. -/
theorem putComp_ledgerKept (hx : (s.comp c).Balanced → x.Balanced) : LedgerKept s (s.putComp c x) := by
  refine ⟨fun e => ?_, .refl _⟩
  by_cases he : e = c
  · subst he
    rw [State.comp_putComp]
    exact hx
  · rw [State.comp_putComp_ne _ _ he]
    exact id

/-! ## The log (R147, R148, R154 to R156) -/

theorem takeCommitment_ledgerKept (s : State) : LedgerKept s (takeCommitment s) :=
  (LedgerKept.setLog (.of_commitments _)).then (watchLog_touches _)

theorem releaseCommitment_ledgerKept (s : State) : LedgerKept s (releaseCommitment s) :=
  (LedgerKept.setLog (.of_commitments _)).then (watchLog_touches _)

/-- R148: a record that is written takes the next number. -/
theorem writeRecord_ledgerKept (body : RecordBody) (s : State) : LedgerKept s (writeRecord body s) :=
  (LedgerKept.setLog (.append (r := newRecord body s) _ rfl)).then (watchLog_touches _)

theorem removeSent_ledgerKept (n : Nat) (s : State) : LedgerKept s (removeSent n s) :=
  (LedgerKept.setLog (l := { s.store.log with records := s.store.log.records.filter fun r => !confirmable n r })
    (.of_sublist (List.filter_sublist.map _) rfl)).then (watchLog_touches _)

/-! ## The compartments (R111, R112, R115, R119, R120, R124, R125, R128) -/

theorem setStale_ledgerKept (c : Comp) (s : State) : LedgerKept s (setStale c s) := putComp_ledgerKept id

theorem afterBookChange_ledgerKept (c : Comp) (s : State) : LedgerKept s (afterBookChange c s) :=
  (setStale_ledgerKept c s).then (watchStock_touches _ _)

theorem completeRun_ledgerKept (c : Comp) (reqs : List Requester) (n sum : Nat) (s : State) :
    LedgerKept s (completeRun c reqs n sum s) := by
  have gauged : LedgerKept s (s.putComp c { s.comp c with gauging :=
      { ok := true, stale := false, values := some (valuesOf c (gaugeLevel c (sum / n) s) s) } }) :=
    putComp_ledgerKept id
  exact (gauged.then (setRun_touches c .idle _)).then (handResults_touches c _ reqs _)

theorem failRun_ledgerKept (c : Comp) (reqs : List Requester) (s : State) : LedgerKept s (failRun c reqs s) := by
  have failed : LedgerKept s (s.putComp c { s.comp c with gauging := { (s.comp c).gauging with ok := false } }) :=
    putComp_ledgerKept id
  exact ((failed.then (raiseAlarm_touches (.levelProbeFault c) _)).then (setRun_touches c .idle _)).then
    (handResults_touches c _ reqs _)

theorem sampleRun_ledgerKept (c : Comp) (level : Nat) (s : State) : LedgerKept s (sampleRun c level s) := by
  unfold sampleRun
  split
  · exact .ite (fun _ => completeRun_ledgerKept _ _ _ _ s) fun _ => (setRun_touches _ _ s).ledgerKept
  all_goals exact .refl s

theorem faultRun_ledgerKept (c : Comp) (s : State) : LedgerKept s (faultRun c s) := by
  unfold faultRun
  split
  · exact failRun_ledgerKept _ _ s
  all_goals exact .refl s

/-- R111: an inhibit leaves the book of its compartment. -/
theorem inhibit_ledgerKept (c : Comp) (k : InhibitCause) (s : State) : LedgerKept s (inhibit c k s) := by
  by_cases hn : (s.comp c).inhibit = none
  · have noted : LedgerKept s (s.putComp c { s.comp c with inhibit := some ⟨k, s.clock⟩ }) := putComp_ledgerKept id
    have marked : LedgerKept s (markInhibited c k s) := noted.then (evalPump_touches _ _)
    rw [inhibit_normal hn]
    exact (marked.then (strikeAll_touches _ _ _ _)).then (evalRest_touches _ _)
  · rw [inhibit_again hn]
    exact .refl s

theorem clearInhibit_ledgerKept (c : Comp) (s : State) : LedgerKept s (clearInhibit c s) :=
  have cleared : LedgerKept s (s.putComp c { s.comp c with inhibit := none }) := putComp_ledgerKept id
  cleared.then (evalPump_touches c _)

theorem writeItem_ledgerKept (item : CalItem) (v : CalValue) (s : State) : LedgerKept s (writeItem item v s) := by
  have base : LedgerKept s ((s.setCal (s.store.cal.write item v s.now)).setGuard
      { s.guard with fault := false, window := .running Config.windowTime }) :=
    (only_setCal _ s).ledgerKept.then (only_setGuard _ _)
  cases item with
  | alpha c => exact base.trans (setStale_ledgerKept c _)
  | meter | offset => exact base

/-! ## The pulses and the drain (R1, R89 to R91, R109) -/

theorem overrun_ledgerKept (h : Hose) (s : State) : LedgerKept s (overrun h s) :=
  ((((only_setTxs _ s).ledgerKept.then (stopFill_touches h _ _)).then (raiseAlarm_touches _ _)).trans
    (inhibit_ledgerKept _ _ _)).then (only_setTxs _ _)

theorem pulseFlowing_ledgerKept (h : Hose) (s : State) : LedgerKept s (pulseFlowing h s) := by
  have restart : LedgerKept s (timed h (countHosePulse h s)) :=
    (countHosePulse_touches h s).ledgerKept.then (only_setHoses _ _)
  exact .ite (fun _ => restart.trans (overrun_ledgerKept h _)) fun _ => restart.then (evalStage_touches h _)

theorem pulseDraining_ledgerKept (h : Hose) (s : State) : LedgerKept s (pulseDraining h s) := by
  have count : LedgerKept s (countHosePulse h s) := (countHosePulse_touches h s).ledgerKept
  have tested : LedgerKept s (if (((countHosePulse h s).tx h).map newlyOverrun).getD false
      then overrun h (countHosePulse h s) else countHosePulse h s) :=
    .ite (fun _ => count.trans (overrun_ledgerKept h _)) fun _ => count
  exact tested.then (only_setHoses _ _)

theorem hosePulse_ledgerKept (h : Hose) (s : State) : LedgerKept s (hosePulse h s) := by
  unfold hosePulse
  split
  · exact pulseFlowing_ledgerKept h s
  · exact pulseDraining_ledgerKept h s
  all_goals
    rw [strayPulse_eq]
    exact (strayNoted_touches h s).ledgerKept.trans (inhibit_ledgerKept _ _ _)

theorem cutDrain_ledgerKept (h : Hose) (s : State) : LedgerKept s (cutDrain h s) := by
  rw [cutDrain_eq]
  exact (cutNoted_touches h s).ledgerKept.trans (inhibit_ledgerKept _ _ _)

/-! ## The grant (R75, R76, R147) and the close of a fill (R92) -/

/-- R75, R147: the opening of a fill reserves stock and commits a slot. -/
theorem opened_ledgerKept (h : Hose) (tx : Transaction) (s : State) : LedgerKept s (opened h tx s) := by
  refine ⟨fun c => ?_, opened_log h tx s ▸ .of_commitments _⟩
  by_cases hc : c = compOf h
  · subst hc
    rw [opened_comp]
    exact id
  · rw [opened_comp_ne _ _ hc]
    exact id

theorem grant_ledgerKept (g : GrantRequest) (s : State) : LedgerKept s (grant g s) := by
  unfold grant
  split
  · exact .refl s
  · split
    · exact (refuseHose_touches _ _ s).ledgerKept
    · rw [openFill_eq]
      exact ((opened_ledgerKept _ _ s).then (evalStage_touches _ _)).then (settle_touches _ _)

/-- R92, R93, R115: the charge of a fill takes its net from the book and counts it as dispensed, and its record takes
the next number. -/
theorem chargeFill_ledgerKept (h : Hose) (tx : Transaction) (s : State) : LedgerKept s (chargeFill h tx s) := by
  have parties : LedgerKept s (chargedParties h tx s) := (chargedParties_touches h tx s).ledgerKept
  have charge : LedgerKept s (charged h tx s) :=
    parties.trans (putComp_ledgerKept fun b => b.dispense _ _)
  have watched : LedgerKept s (chargedWatched h tx s) :=
    .ite (fun _ => charge) fun _ => charge.trans (afterBookChange_ledgerKept _ _)
  rw [chargeFill_eq]
  exact ((watched.trans (writeRecord_ledgerKept _ _)).then (countFill_touches _ _)).then (onMachine_touches _ _ _)

theorem closeFill_ledgerKept (h : Hose) (s : State) : LedgerKept s (closeFill h s) := by
  cases ht : s.tx h with
  | none =>
    have same : closeFill h s = s := by simp only [closeFill, ht]
    rw [same]
    exact .refl s
  | some tx =>
    have settled : LedgerKept s (settledFill h tx s) := (chargeFill_ledgerKept h tx s).then (only_setTxs _ _)
    have closed : LedgerKept s (closedFill h tx s) := settled.then (only_setHoses _ _)
    rw [closeFill_eq ht]
    exact ((closed.then (endHold_touches _ _)).then (stopInterval_touches _ _)).then (settle_touches _ _)

/-! ## Deliveries, adjustments and shifts (R131, R134, R141, R143, R144, R161) -/

/-- R115, R143: the credit of a delivery adds its net to the book and counts it as delivered. -/
theorem creditDelivery_ledgerKept (d : Delivery) (s : State) : LedgerKept s (creditDelivery d s) := by
  have credit : LedgerKept s ((stopInterval .m4 s).putComp d.comp
      (((stopInterval .m4 s).comp d.comp).credit d.volume.netMl)) :=
    (stopInterval_touches .m4 s).ledgerKept.trans (putComp_ledgerKept fun b => b.credit _)
  exact ((credit.then (only_setDelivery _ _)).then (only_setInlet _ _)).trans (afterBookChange_ledgerKept _ _)

theorem endDrain_ledgerKept (cut : Bool) (s : State) : LedgerKept s (endDrain cut s) := by
  unfold endDrain
  split
  · exact .refl s
  · split
    · exact ((creditDelivery_ledgerKept _ s).then (evalRest_touches _ _)).then (requestRun_touches _ _ _)
    all_goals exact .refl s

theorem recordDelivery_ledgerKept (d : Delivery) (post : Option DeliveryGauge) (s : State) :
    LedgerKept s (recordDelivery d post s) := (writeRecord_ledgerKept _ s).then (only_setDelivery _ _)

theorem cancelDelivery_ledgerKept (s : State) : LedgerKept s (cancelDelivery s) :=
  (releaseCommitment_ledgerKept s).then (only_setDelivery _ _)

theorem takePostGauge_ledgerKept (c : Comp) (r : GaugeResult) (s : State) : LedgerKept s (takePostGauge c r s) := by
  unfold takePostGauge
  split
  · exact .refl s
  · exact .when fun _ => recordDelivery_ledgerKept _ _ s

theorem openDelivery_ledgerKept (c : Comp) (docket : Text) (declared : Option Int) (s : State) :
    LedgerKept s (openDelivery c docket declared s) :=
  (((takeCommitment_ledgerKept s).then (only_setDelivery _ _)).then (only_setSelector _ _)).then
    (requestRun_touches _ _ _)

theorem closeDelivery_ledgerKept (d : Delivery) (s : State) : LedgerKept s (closeDelivery d s) := by
  unfold closeDelivery
  split
  · exact (cancelRequest_touches _ _ s).ledgerKept.trans (cancelDelivery_ledgerKept _)
  · exact (closeInlet_touches _ s).ledgerKept
  all_goals exact .refl s

/-- R115, R131: an adjustment sets the book and moves adjustments by the same. -/
theorem adjustBook_ledgerKept (c : Comp) (o : AdjustOperands) (after : Int) (s : State) :
    LedgerKept s (adjustBook c o after s) := by
  have set : LedgerKept s (bookSet c after s) :=
    (takeCommitment_ledgerKept s).trans (putComp_ledgerKept fun b => b.adjust _)
  exact (set.trans (writeRecord_ledgerKept _ _)).trans (afterBookChange_ledgerKept _ _)

theorem shiftTurned_ledgerKept (s : State) : LedgerKept s (shiftTurned s) := by
  refine ⟨fun c _ => ?_, .refl _⟩
  rw [shiftTurned_comp]
  exact Compartment.balanced_newShift _

theorem closeShift_ledgerKept (s : State) : LedgerKept s (closeShift s) := by
  have recorded : LedgerKept s (writeRecord (.shift (shiftRecord s)) (takeCommitment s)) :=
    (takeCommitment_ledgerKept s).trans (writeRecord_ledgerKept _ _)
  exact (recorded.trans (shiftTurned_ledgerKept _)).then (only_setShift _ _)

/-! ## The power (R19, R46, R101, R127, R146, R151) -/

theorem closesFrom_ledgerKept (clock : Stamp) (s : State) : LedgerKept s (closesFrom clock s) :=
  ⟨fun _ => id, .of_commitments _⟩

theorem closeInterrupted_ledgerKept (h : Hose) (s : State) : LedgerKept s (closeInterrupted h s) := by
  cases ht : s.tx h with
  | none => rw [closeInterrupted_none ht]; exact .refl s
  | some tx =>
    rw [closeInterrupted_some ht]
    exact (chargeFill_ledgerKept h tx.lost s).then (only_setTxs _ _)

theorem endInterrupted_ledgerKept (s : State) : LedgerKept s (endInterrupted s) := by
  cases hd : s.store.delivery with
  | none => rw [endInterrupted_none hd]; exact .refl s
  | some d =>
    have counted (hc : d.state = .receiving ∨ d.state = .draining) : LedgerKept s (endInterrupted s) := by
      rw [endInterrupted_counting hd hc]
      exact (creditDelivery_ledgerKept _ s).trans (recordDelivery_ledgerKept _ _ _)
    cases hc : d.state with
    | preGauge => rw [endInterrupted_preGauge hd hc]; exact cancelDelivery_ledgerKept s
    | receiving => exact counted (.inl hc)
    | draining => exact counted (.inr hc)
    | postGauge => rw [endInterrupted_postGauge hd hc]; exact recordDelivery_ledgerKept _ _ s

theorem closedFrom_ledgerKept (clock : Stamp) (s : State) : LedgerKept s (closedFrom clock s) :=
  ((((closesFrom_ledgerKept clock s).trans (closeInterrupted_ledgerKept .h1 _)).trans
    (closeInterrupted_ledgerKept .h2 _)).trans (closeInterrupted_ledgerKept .h3 _)).trans (endInterrupted_ledgerKept _)

theorem staled_ledgerKept (s : State) : LedgerKept s (staled s) :=
  ((((watchLog_touches s).ledgerKept.then (applyQueue_touches _)).then (startHoses_touches _)).trans
    (setStale_ledgerKept .c1 _)).trans (setStale_ledgerKept .c2 _)

theorem startUpAt_ledgerKept (clock : Stamp) (s : State) : LedgerKept s (startUpAt clock s) := by
  rw [startUpAt_eq]
  exact ((closedFrom_ledgerKept clock s).trans (staled_ledgerKept _)).then
    (started_after_staled (closedFrom_no_fault clock s))

end Sys2Proof.Machine
end

section
/-! PROOF. The laws of the books and the sequence numbers over the owners of the requests, every command and every
step, and O53. -/

namespace Sys2Proof.Machine

variable {s t : State} {h : Hose} {k : Nat} {id : TagId} {m : MachineEntry} {ps : List Part} {o : Owned}

/-! ## A step, for any relation that every command meets -/

/-- A relation that every command meets, that composes, and that every change of the link, the park and the two queues
meets. -/
structure Followed (R : State → State → Prop) : Prop extends Carries R where
  queues : ∀ {s t}, OnlyIn [.pending, .line] s t → R s t
  exec : ∀ i s, Leads R s (Machine.exec i s)

theorem Followed.takeByte {R : State → State → Prop} (f : Followed R) (b : LineByte) (s : State) :
    Leads R s (Machine.takeByte b s) := by
  obtain he | ⟨a, he⟩ | ⟨a, i, -, he⟩ := takeByte_cases b s <;> rw [he]
  · exact .next (f.frame (.refl _ s))
  · exact .next (f.frame ((only_setLink _ s).mono (by decide)))
  · exact f.exec i s

/-- A step takes a command of the queue, or a byte of the line, or nothing. -/
theorem Followed.step {R : State → State → Prop} (f : Followed R) (hs : Machine.step s = .next t) : R s t := by
  obtain ⟨i, rest, -, he⟩ | ⟨b, rest, -, -, he⟩ | ⟨-, -, he⟩ := step_cases s <;> rw [he] at hs
  · exact f.trans (f.queues ((only_setPending rest s).mono (by decide))) (hs ▸ f.exec i _).of_next
  · exact f.trans (f.queues ((only_setLine rest s).mono (by decide))) (hs ▸ f.takeByte b _).of_next
  · cases hs
    exact f.queues (.refl _ s)

/-! ## Hoses (R58 to R70, R83 to R87, R107) -/

theorem dropLinks_ledgerKept (hs : List Hose) (s : State) : LedgerKept s (dropLinks hs s) := by
  have drop (h : Hose) (s : State) : LedgerKept s (dropLink h s) := by
    unfold dropLink
    split
    · exact .ite (fun _ => grant_ledgerKept _ s) fun _ => (refuseHose_touches _ _ s).ledgerKept
    all_goals exact .refl s
  induction hs generalizing s with
  | nil => exact .refl s
  | cons h hs ih => exact (drop h s).trans (ih _)

theorem identified_ledgerKept : LedgerKept s (identified h k id m s) :=
  .ite (fun _ => .ite (fun _ => (only_setHoses _ s).ledgerKept) fun _ => grant_ledgerKept _ s) fun _ =>
    .ite (fun _ => grant_ledgerKept _ s) fun _ => (refuseHose_touches _ _ s).ledgerKept

theorem lookup_ledgerKept (h : Hose) (id : TagId) (s : State) : LedgerKept s (lookup h id s) := by
  have refuse (r : Reason) : LedgerKept s (refuseHose h r s) := (refuseHose_touches h r s).ledgerKept
  unfold lookup
  split
  · exact refuse _
  · split
    · exact refuse _
    · unfold testEntry
      refine .ite (fun _ => refuse _) fun _ => ?_
      split
      · exact refuse _
      · exact identified_ledgerKept

theorem authorise_ledgerKept (preset : Option Int) : LedgerKept s (authorise h k preset m s) := by
  unfold authorise
  refine .ite (fun _ => (refuseHose_touches _ _ s).ledgerKept) fun _ => ?_
  split
  · exact (refuseHose_touches _ _ s).ledgerKept
  · exact grant_ledgerKept _ s

theorem takeConfirmed_ledgerKept (h : Hose) (id : TagId) (s : State) : LedgerKept s (takeConfirmed h id s) := by
  unfold takeConfirmed
  split
  · exact lookup_ledgerKept h id s
  · unfold confirmPaused
    split
    · exact .refl s
    · exact .ite (fun _ => .refl s) fun _ => .ite (fun _ => (resumeFill_touches h _ s).ledgerKept) fun _ =>
        (stopFill_touches h _ s).ledgerKept
  all_goals exact .refl s

theorem takeLost_ledgerKept (h : Hose) (s : State) : LedgerKept s (takeLost h s) :=
  .when fun _ => .ite (fun _ => (stopFill_touches h _ s).ledgerKept) fun _ => (pauseFill_touches h s).ledgerKept

theorem hangHose_ledgerKept (h : Hose) (s : State) : LedgerKept s (hangHose h s) := by
  have off (t : State) : LedgerKept t (channelOff h t) := (channelOff_touches h t).ledgerKept
  unfold hangHose
  split
  · exact (idleHose_touches h s).ledgerKept.trans (off _)
  · exact (idleHose_touches h s).ledgerKept.trans (off _)
  · exact (stopFill_touches h _ s).ledgerKept.trans (off _)
  · exact (stopFill_touches h _ s).ledgerKept.trans (off _)
  · exact off s
  · exact (moveHose_touches h _ s).ledgerKept.trans (off _)
  · exact (moveHose_touches h _ s).ledgerKept.trans (off _)
  all_goals exact .refl s

theorem stopHose_ledgerKept (h : Hose) (s : State) : LedgerKept s (stopHose h s) := by
  unfold stopHose
  split
  · exact (refuseHose_touches h _ s).ledgerKept
  · exact (refuseHose_touches h _ s).ledgerKept
  · exact (stopFill_touches h _ s).ledgerKept
  · exact (stopFill_touches h _ s).ledgerKept
  all_goals exact .refl s

theorem emergencyStop_ledgerKept (s : State) : LedgerKept s (emergencyStop s) := by
  have denied : LedgerKept s (evalPump .c2 (evalPump .c1 (disturbPark .emergency .emergency s))) :=
    ((disturbPark_touches _ _ s).ledgerKept.then (evalPump_touches _ _)).then (evalPump_touches _ _)
  exact ((((denied.then (strikeAll_touches _ _ _ _)).then (closeInlet_touches _ _)).then
    (raiseAlarm_touches _ _)).then (evalRest_touches _ _)).then (evalRest_touches _ _)

/-! ## The owners of the requests (R187) -/

theorem carries_ledgerKept : Carries LedgerKept := ⟨LedgerKept.trans, fun ho => ho.ledgerKept⟩

/-- An owner that changes no part that the laws look at. -/
theorem Takes.ledgerKept (ho : Takes (OnlyIn ps) s o) (hp : ps ⊆ ledgerFreeParts := by decide) :
    Takes LedgerKept s o := ho.mono fun _ h => h.ledgerKept hp

theorem ownRestart_ledgerKept (s : State) : Takes LedgerKept s (ownRestart () s) :=
  .ite (fun _ => .ok (only_setPower _ s).ledgerKept) fun _ => .error

theorem ownApprove_ledgerKept (p : Nat × Option Int) (s : State) : Takes LedgerKept s (ownApprove p s) := by
  unfold ownApprove
  split
  · exact .error
  · refine .ite (fun _ => .error) fun _ => ?_
    split
    · exact .ok (grant_ledgerKept _ s)
    all_goals exact .error

theorem ownDecline_ledgerKept (n : Nat) (s : State) : Takes LedgerKept s (ownDecline n s) := by
  unfold ownDecline
  split
  · exact .error
  · exact .ite (fun _ => .ok (refuseHose_touches _ _ s).ledgerKept) fun _ => .error

theorem ownAuthorise_ledgerKept (p : Nat × Nat × Option Int) (s : State) : Takes LedgerKept s (ownAuthorise p s) := by
  unfold ownAuthorise
  split
  · exact .error
  · refine .ite (fun _ => .error) fun _ => .ite (fun _ => .error) fun _ => .ite (fun _ => .error) fun _ => ?_
    split
    · exact .error
    · exact .ok (authorise_ledgerKept _)

theorem ownHoseStatus_ledgerKept (n : Nat) (s : State) : Takes LedgerKept s (ownHoseStatus n s) := by
  unfold ownHoseStatus
  split
  · exact .error
  · exact .ok (only_setHoses _ s).ledgerKept

theorem ownStop_ledgerKept (n : Nat) (s : State) : Takes LedgerKept s (ownStop n s) := by
  unfold ownStop
  split
  · exact .error
  · exact .ite (fun _ => .error) fun _ => .ok (stopHose_ledgerKept _ s)

theorem ownHoseEnable_ledgerKept (n : Nat) (s : State) : Takes LedgerKept s (ownHoseEnable n s) := by
  unfold ownHoseEnable
  split
  · exact .error
  · exact .ok (hoseEnabled_touches _ s).ledgerKept

theorem ownHoseDisable_ledgerKept (n : Nat) (s : State) : Takes LedgerKept s (ownHoseDisable n s) := by
  unfold ownHoseDisable
  split
  · exact .error
  · exact .ite (fun _ => .error) fun _ => .ok (hoseDisabled_touches _ s).ledgerKept

theorem ownInhibitClear_ledgerKept (n : Nat) (s : State) : Takes LedgerKept s (ownInhibitClear n s) := by
  unfold ownInhibitClear
  split
  · exact .error
  · exact .ite (fun _ => .error) fun _ => .ite (fun _ => .error) fun _ => .ok (clearInhibit_ledgerKept _ s)

theorem ownTankSetupWrite_ledgerKept (p : TankOperands) (s : State) : Takes LedgerKept s (ownTankSetupWrite p s) := by
  unfold ownTankSetupWrite
  split
  · exact .error
  · rename_i c _
    have set : LedgerKept s (setTank c p s) := putComp_ledgerKept id
    exact .ite (fun _ => .error) fun _ => .ite (fun _ => .error) fun _ => .ite (fun _ => .error) fun _ =>
      .ok (set.then (watchStock_touches _ _))

theorem ownStrappingWrite_ledgerKept (p : Nat × List (Nat × Int)) (s : State) :
    Takes LedgerKept s (ownStrappingWrite p s) := by
  unfold ownStrappingWrite
  split
  · exact .error
  · rename_i c _
    have set : LedgerKept s (s.putComp c { s.comp c with strapping := p.2.map pointOf }) := putComp_ledgerKept id
    exact .ite (fun _ => .error) fun _ => .ite (fun _ => .error) fun _ => .ite (fun _ => .error) fun _ =>
      .ok (set.trans (setStale_ledgerKept _ _))

theorem ownBookAdjust_ledgerKept (p : AdjustOperands) (s : State) : Takes LedgerKept s (ownBookAdjust p s) := by
  unfold ownBookAdjust
  split
  · exact .error
  · refine .ite (fun _ => .error) fun _ => .ite (fun _ => .error) fun _ => .ite (fun _ => .error) fun _ =>
      .ite (fun _ => .error) fun _ => ?_
    split
    · exact .error
    · exact .ok (adjustBook_ledgerKept _ p _ s)

theorem ownDeliveryOpen_ledgerKept (p : Nat × Text × Option Int) (s : State) :
    Takes LedgerKept s (ownDeliveryOpen p s) := by
  unfold ownDeliveryOpen
  split
  · exact .error
  · exact .ite (fun _ => .error) fun _ => .ite (fun _ => .error) fun _ => .ite (fun _ => .error) fun _ =>
      .ite (fun _ => .error) fun _ => .ok (openDelivery_ledgerKept _ _ _ s)

theorem ownDeliveryClose_ledgerKept (s : State) : Takes LedgerKept s (ownDeliveryClose () s) := by
  unfold ownDeliveryClose
  split
  · exact .error
  · exact .ok (closeDelivery_ledgerKept _ s)

/-- R154: a record that is handed over is marked SENT and stays. -/
theorem ownLogRead_ledgerKept (part : Option Nat) (s : State) : Takes LedgerKept s (ownLogRead part s) := by
  unfold ownLogRead
  split
  · exact .error
  · unfold handOverRecord
    split
    · exact .long _ ((LedgerKept.setLog (markSent_grows _ _)).then (only_setLogWatch _ _))
    · exact .long _ (only_setLogWatch _ s).ledgerKept
  · unfold laterPart
    split
    · exact .error
    · exact .long _ (.refl s)

theorem ownLogConfirm_ledgerKept (n : Nat) (s : State) : Takes LedgerKept s (ownLogConfirm n s) :=
  .ite (fun _ => .error) fun _ => .ite (fun _ => .error) fun _ => .ok (removeSent_ledgerKept n s)

theorem ownLogRewind_ledgerKept (s : State) : Takes LedgerKept s (ownLogRewind () s) :=
  .ok (.setLog (rewind_grows _))

theorem ownShiftClose_ledgerKept (s : State) : Takes LedgerKept s (ownShiftClose () s) :=
  .ite (fun _ => .error) fun _ => .ite (fun _ => .error) fun _ => .ok (closeShift_ledgerKept s)

theorem ownCalWrite_ledgerKept (p : Option (CalItem × CalValue)) (s : State) :
    Takes LedgerKept s (ownCalWrite p s) := by
  obtain ⟨r, -, he⟩ | ⟨-, -, he⟩ | ⟨item, v, -, -, ⟨-, he⟩ | ⟨-, -, he⟩ | ⟨-, -, fields, he⟩⟩ :=
    ownCalWrite_cases p s <;> rw [he]
  case inr.inr.inr.inr => exact .ok (writeItem_ledgerKept item v s)
  all_goals exact .error

/-! ## Every command and every step -/

/-- A discrete input changes its level; a part that runs takes the change as an event. -/
theorem LedgerKept.input {p q : Prop} [Decidable p] [Decidable q] {v : Inputs} (a : LedgerKept (s.setInputs v) t) :
    LedgerKept s (if p then s else if q then t else s.setInputs v) :=
  have level : LedgerKept s (s.setInputs v) := (only_setInputs v s).ledgerKept
  .ite (fun _ => .refl s) fun _ => .ite (fun _ => level.trans a) fun _ => level

/-- A command that changes no part that the laws look at. -/
theorem leads_ledgerFree (ho : OnlyIn ps s t) (hp : ps ⊆ ledgerFreeParts := by decide) :
    Leads LedgerKept s (.next t) := .next (ho.ledgerKept hp)

/-- An event that a part takes under a condition, within the parts that the laws do not look at. -/
theorem leads_ledgerFree_when {p : Prop} [Decidable p] (ho : OnlyIn ps s t)
    (hp : ps ⊆ ledgerFreeParts := by decide) : Leads LedgerKept s (.next (if p then t else s)) :=
  .next (.when fun _ => ho.ledgerKept hp)

theorem exec_ledgerKept (i : Instr) (s : State) : Leads LedgerKept s (exec i s) := by
  have request {α : Type} {tag : SeqTag} {code : Nat} {parse : List Septet → Option α} {body : List Septet}
      {owner : α → State → Owned} (ho : ∀ a u, Takes LedgerKept u (owner a u)) :
      Leads LedgerKept s (.next (takeRequest tag code parse body owner s)) :=
    .next (carries_ledgerKept.takeRequest ho)
  have taken (e : Handed) : LedgerKept s (takeHanded e s) := (takeHanded_touches e s).ledgerKept
  cases i with
  | siteStatus | settingsRead | equipmentStatus | deliveryStatus | logStatus | parkStatus =>
    exact request fun _ _ => Takes.read.ledgerKept
  | alarms => exact request fun _ u => .ok (only_setAlarms _ u).ledgerKept
  | linkCounters => exact request fun _ u => .ok (only_setLink _ u).ledgerKept
  | settingsWrite => exact request fun o u => (ownSettingsWrite_frame o u).ledgerKept
  | restart => exact request fun _ u => ownRestart_ledgerKept u
  | tagChannelRead => exact request fun n u => (ownTagChannelRead_frame n u).ledgerKept
  | machineRead => exact request fun o u => (ownMachineRead_frame o u).ledgerKept
  | machineWrite => exact request fun o u => (ownMachineWrite_frame o u).ledgerKept
  | machineDelete => exact request fun k u => (ownMachineDelete_frame k u).ledgerKept
  | machineFind => exact request fun n u => (ownMachineFind_frame n u).ledgerKept
  | machineList => exact request fun k u => (ownMachineList_frame k u).ledgerKept
  | accountRead => exact request fun k u => (ownAccountRead_frame k u).ledgerKept
  | accountWrite => exact request fun o u => (ownAccountWrite_frame o u).ledgerKept
  | accountDelete => exact request fun k u => (ownAccountDelete_frame k u).ledgerKept
  | approve => exact request ownApprove_ledgerKept
  | decline => exact request ownDecline_ledgerKept
  | authorise => exact request ownAuthorise_ledgerKept
  | hoseStatus => exact request ownHoseStatus_ledgerKept
  | stop => exact request ownStop_ledgerKept
  | hoseEnable => exact request ownHoseEnable_ledgerKept
  | hoseDisable => exact request ownHoseDisable_ledgerKept
  | hoseSettingsRead => exact request fun n u => (ownHoseSettingsRead_frame n u).ledgerKept
  | hoseSettingsWrite => exact request fun o u => (ownHoseSettingsWrite_frame o u).ledgerKept
  | pumpSettingsRead => exact request fun n u => (ownPumpSettingsRead_frame n u).ledgerKept
  | pumpSettingsWrite => exact request fun o u => (ownPumpSettingsWrite_frame o u).ledgerKept
  | inhibitClear => exact request ownInhibitClear_ledgerKept
  | stockStatus => exact request fun n u => (ownStockStatus_frame n u).ledgerKept
  | tankSetupRead => exact request fun n u => (ownTankSetupRead_frame n u).ledgerKept
  | tankSetupWrite => exact request ownTankSetupWrite_ledgerKept
  | strappingRead => exact request fun o u => (ownStrappingRead_frame o u).ledgerKept
  | strappingWrite =>
    exact .next (carries_ledgerKept.takeFrame fun _ => carries_ledgerKept.handleLast ownStrappingWrite_ledgerKept)
  | strappingWritePart =>
    exact .next (carries_ledgerKept.takeFrame fun u => (handlePart_touches _ _ _ _ u).ledgerKept)
  | gauge => exact request fun n u => (ownGauge_frame n u).ledgerKept
  | gaugeRead => exact request fun n u => (ownGaugeRead_frame n u).ledgerKept
  | bookAdjust => exact request ownBookAdjust_ledgerKept
  | deliveryOpen => exact request ownDeliveryOpen_ledgerKept
  | deliveryClose => exact request fun _ u => ownDeliveryClose_ledgerKept u
  | logRead => exact request ownLogRead_ledgerKept
  | logConfirm => exact request ownLogConfirm_ledgerKept
  | logRewind => exact request fun _ u => ownLogRewind_ledgerKept u
  | clockSet => exact request fun n u => (ownClockSet_frame n u).ledgerKept
  | shiftClose => exact request fun _ u => ownShiftClose_ledgerKept u
  | shiftTotals => exact request fun k u => (ownShiftTotals_frame k u).ledgerKept
  | calRead => exact request fun n u => (ownCalRead_frame n u).ledgerKept
  | calOpen => exact request fun _ u => (ownCalOpen_frame u).ledgerKept
  | calWrite => exact request ownCalWrite_ledgerKept
  | calClose => exact request fun _ u => (ownCalClose_frame u).ledgerKept
  | auditRead => exact request fun n u => (ownAuditRead_frame n u).ledgerKept
  | park => exact request fun _ u => (ownPark_frame u).ledgerKept
  | unknown =>
    exact .next (carries_ledgerKept.takeFrame fun u => carries_ledgerKept.trans (carries_ledgerKept.link _ u)
      (carries_ledgerKept.link _ _))
  | check tag code => exact leads_ledgerFree_when (takeBadCheck_touches tag code s)
  | overlap | byteError => exact leads_ledgerFree_when ((only_setLink _ s).trans (only_setLink _ _))
  | brokenFrame kind => exact leads_ledgerFree_when (takeBroken_touches kind s)
  | waking => exact .next (.when fun _ => carries_ledgerKept.takeFrame fun u => .refl u)
  | nozzleLift h => exact .next (.input ((disturbPark_touches _ _ _).ledgerKept.then (liftHose_touches h _)))
  | nozzleHang h => exact .next (.input (hangHose_ledgerKept h _))
  | meterPulse m =>
    refine .next (.when fun _ => ?_)
    cases m with
    | m1 | m2 | m3 => exact hosePulse_ledgerKept _ s
    | m4 => exact (inletPulse_touches s).ledgerKept
  | tempReading p r => exact leads_ledgerFree_when (takeReading_touches p r s)
  | tempFaultIndication p => exact leads_ledgerFree_when (takeFault_touches p s)
  | levelReading c level =>
    exact .next (.when fun _ => ((setLevel_touches c _ s).ledgerKept.then (offerLevel_touches c _)).trans
      (sampleRun_ledgerKept c level _))
  | levelFaultIndication c =>
    exact .next (.when fun _ => ((setLevel_touches c _ s).ledgerKept.then (offerLevel_touches c _)).trans
      (faultRun_ledgerKept c _))
  | valid h id => exact leads_ledgerFree_when (takeValid_touches h id s)
  | inverted h => exact leads_ledgerFree_when (takeInverted_touches h s)
  | checkBad h | badStart h => exact leads_ledgerFree_when (onChannel_touches h _ s)
  | confirmed h id => exact .next (.when fun _ => (taken _).trans (takeConfirmed_ledgerKept h id _))
  | lost h => exact .next (.when fun _ => (taken _).trans (takeLost_ledgerKept h _))
  | changed h => exact .next (.when fun _ => (taken _).trans (.when fun _ => (stopFill_touches h _ _).ledgerKept))
  | emergencyStopActive => exact .next (.input (emergencyStop_ledgerKept _))
  | emergencyStopInactive => exact .next (.input ((evalPump_touches _ _).ledgerKept.then (evalPump_touches _ _)))
  | overfillSwitchActive c =>
    exact .next (.input ((raiseAlarm_touches _ _).ledgerKept.trans
      (.when fun _ => (closeInlet_touches _ _).ledgerKept)))
  | overfillSwitchInactive => exact leads_ledgerFree (only_setInputs _ s)
  | sealSwitchOpen => exact .next (.input (raiseAlarm_touches _ _).ledgerKept)
  | sealSwitchClosed => exact .next (.input (only_setGuard _ _).ledgerKept)
  | storeDisturbance => exact leads_ledgerFree (only_setCal _ s)
  | startUp => exact .next (startUpAt_ledgerKept _ s)
  | intervalEnd m =>
    exact .next (.when fun _ => (endInterval_touches m s).ledgerKept.then (recomputeVcf_touches m _))
  | sourceHoldTimerExpiry p => exact leads_ledgerFree_when (enterDefault_touches p s)
  | channelHoldTimerExpiry h =>
    exact .next (.when fun _ => (only_setChannels _ s).ledgerKept.then (report_touches h _ _))
  | identifyTimerExpiry h | approvalTimerExpiry h => exact leads_ledgerFree_when (refuseHose_touches h _ s)
  | noFlowTimerExpiry h | resumeGraceTimerExpiry h => exact leads_ledgerFree_when (stopFill_touches h _ s)
  | hoseDrainQuietExpiry h => exact .next (.when fun _ => closeFill_ledgerKept h s)
  | hoseDrainCapExpiry h => exact .next (.when fun _ => (cutDrain_ledgerKept h s).trans (closeFill_ledgerKept h _))
  | deliveryDrainQuietExpiry => exact .next (.when fun _ => endDrain_ledgerKept false s)
  | deliveryDrainCapExpiry => exact .next (.when fun _ => endDrain_ledgerKept true s)
  | maxRunReached c => exact leads_ledgerFree_when (guardPump_touches c s)
  | restTimerExpiry => exact leads_ledgerFree_when (only_setPumps _ s)
  | windowTimerExpiry => exact leads_ledgerFree_when (only_setGuard _ s)
  | checkTimerExpiry =>
    exact .next (.when fun _ => (only_setGuard _ s).ledgerKept.then (integrityCheck_touches _))
  | watchdogExpiry order =>
    exact .next (.when fun _ => (only_setLink _ s).ledgerKept.trans (dropLinks_ledgerKept _ _))
  | watchTimerExpiry =>
    exact .next (.when fun _ => ((only_setPark _ s).ledgerKept.then (requestWatch_touches _ _)).then
      (requestWatch_touches _ _))
  | confirmTimerExpiry => exact leads_ledgerFree_when (only_setPark _ s)
  | siteClockTick =>
    have clock : LedgerKept s (advanceClock s) := (only_setClock _ s).ledgerKept
    exact .next (.ite (fun _ => clock.then (elapseTimers_touches _)) fun _ => .when fun _ => clock)
  | preGaugeResult c r => exact .next (.when fun _ => (taken _).then (takePreGauge_touches c r _))
  | postGaugeResult c r => exact .next (.when fun _ => (taken _).trans (takePostGauge_ledgerKept c r _))
  | parkBaselineResult c r =>
    exact .next (.when fun _ => (taken _).trans (.when fun _ => (takeBaseline_touches c r _).ledgerKept))
  | parkWatchResult c r => exact .next (.when fun _ => (taken _).then (takeWatch_touches c r _))
  | answerSent =>
    exact .next (.when fun _ => .ite (fun _ => startUpAt_ledgerKept _ s) fun _ => (only_setLink _ s).ledgerKept)
  | lossOfPower => exact leads_ledgerFree (losePower_touches s)

/-- A step keeps the laws of the books and the sequence numbers, and the next number does not fall. -/
theorem step_ledgerKept (hs : step s = .next t) : LedgerKept s t :=
  Followed.step { carries_ledgerKept with queues := fun ho => ho.ledgerKept, exec := exec_ledgerKept } hs

/-- Settles O53: every command keeps the two laws, by `exec_ledgerKept`, and so does every step. -/
theorem booksAndNumbersKeepTheirLaws : Obligations.BooksAndNumbersKeepTheirLaws := by
  unfold Obligations.BooksAndNumbersKeepTheirLaws
  intro s t hs
  have kept := step_ledgerKept hs
  exact ⟨fun books => bookLaw_iff.mpr fun c => kept.book c (bookLaw_iff.mp books c), kept.log.ascending, kept.log.next⟩

end Sys2Proof.Machine
end

section
/-! PROOF. TANK SETUP WRITE and GAUGE (R117, R119, R122, R123): what each accepts and refuses, and what it
changes. -/

namespace Sys2Proof.Machine

variable {s : State} {c e : Comp} {n : Nat} {p : TankOperands} {run : Run} {reqs : List Requester}

/-! ## TANK SETUP WRITE (R117, R119) -/

theorem ownTankSetupWrite_range (hn : p.comp = compNumber c)
    (hi : p.inRange c = false ∨ p.capacity < (topVolume (s.comp c).strapping : Int)) :
    ownTankSetupWrite p s = .error .range := by
  simp only [ownTankSetupWrite, hn, compOfNumber_compNumber]
  rcases hi with hi | hi
  · simp only [hi, Bool.not_false, if_true]
  · simp only [hi, if_true, ite_self]

section Fits

variable (hn : p.comp = compNumber c) (hi : p.inRange c = true)
  (hc : (topVolume (s.comp c).strapping : Int) ≤ p.capacity)

include hn hi hc

theorem ownTankSetupWrite_busy (hb : compBusy c s = true) : ownTankSetupWrite p s = .error .busy := by
  simp only [ownTankSetupWrite, hn, compOfNumber_compNumber, hi, hb, Bool.not_true, Bool.false_eq_true, if_false,
    if_neg hc.not_gt, if_true]

theorem ownTankSetupWrite_free (hb : compBusy c s = false) : ownTankSetupWrite p s =
    .ok (watchStock c (setTank c p s), [.count (compNumber c)]) := by
  simp only [ownTankSetupWrite, hn, compOfNumber_compNumber, hi, hb, Bool.not_true, Bool.false_eq_true, if_false,
    if_neg hc.not_gt]

end Fits

/-- R119: a compartment with its five values replaced. -/
def TankOperands.setup (o : TankOperands) (k : Compartment) : Compartment :=
  { k with
    capacity := o.capacity.toNat, reserveLevel := o.reserveLevel.toNat, lowStock := o.lowStock.toNat
    cutoff := o.cutoff, window := o.window }

theorem setTank_watched_comp (c : Comp) (p : TankOperands) (s : State) :
    (watchStock c (setTank c p s)).comp c = p.setup (s.comp c) :=
  ((watchStock_touches c _).comp c).trans (State.comp_putComp _ s)

theorem setTank_watched_otherComp (c : Comp) (p : TankOperands) (s : State) :
    OtherComp c s (watchStock c (setTank c p s)) :=
  fun _ he => ((watchStock_touches c _).comp _).trans (State.comp_putComp_ne _ s he)

/-- R117: the watch is evaluated on the new level. -/
theorem setTank_watched (c : Comp) (p : TankOperands) (s : State) :
    LowStockWatched c s (watchStock c (setTank c p s)) :=
  (watchStock_watched c (setTank c p s)).congr rfl rfl rfl rfl rfl rfl rfl

theorem setTank_watched_armed (c : Comp) (p : TankOperands) (s : State) :
    ((watchStock c (setTank c p s)).unit c).armed = decide ((p.lowStock.toNat : Int) < (s.comp c).book) := by
  rw [(setTank_watched c p s).1, setTank_watched_comp]
  rfl

theorem setTank_watched_otherAlarms (c : Comp) (p : TankOperands) (s : State) :
    OtherAlarms [.lowStock c] s (watchStock c (setTank c p s)) :=
  (only_setComps _ s).otherAlarms.trans (watchStock_otherAlarms c _)

theorem setTank_watched_touches (c : Comp) (p : TankOperands) (s : State) :
    OnlyIn [.comps, .units, .alarms] s (watchStock c (setTank c p s)) :=
  ((only_setComps _ s).mono (by decide)).then (watchStock_touches _ _) (by decide)

/-- Settles O43: each outcome is the owner's equation in the state that has heard the request. -/
theorem tankSetupWriteReplacesTheSetup : Obligations.TankSetupWriteReplacesTheSetup := by
  unfold Obligations.TankSetupWriteReplacesTheSetup
  refine fun tag body o c s hr hp hn => ⟨fun hi hc => ⟨fun hb => ?_, fun hb => ?_⟩, fun hi => ?_⟩
  · exact ⟨_, congrArg Host.Outcome.next (takeRequest_ok hr hp (ownTankSetupWrite_free (s := heard s) hn hi hc hb)),
      setTank_watched_comp c o (heard s), setTank_watched_otherComp c o (heard s),
      setTank_watched_armed c o (heard s),
      (setTank_watched c o (heard s)).congr rfl rfl rfl rfl rfl rfl rfl,
      fun e he => watchStock_unit_ne (setTank c o (heard s)) he, setTank_watched_otherAlarms c o (heard s),
      (((heard_touches s).mono (by decide)).then (setTank_watched_touches c o _) (by decide)).then
        (replied_touches _ _) (by decide), rfl⟩
  · exact request_refused hr hp (ownTankSetupWrite_busy (s := heard s) hn hi hc hb)
  · exact request_refused hr hp (ownTankSetupWrite_range (s := heard s) hn hi)

/-! ## GAUGE (R122, R123) -/

theorem setRun_unit (c : Comp) (run : Run) (s : State) : (setRun c run s).unit c = { s.unit c with run := run } :=
  State.unit_putUnit _ s

theorem requestRun_unit_ne (k : Requester) (s : State) (he : e ≠ c) : (requestRun c k s).unit e = s.unit e := by
  have set (run : Run) (s : State) : (setRun c run s).unit e = s.unit e := State.unit_putUnit_ne _ s he
  cases hr : (s.unit c).run with
  | idle =>
    simp only [requestRun, hr]
    exact (evalRest_unit_ne _ he).trans (set _ s)
  | pending _ | sampling _ _ _ _ =>
    simp only [requestRun, hr]
    split
    · rfl
    · exact set _ s

/-- R122: whether a compartment is at rest does not turn on its gauging run. -/
theorem atRest_setRun (c : Comp) (run : Run) (s : State) : atRest c (setRun c run s) = atRest c s := rfl

/-- R123: a request to an IDLE compartment starts a run: at rest it samples at once. -/
theorem requestRun_idle_atRest (hi : (s.unit c).run = .idle) (hr : atRest c s = true) (k : Requester) :
    ((requestRun c k s).unit c).run = .sampling [k] (s.comp c).window 0 0 := by
  simp only [requestRun, hi, evalRest, setRun_unit, atRest_setRun, hr, if_true]
  rfl

/-- R123: without rest it waits. -/
theorem requestRun_idle_waits (hi : (s.unit c).run = .idle) (hr : atRest c s = false) (k : Requester) :
    ((requestRun c k s).unit c).run = .pending [k] := by
  simp only [requestRun, hi, evalRest, setRun_unit, atRest_setRun, hr, Bool.false_eq_true, if_false]

/-- R123: a requester that joins a run joins its list once. -/
theorem requestRun_pending (hp : (s.unit c).run = .pending reqs) (k : Requester) :
    ((requestRun c k s).unit c).run = .pending (if k ∈ reqs then reqs else reqs ++ [k]) := by
  by_cases hk : k ∈ reqs
  · simp only [requestRun, hp, hk, if_true]
  · simp only [requestRun, hp, hk, if_false, setRun_unit]

theorem requestRun_sampling {w m sum : Nat} (hp : (s.unit c).run = .sampling reqs w m sum) (k : Requester) :
    ((requestRun c k s).unit c).run = .sampling (if k ∈ reqs then reqs else reqs ++ [k]) w m sum := by
  by_cases hk : k ∈ reqs
  · simp only [requestRun, hp, hk, if_true]
  · simp only [requestRun, hp, hk, if_false, setRun_unit]

/-- R123: the answer of GAUGE, by the run that it leaves. -/
def gaugeAnswer (c : Comp) (run : Run) : List Field :=
  [.count (compNumber c), .code run.code] ++ requesterList run.requesters

theorem ownGauge_requests (hn : n = compNumber c) (s : State) : ownGauge n s =
    .ok (requestRun c .host s, gaugeAnswer c ((requestRun c .host s).unit c).run) := by
  simp only [ownGauge, hn, compOfNumber_compNumber]
  rfl

/-- Settles O45: GAUGE is the host's request for a run. -/
theorem gaugeRequestsARun : Obligations.GaugeRequestsARun := by
  unfold Obligations.GaugeRequestsARun
  intro tag n c s hr hn
  have answered (run : Run) (h : ((requestRun c .host (heard s)).unit c).run = run) :
      replyOf (replied (.answer tag (BitVec.ofNat 7 61)
        (gaugeAnswer c ((requestRun c .host (heard s)).unit c).run)) (requestRun c .host (heard s))) =
      some (.answer tag 61 (gaugeAnswer c run)) := by
    rw [h]
    rfl
  have same := requestRun_sameGauges c .host (heard s) c
  refine ⟨_, congrArg Host.Outcome.next (countRequest_ok hr (ownGauge_requests hn (heard s))),
    (((heard_touches s).mono (by decide)).then (requestRun_touches _ _ _) (by decide)).then
      (replied_touches _ _) (by decide), fun e he => requestRun_unit_ne _ (heard s) he, same.1, same.2,
    fun hi ha => ?_, fun hi ha => ?_, fun reqs hp => ?_, fun reqs w m sum hp => ?_⟩
  · have begun := requestRun_idle_atRest (s := heard s) hi ha .host
    exact ⟨begun, answered _ begun⟩
  · have waits := requestRun_idle_waits (s := heard s) hi ha .host
    exact ⟨waits, answered _ waits⟩
  · exact requestRun_pending (s := heard s) hp .host
  · exact requestRun_sampling (s := heard s) hp .host

end Sys2Proof.Machine
end

section
/-! PROOF. BOOK ADJUST (R115, R117, R128, R131, R150, R152): what it accepts and refuses, and what it books and
records. -/

namespace Sys2Proof.Machine

variable {s t u : State} {c e : Comp} {o : AdjustOperands} {after : Int}

/-! ## A slot that is committed and written (R147, R148, R150) -/

/-- R150: the near-full watch, evaluated once more while as many slots are free, stays as it was. -/
theorem LogWatched.again (a : LogWatched s u) (b : LogWatched u t)
    (hf : freeSlots t.store.log = freeSlots u.store.log) : LogWatched s t := by
  unfold freeSlots Config.logSlots at hf
  obtain ⟨armed, row⟩ := a
  obtain ⟨armed', row'⟩ := b
  refine ⟨armed', ?_⟩
  rw [hf, armed] at row'
  have settled : ¬ (decide (32 < 1024 - u.store.log.records.length - u.store.log.commitments) = true ∧
      1024 - u.store.log.records.length - u.store.log.commitments ≤ 32) :=
    fun ⟨many, few⟩ => absurd (of_decide_eq_true many) few.not_gt
  rw [row', if_neg settled, row, hf]

/-- R147, R148: a record that is written into a slot committed for it leaves the other commitments. -/
theorem writeRecord_committed_log (body : RecordBody) (hl : u.store.log = (takeCommitment s).store.log) :
    (writeRecord body u).store.log = ⟨s.store.log.records ++
      [⟨s.store.log.nextSeq, false, u.store.shift.number, body⟩], s.store.log.commitments, s.store.log.nextSeq + 1⟩ := by
  rw [writeRecord_log, hl, takeCommitment_log]
  rfl

theorem freeSlots_committed (body : RecordBody) (u : State) (hc : 0 < u.store.log.commitments) :
    freeSlots (writeRecord body u).store.log = freeSlots u.store.log := by
  rw [writeRecord_log]
  simp only [freeSlots, List.length_append, List.length_singleton]
  omega

/-! ## What an adjustment does -/

/-- The state with the book set and the adjustment recorded, before what follows a change of the book. -/
def adjustRecorded (c : Comp) (o : AdjustOperands) (after : Int) (s : State) : State :=
  writeRecord (.adjust (adjustRecord c o after s)) (bookSet c after s)

theorem adjustBook_eq (c : Comp) (o : AdjustOperands) (after : Int) (s : State) :
    adjustBook c o after s = afterBookChange c (adjustRecorded c o after s) := rfl

theorem bookSet_comp (c : Comp) (after : Int) (s : State) : (bookSet c after s).comp c = (s.comp c).adjust after :=
  (State.comp_putComp _ _).trans (congrArg (Compartment.adjust after) ((takeCommitment_touches s).comp c))

theorem bookSet_otherComp (c : Comp) (after : Int) (s : State) : OtherComp c s (bookSet c after s) := fun e he =>
  (State.comp_putComp_ne _ _ he).trans ((takeCommitment_touches s).comp e)

theorem bookSet_touches (c : Comp) (after : Int) (s : State) :
    OnlyIn [.comps, .log, .logWatch, .alarms] s (bookSet c after s) :=
  ((takeCommitment_touches s).mono (by decide)).then (only_setComps _ _) (by decide)

theorem adjustRecorded_touches (c : Comp) (o : AdjustOperands) (after : Int) (s : State) :
    OnlyIn [.comps, .log, .logWatch, .alarms] s (adjustRecorded c o after s) :=
  (bookSet_touches c after s).then (writeRecord_touches _ _) (by decide)

theorem adjustRecorded_otherAlarms (c : Comp) (o : AdjustOperands) (after : Int) (s : State) :
    OtherAlarms [.logNearFull] s (adjustRecorded c o after s) :=
  ((takeCommitment_otherAlarms s).trans (only_setComps _ _).otherAlarms).trans (writeRecord_otherAlarms _ _)

/-- R115, R128, R131: the compartment after an adjustment. -/
theorem adjustBook_comp (c : Comp) (o : AdjustOperands) (after : Int) (s : State) :
    (adjustBook c o after s).comp c =
      { (s.comp c).adjust after with gauging := { (s.comp c).gauging with stale := true } } := by
  have recorded : (adjustRecorded c o after s).comp c = (s.comp c).adjust after :=
    ((writeRecord_touches _ _).comp c).trans (bookSet_comp c after s)
  rw [adjustBook_eq, afterBookChange_comp, recorded]
  rfl

/-- R115: an adjustment leaves the other terms of the book. -/
theorem adjustBook_terms (c : Comp) (o : AdjustOperands) (after : Int) (s : State) :
    ((adjustBook c o after s).comp c).opening = (s.comp c).opening ∧
      ((adjustBook c o after s).comp c).delivered = (s.comp c).delivered ∧
      ((adjustBook c o after s).comp c).dispensed = (s.comp c).dispensed := by
  rw [adjustBook_comp]
  exact ⟨rfl, rfl, rfl⟩

theorem adjustBook_otherComp (c : Comp) (o : AdjustOperands) (after : Int) (s : State) :
    OtherComp c s (adjustBook c o after s) := fun e he =>
  (afterBookChange_otherComp c _ e he).trans
    (((writeRecord_touches _ _).comp e).trans (bookSet_otherComp c after s e he))

/-- R148, R152: the log after an adjustment. -/
theorem adjustBook_log (c : Comp) (o : AdjustOperands) (after : Int) (s : State) :
    (adjustBook c o after s).store.log = ⟨s.store.log.records ++ [⟨s.store.log.nextSeq, false, s.store.shift.number,
      .adjust (adjustRecord c o after s)⟩], s.store.log.commitments, s.store.log.nextSeq + 1⟩ := by
  rw [adjustBook_eq, afterBookChange_touches c _ .log (by decide), adjustRecorded,
    writeRecord_committed_log (s := s) (u := bookSet c after s) _ rfl, bookSet_touches c after s .shift (by decide)]

/-- R117: the low-stock watch is evaluated on the new book. -/
theorem adjustBook_lowStockWatched (c : Comp) (o : AdjustOperands) (after : Int) (s : State) :
    LowStockWatched c s (adjustBook c o after s) := by
  have before := adjustRecorded_touches c o after s
  exact (afterBookChange_watched c (adjustRecorded c o after s)).congr
    (congrArg CompUnit.armed (before.unit c).symm) (before .clock (by decide)).symm
    ((adjustRecorded_otherAlarms c o after s).lowStock_row c).symm rfl rfl rfl rfl

/-- R150: the near-full watch is evaluated as the slot is committed, and once more as it is written. -/
theorem adjustBook_logWatched (c : Comp) (o : AdjustOperands) (after : Int) (s : State) :
    LogWatched s (adjustBook c o after s) := by
  have changed := afterBookChange_touches c (adjustRecorded c o after s)
  have committed : 0 < (bookSet c after s).store.log.commitments := by
    change 0 < (takeCommitment s).store.log.commitments
    rw [takeCommitment_log]
    exact Nat.succ_pos _
  have taken : LogWatched s (bookSet c after s) := (takeCommitment_watched s).congr rfl rfl rfl rfl rfl rfl
  have recorded : LogWatched s (adjustRecorded c o after s) :=
    taken.again (writeRecord_watched _ _) (freeSlots_committed _ _ committed)
  exact recorded.congr rfl rfl rfl (congrArg LogWatch.armed (changed .logWatch (by decide)))
    (changed .log (by decide)) (afterBookChange_otherAlarms c _).logNearFull_row

theorem adjustBook_otherAlarms (c : Comp) (o : AdjustOperands) (after : Int) (s : State) :
    OtherAlarms [.lowStock c, .logNearFull] s (adjustBook c o after s) :=
  ((adjustRecorded_otherAlarms c o after s).mono (by simp)).trans ((afterBookChange_otherAlarms c _).mono (by simp))

theorem adjustBook_unit_ne (o : AdjustOperands) (after : Int) (s : State) (he : e ≠ c) :
    (adjustBook c o after s).unit e = s.unit e :=
  (afterBookChange_unit_ne _ he).trans ((adjustRecorded_touches c o after s).unit e)

/-! ## The checks (R131) -/

/-- R131: the operands give a compartment its new book: the value given, in range, or the net of a current gauging. -/
def AdjustOperands.Gives (o : AdjustOperands) (x : Compartment) (after : Int) : Prop :=
  (o.form = 1 ∧ o.value = some after ∧ 0 ≤ after ∧ after ≤ x.capacity) ∨
    (o.form = 0 ∧ x.gauging.ok = true ∧ x.gauging.stale = false ∧ ∃ v, x.gauging.values = some v ∧ v.net = after)

section Passes

variable (hn : o.comp = compNumber c) (hr : o.reason ≤ 99) (hg : o.Gives (s.comp c) after)
  (hz : (s.comp c).reservations = 0) (hd : s.store.delivery.map Delivery.comp ≠ some c)

include hr hg in
theorem AdjustOperands.Gives.inRange : o.inRange (s.comp c) = true := by
  have reason : countWithin 0 99 o.reason = true := by simpa [countWithin] using hr
  obtain ⟨hf, hv, low, high⟩ | ⟨hf, -⟩ := hg
  · simp [AdjustOperands.inRange, reason, hf, hv, within, low, high]
  · simp [AdjustOperands.inRange, reason, hf]

include hg in
theorem AdjustOperands.Gives.adjustedBook : adjustedBook o (s.comp c) = some after := by
  obtain ⟨hf, hv, -⟩ | ⟨hf, -, -, v, hv, rfl⟩ := hg
  · simp only [Machine.adjustedBook, hf, hv, Nat.one_ne_zero, if_false]
  · simp only [Machine.adjustedBook, hf, hv, if_true, Option.map_some]

include hg in
theorem AdjustOperands.Gives.current : ¬ (o.form = 0 ∧ (!(s.comp c).gauging.current) = true) := by
  obtain ⟨hf, -⟩ | ⟨-, ok, stale, -⟩ := hg
  · simp [hf]
  · simp [LastGauging.current, ok, stale]

include hn hr hg hz hd

theorem ownBookAdjust_logFull (hc : canCommit s = false) : ownBookAdjust o s = .error .logFull := by
  have idle : ¬ ((s.comp c).reservations ≠ 0 ∨ deliveryInto c s = true) := by simp [hz, deliveryInto, hd]
  simp only [ownBookAdjust, hn, compOfNumber_compNumber, hg.inRange hr, if_neg idle, if_neg hg.current, hc,
    Bool.not_true, Bool.not_false, Bool.false_eq_true, if_false, if_true]

theorem ownBookAdjust_adjusts (hc : canCommit s = true) : ownBookAdjust o s = .ok (adjustBook c o after s,
    [.count (compNumber c), .volume (s.comp c).book, .volume after, .long s.store.log.nextSeq]) := by
  have idle : ¬ ((s.comp c).reservations ≠ 0 ∨ deliveryInto c s = true) := by simp [hz, deliveryInto, hd]
  simp only [ownBookAdjust, hn, compOfNumber_compNumber, hg.inRange hr, if_neg idle, if_neg hg.current, hc,
    hg.adjustedBook, Bool.not_true, Bool.false_eq_true, if_false]

end Passes

/-- Settles O47: BOOK ADJUST is its owner's equation in the state that has heard it, and what an adjustment does. -/
theorem bookAdjustSetsTheBook : Obligations.BookAdjustSetsTheBook := by
  unfold Obligations.BookAdjustSetsTheBook
  intro tag body o c after s ready hp hn hr hg hz hd
  refine ⟨fun hc => ?_, fun hc => request_refused ready hp (ownBookAdjust_logFull (s := heard s) hn hr hg hz hd hc)⟩
  have comp := adjustBook_comp c o after (heard s)
  obtain ⟨opening, delivered, dispensed⟩ := adjustBook_terms c o after (heard s)
  have watched := adjustBook_lowStockWatched c o after (heard s)
  have armed : ((adjustBook c o after (heard s)).unit c).armed = decide (((s.comp c).lowStock : Int) < after) := by
    rw [watched.1, comp]
    rfl
  exact ⟨_, congrArg Host.Outcome.next (takeRequest_ok ready hp
      (ownBookAdjust_adjusts (s := heard s) hn hr hg hz hd hc)),
    congrArg Compartment.book comp, congrArg Compartment.adjustments comp,
    congrArg (fun x => x.gauging.stale) comp, opening, delivered, dispensed,
    adjustBook_otherComp c o after (heard s), armed, watched.congr rfl rfl rfl rfl rfl rfl rfl,
    (adjustBook_logWatched c o after (heard s)).congr rfl rfl rfl rfl rfl rfl,
    fun e he => adjustBook_unit_ne o after (heard s) he, adjustBook_otherAlarms c o after (heard s),
    ⟨adjustRecord c o after (heard s), adjustBook_log c o after (heard s), rfl, rfl, rfl, rfl, rfl, rfl, rfl⟩,
    (((heard_touches s).mono (by decide)).then (adjustBook_touches c o after _) (by decide)).then
      (replied_touches _ _) (by decide), rfl⟩

end Sys2Proof.Machine
end

section
/-! PROOF. STRAPPING WRITE in parts (R120, R128, R189): how a part joins the assembly or is refused, and what the last
one does. -/

namespace Sys2Proof.Machine

variable {s : State} {c e : Comp} {tag : SeqTag} {code part flag : Septet} {fragment : List Septet}
  {l : Option LongRequest} {m : LongRequest} {points : List (Nat × Int)} {r : RefusalCode} {fields : List Field}

/-! ## The assembly (R189) -/

/-- R189: a part is out of order where the assembly does not expect it, or it is above 4. -/
def OutOfOrder (code part : Septet) (l : Option LongRequest) : Prop :=
  ∀ m, l = some m → m.code = code → m.next = part.toNat → 4 < part.toNat

theorem joinPart_first (code : Septet) (fragment : List Septet) (l : Option LongRequest) :
    joinPart code 1 fragment l = some ⟨code, 2, fragment⟩ := rfl

theorem joinPart_next (hc : m.code = code) (hn : m.next = part.toNat) (low : 2 ≤ part.toNat) (high : part.toNat ≤ 4) :
    joinPart code part fragment (some m) = some ⟨code, part.toNat + 1, m.got ++ fragment⟩ := by
  have later : part.toNat ≠ 1 := by omega
  simp only [joinPart, if_neg later, hc, hn, high, and_self, if_true]

theorem joinPart_outOfOrder (hp : part ≠ 1) (ho : OutOfOrder code part l) : joinPart code part fragment l = none := by
  have later : part.toNat ≠ 1 := fun h => hp (BitVec.eq_of_toNat_eq h)
  cases l with
  | none => simp only [joinPart, if_neg later]
  | some m =>
    have beyond : ¬ (m.code = code ∧ m.next = part.toNat ∧ part.toNat ≤ 4) := fun ⟨hc, hn, high⟩ =>
      absurd (ho m rfl hc hn) high.not_gt
    simp only [joinPart, if_neg later, if_neg beyond]

/-! ## A part that is not the last (R189) -/

theorem exec_strappingWritePart (hr : Ready s) (tag : SeqTag) (part : Septet) (fragment : List Septet) :
    exec (.strappingWritePart tag part fragment) s = .next (handlePart tag 60 part fragment (heard s)) :=
  congrArg Host.Outcome.next (takeFrame_ready hr tag 60 _)

theorem handlePart_joins (hj : joinPart code part fragment s.link.longRequest = some m) :
    handlePart tag code part fragment s = replied (.answer tag code [.count part.toNat]) (setLongRequest (some m) s) := by
  simp only [handlePart, hj]
  rfl

theorem handlePart_refused (hj : joinPart code part fragment s.link.longRequest = none) :
    handlePart tag code part fragment s = refusePart tag code s := by
  simp only [handlePart, hj]

/-- R187, R189, R190: the refusal of a part out of order, in the state that has heard it. -/
theorem refusePart_heard (tag : SeqTag) (code : Septet) (s : State) :
    refusePart tag code (heard s) = setLongRequest none (refusedCounted tag .format code s) := rfl

theorem strappingPart_joins (hr : Ready s) (tag : SeqTag)
    (hj : joinPart 60 part fragment s.link.longRequest = some m) :
    ∃ t, exec (.strappingWritePart tag part fragment) s = .next t ∧ OnlyIn [.link] s t ∧
      t.link.longRequest = some m ∧ replyOf t = some (.answer tag 60 [.count part.toNat]) :=
  ⟨_, (exec_strappingWritePart hr tag part fragment).trans
      (congrArg Host.Outcome.next (handlePart_joins (s := heard s) hj)),
    ((heard_touches s).trans (only_setLink _ _)).trans (replied_touches _ _), rfl, rfl⟩

theorem strappingPart_refused (hr : Ready s) (tag : SeqTag)
    (hj : joinPart 60 part fragment s.link.longRequest = none) :
    ∃ t, exec (.strappingWritePart tag part fragment) s = .next t ∧ OnlyIn [.link] s t ∧
      t.link.longRequest = none ∧ replyOf t = some (.refusal tag .format 60) ∧
      t.link.counters.unknownFormat = min (s.link.counters.unknownFormat + 1) 65535 :=
  ⟨_, (exec_strappingWritePart hr tag part fragment).trans
      (congrArg Host.Outcome.next ((handlePart_refused (s := heard s) hj).trans (refusePart_heard tag 60 s))),
    (((heard_touches s).trans (only_setLink _ _)).trans (replied_touches _ _)).trans (only_setLink _ _), rfl, rfl, rfl⟩

/-! ## The last part (R120, R189) -/

section Last

variable {α : Type} {parse : List Septet → Option α} {owner : α → State → Owned}

theorem handleLast_outOfOrder (hj : joinPart code part fragment s.link.longRequest = none) :
    handleLast tag code parse (part :: 1 :: fragment) owner s = refusePart tag code s := by
  simp [handleLast, hj]

theorem handleLast_joined (hj : joinPart code part fragment s.link.longRequest = some m) :
    handleLast tag code parse (part :: 1 :: fragment) owner s =
      handleRequest tag code parse m.got owner (setLongRequest none s) := by
  simp [handleLast, hj]

end Last

/-- The state in which a ready part hands the joined operands over: the assembly is cleared. -/
def handedOn (s : State) : State := setLongRequest none (heard s)

theorem handedOn_touches (s : State) : OnlyIn [.link] s (handedOn s) := (heard_touches s).trans (only_setLink _ _)

theorem exec_strappingWrite (hr : Ready s) (tag : SeqTag) (part flag : Septet) (fragment : List Septet) :
    exec (.strappingWrite tag (part :: flag :: fragment)) s =
      .next (handleLast tag 60 parseStrapping (part :: flag :: fragment) ownStrappingWrite (heard s)) :=
  congrArg Host.Outcome.next (takeFrame_ready hr tag 60 _)

theorem strappingLast_flag (hr : Ready s) (tag : SeqTag) (hf : 1 < flag.toNat) :
    exec (.strappingWrite tag (part :: flag :: fragment)) s = .next (refused tag .range 60 s) := by
  rw [exec_strappingWrite hr]
  simp only [handleLast, hf, if_true]
  rfl

theorem strappingLast_outOfOrder (hr : Ready s) (tag : SeqTag)
    (hj : joinPart 60 part fragment s.link.longRequest = none) :
    exec (.strappingWrite tag (part :: 1 :: fragment)) s =
      .next (setLongRequest none (refusedCounted tag .format 60 s)) := by
  rw [exec_strappingWrite hr, handleLast_outOfOrder (s := heard s) hj, refusePart_heard]

/-- R189: the last part hands the joined operands to the owner. -/
theorem strappingLast_handedOn (hr : Ready s) (tag : SeqTag)
    (hj : joinPart 60 part fragment s.link.longRequest = some m) :
    exec (.strappingWrite tag (part :: 1 :: fragment)) s =
      .next (handleRequest tag 60 parseStrapping m.got ownStrappingWrite (handedOn s)) := by
  rw [exec_strappingWrite hr, handleLast_joined (s := heard s) hj, handedOn]

theorem strappingLast_refused (hr : Ready s) (tag : SeqTag)
    (hj : joinPart 60 part fragment s.link.longRequest = some m)
    (hp : parseStrapping m.got = some (compNumber c, points))
    (ho : ownStrappingWrite (compNumber c, points) (handedOn s) = .error r) :
    ∃ t, exec (.strappingWrite tag (part :: 1 :: fragment)) s = .next t ∧ OnlyIn [.link] s t ∧
      t.link.longRequest = none ∧ replyOf t = some (.refusal tag r 60) := by
  refine ⟨replied (.refusal tag r 60) (handedOn s), ?_,
    (handedOn_touches s).trans (replied_touches _ _), rfl, rfl⟩
  rw [strappingLast_handedOn hr tag hj]
  simp only [handleRequest, hp, ho]
  rfl

/-! ## The table (R120, R128) -/

/-- The state with a table written and the last gauging STALE. -/
def tableWritten (c : Comp) (points : List (Nat × Int)) (s : State) : State :=
  setStale c (s.putComp c { s.comp c with strapping := points.map pointOf })

theorem tableWritten_comp (c : Comp) (points : List (Nat × Int)) (s : State) :
    (tableWritten c points s).comp c = { s.comp c with
      strapping := points.map pointOf, gauging := { (s.comp c).gauging with stale := true } } := by
  simp only [tableWritten, setStale, State.comp_putComp]

theorem tableWritten_otherComp (c : Comp) (points : List (Nat × Int)) (s : State) :
    OtherComp c s (tableWritten c points s) := fun _ he =>
  (State.comp_putComp_ne _ _ he).trans (State.comp_putComp_ne _ s he)

theorem tableWritten_touches (c : Comp) (points : List (Nat × Int)) (s : State) :
    OnlyIn [.comps] s (tableWritten c points s) := (only_setComps _ s).trans (setStale_touches _ _)

theorem ownStrappingWrite_range
    (hi : pointsInRange (s.comp c).capacity points = false ∨ pointsAscend points = false) :
    ownStrappingWrite (compNumber c, points) s = .error .range := by
  simp only [ownStrappingWrite, compOfNumber_compNumber]
  rcases hi with hi | hi
  · simp only [hi, Bool.not_false, if_true]
  · simp only [hi, Bool.not_false, if_true, ite_self]

section Fits

variable (hi : pointsInRange (s.comp c).capacity points = true) (ha : pointsAscend points = true)

include hi ha

theorem ownStrappingWrite_busy (hb : compBusy c s = true) :
    ownStrappingWrite (compNumber c, points) s = .error .busy := by
  simp only [ownStrappingWrite, compOfNumber_compNumber, hi, ha, hb, Bool.not_true, Bool.false_eq_true, if_false,
    if_true]

theorem ownStrappingWrite_free (hb : compBusy c s = false) : ownStrappingWrite (compNumber c, points) s =
    .ok (tableWritten c points s, [.count (compNumber c), .count points.length]) := by
  simp only [ownStrappingWrite, compOfNumber_compNumber, hi, ha, hb, Bool.not_true, Bool.false_eq_true, if_false]
  rfl

end Fits

theorem strappingLast_writes (hr : Ready s) (tag : SeqTag)
    (hj : joinPart 60 part fragment s.link.longRequest = some m)
    (hp : parseStrapping m.got = some (compNumber c, points))
    (hi : pointsInRange (s.comp c).capacity points = true) (ha : pointsAscend points = true)
    (hb : compBusy c s = false) :
    exec (.strappingWrite tag (part :: 1 :: fragment)) s =
      .next (replied (.answer tag 60 [.count (compNumber c), .count points.length])
        (tableWritten c points (handedOn s))) := by
  rw [strappingLast_handedOn hr tag hj]
  simp only [handleRequest, hp, ownStrappingWrite_free (s := handedOn s) hi ha hb]
  rfl

/-- Settles O44: a part joins the assembly or is out of order, and the last part hands what was joined to the owner. -/
theorem strappingTablesAreWrittenInParts : Obligations.StrappingTablesAreWrittenInParts := by
  unfold Obligations.StrappingTablesAreWrittenInParts
  intro tag part flag fragment s hr
  refine ⟨?_, fun m hl hc hn low high => ?_, fun hp ho => strappingPart_refused hr tag (joinPart_outOfOrder hp ho),
    ?_, strappingLast_flag hr tag, ?_⟩
  · rintro rfl
    exact strappingPart_joins hr tag (joinPart_first _ _ _)
  · exact strappingPart_joins hr tag (hl ▸ joinPart_next hc hn low high)
  · rintro rfl hp ho
    exact strappingLast_outOfOrder hr tag (joinPart_outOfOrder hp ho)
  · rintro m c points rfl hj hp
    refine ⟨fun hi ha hb => ?_, fun hi => ?_, fun hi ha hb => ?_⟩
    · exact ⟨_, strappingLast_writes hr tag hj hp hi ha hb, tableWritten_comp c points (handedOn s),
        tableWritten_otherComp c points (handedOn s),
        (((handedOn_touches s).mono (by decide)).then (tableWritten_touches _ _ _) (by decide)).then
          (replied_touches _ _) (by decide), rfl, rfl⟩
    · exact strappingLast_refused hr tag hj hp (ownStrappingWrite_range (s := handedOn s) hi)
    · exact strappingLast_refused hr tag hj hp (ownStrappingWrite_busy (s := handedOn s) hi ha hb)

end Sys2Proof.Machine
end

section
/-! PROOF. The strapping table (R121). -/

namespace Sys2Proof.Machine

variable {p q : Point} {l pre rest : List Point} {level : Nat}

/-! ## The gross volume of a level (R121) -/

/-- R120: the levels of a table strictly ascend from point to point. -/
def LevelsAscend (l : List Point) : Prop := (l.map Point.level).Pairwise (· < ·)

theorem strapGross_below (hl : level < p.level) :
    strapGross (p :: q :: rest) level = (p.volume, false) := by
  simp only [strapGross, if_pos hl]

theorem strapGross_between (low : p.level ≤ level) (high : level < q.level) :
    strapGross (p :: q :: rest) level =
      (p.volume + (level - p.level) * (q.volume - p.volume) / (q.level - p.level), false) := by
  simp only [strapGross, if_neg low.not_gt, if_pos high]

theorem strapGross_next (low : p.level ≤ level) (high : q.level ≤ level) :
    strapGross (p :: q :: rest) level = strapGross (q :: rest) level := by
  simp only [strapGross, if_neg low.not_gt, if_neg high.not_gt]

/-- R121: the points that a level reaches, but for the last of them, have no part in its volume. -/
theorem strapGross_append (hr : ∀ a ∈ pre, a.level ≤ level) (hl : p.level ≤ level) :
    strapGross (pre ++ p :: rest) level = strapGross (p :: rest) level := by
  induction pre with
  | nil => rfl
  | cons a pre ih =>
    obtain ⟨first, reached⟩ := List.forall_mem_cons.mp hr
    rw [← ih reached]
    cases pre with
    | nil => exact strapGross_next first hl
    | cons b pre => exact strapGross_next first (reached b List.mem_cons_self)

theorem LevelsAscend.of_append (ha : LevelsAscend (pre ++ l)) : LevelsAscend l :=
  ha.sublist ((List.sublist_append_right pre l).map Point.level)

theorem LevelsAscend.lt_of_mem (ha : LevelsAscend (pre ++ p :: rest)) {a : Point} (hm : a ∈ pre) :
    a.level < p.level := by
  rw [LevelsAscend, List.map_append, List.pairwise_append] at ha
  obtain ⟨-, -, ordered⟩ := ha
  exact ordered a.level (List.mem_map_of_mem hm) p.level (by simp)

/-- R121: the volume at the level of a point is the point's. -/
theorem strapGross_point (ha : LevelsAscend (p :: rest)) : strapGross (p :: rest) p.level = (p.volume, false) := by
  cases rest with
  | nil => simp [strapGross]
  | cons q rest =>
    have next : p.level < q.level := (List.pairwise_cons.mp ha).1 q.level (by simp)
    rw [strapGross_between le_rfl next, Nat.sub_self, Nat.zero_mul, Nat.zero_div, Nat.add_zero]

/-- R121: above the last point the volume is the point's, with ABOVE_TABLE. -/
theorem strapGross_above (hl : p.level < level) : strapGross [p] level = (p.volume, true) := by
  simp only [strapGross, decide_eq_true hl]

/-- R121: a volume between two points stays below the upper one. -/
theorem interpolation_lt (high : level < q.level) (low : p.level < level) (hv : p.volume < q.volume) :
    p.volume + (level - p.level) * (q.volume - p.volume) / (q.level - p.level) < q.volume := by
  have share : (level - p.level) * (q.volume - p.volume) / (q.level - p.level) < q.volume - p.volume := by
    rw [Nat.div_lt_iff_lt_mul (by omega), Nat.mul_comm]
    exact Nat.mul_lt_mul_of_pos_left (by omega) (by omega)
  omega

section Segment

variable (ha : LevelsAscend (pre ++ p :: q :: rest))

include ha

/-- R121: a level from a point on is read from that point on. -/
theorem strapGross_reached (hl : p.level ≤ level) :
    strapGross (pre ++ p :: q :: rest) level = strapGross (p :: q :: rest) level :=
  strapGross_append (fun _ hm => (ha.lt_of_mem hm).le.trans hl) hl

theorem strapGross_upper (hl : q.level ≤ level) :
    strapGross (pre ++ p :: q :: rest) level = strapGross (q :: rest) level := by
  have steps : p.level < q.level := LevelsAscend.lt_of_mem (pre := [p]) ha.of_append List.mem_cons_self
  rw [strapGross_reached ha (steps.le.trans hl), strapGross_next (steps.le.trans hl) hl]

end Segment

end Sys2Proof.Machine
end

section
/-! PROOF. LEVEL READING and LEVEL FAULT INDICATION while no delivery is RECEIVING (R118, R121, R124, R125), and O46. -/

namespace Sys2Proof.Machine

variable {s : State} {c e : Comp} {level : Nat} {reqs : List Requester} {w n sum : Nat}

/-! ## The end of a run (R125) -/

/-- R125: what is handed over at the end of a run: the host takes no notice. -/
def resultsFor (c : Comp) (r : GaugeResult) (reqs : List Requester) : List Handed :=
  (reqs.filter fun k => decide (k ≠ .host)).map fun k => .result k c r

theorem handResults_handed (c : Comp) (r : GaugeResult) (reqs : List Requester) (s : State) :
    (handResults c r reqs s).handed = s.handed ++ resultsFor c r reqs := by
  induction reqs generalizing s with
  | nil => exact (List.append_nil _).symm
  | cons k reqs ih =>
    have step : handResults c r (k :: reqs) s =
        handResults c r reqs (if k = .host then s else handOver (.result k c r) s) := rfl
    rw [step, ih]
    by_cases hk : k = .host
    · simp [resultsFor, hk]
    · simp [resultsFor, hk, handOver]

/-- R125: a run is IDLE and its result handed over. -/
def runEnded (c : Comp) (r : GaugeResult) (reqs : List Requester) (s : State) : State :=
  handResults c r reqs (setRun c .idle s)

theorem runEnded_touches (c : Comp) (r : GaugeResult) (reqs : List Requester) (s : State) :
    OnlyIn [.units, .handed] s (runEnded c r reqs s) :=
  ((setRun_touches c .idle s).mono (by decide)).then (handResults_touches _ _ _ _) (by decide)

theorem runEnded_unit (c : Comp) (r : GaugeResult) (reqs : List Requester) (s : State) :
    (runEnded c r reqs s).unit c = { s.unit c with run := .idle } :=
  ((handResults_touches _ _ _ _).unit c).trans (setRun_unit c .idle s)

theorem runEnded_handed (c : Comp) (r : GaugeResult) (reqs : List Requester) (s : State) :
    (runEnded c r reqs s).handed = s.handed ++ resultsFor c r reqs := handResults_handed c r reqs _

/-- The state with the last gauging of a compartment set. -/
def gauged (c : Comp) (x : LastGauging) (s : State) : State := s.putComp c { s.comp c with gauging := x }

theorem gauged_touches (c : Comp) (x : LastGauging) (s : State) : OnlyIn [.comps] s (gauged c x s) := only_setComps _ s

theorem gauged_comp (c : Comp) (x : LastGauging) (s : State) :
    (gauged c x s).comp c = { s.comp c with gauging := x } := State.comp_putComp _ s

theorem gauged_otherComp (c : Comp) (x : LastGauging) (s : State) : OtherComp c s (gauged c x s) :=
  fun _ he => State.comp_putComp_ne _ s he

/-- R125: a run that completes sets the last gauging by its reading. -/
theorem completeRun_eq (c : Comp) (reqs : List Requester) (n sum : Nat) (s : State) :
    completeRun c reqs n sum s = runEnded c (.ok (gaugeLevel c (sum / n) s)) reqs
      (gauged c ⟨true, false, some (valuesOf c (gaugeLevel c (sum / n) s) s)⟩ s) := rfl

/-- R125: a run that fails marks the last gauging, with the alarm. -/
theorem failRun_eq (c : Comp) (reqs : List Requester) (s : State) : failRun c reqs s =
    runEnded c .failed reqs (raiseAlarm (.levelProbeFault c)
      (gauged c { (s.comp c).gauging with ok := false } s)) := rfl

theorem completeRun_after (c : Comp) (reqs : List Requester) (n sum : Nat) (s : State) : OnlyIn [.units, .handed]
    (gauged c ⟨true, false, some (valuesOf c (gaugeLevel c (sum / n) s) s)⟩ s) (completeRun c reqs n sum s) :=
  runEnded_touches _ _ _ _

theorem completeRun_comp (c : Comp) (reqs : List Requester) (n sum : Nat) (s : State) :
    (completeRun c reqs n sum s).comp c =
      { s.comp c with gauging := ⟨true, false, some (valuesOf c (gaugeLevel c (sum / n) s) s)⟩ } :=
  ((completeRun_after c reqs n sum s).comp c).trans (gauged_comp c _ s)

theorem completeRun_otherComp (c : Comp) (reqs : List Requester) (n sum : Nat) (s : State) :
    OtherComp c s (completeRun c reqs n sum s) :=
  fun e he => ((completeRun_after c reqs n sum s).comp e).trans (gauged_otherComp c _ s e he)

theorem completeRun_unit (c : Comp) (reqs : List Requester) (n sum : Nat) (s : State) :
    (completeRun c reqs n sum s).unit c = { s.unit c with run := .idle } := runEnded_unit _ _ _ _

theorem completeRun_handed (c : Comp) (reqs : List Requester) (n sum : Nat) (s : State) :
    (completeRun c reqs n sum s).handed = s.handed ++ resultsFor c (.ok (gaugeLevel c (sum / n) s)) reqs :=
  runEnded_handed _ _ _ _

theorem failRun_after (c : Comp) (reqs : List Requester) (s : State) : OnlyIn [.units, .handed, .alarms]
    (gauged c { (s.comp c).gauging with ok := false } s) (failRun c reqs s) :=
  ((raiseAlarm_touches _ _).mono (by decide)).then (runEnded_touches _ _ _ _) (by decide)

theorem failRun_comp (c : Comp) (reqs : List Requester) (s : State) :
    (failRun c reqs s).comp c = { s.comp c with gauging := { (s.comp c).gauging with ok := false } } :=
  ((failRun_after c reqs s).comp c).trans (gauged_comp c _ s)

theorem failRun_otherComp (c : Comp) (reqs : List Requester) (s : State) : OtherComp c s (failRun c reqs s) :=
  fun e he => ((failRun_after c reqs s).comp e).trans (gauged_otherComp c _ s e he)

theorem failRun_unit (c : Comp) (reqs : List Requester) (s : State) :
    (failRun c reqs s).unit c = { s.unit c with run := .idle } := runEnded_unit _ _ _ _

theorem failRun_alarms (c : Comp) (reqs : List Requester) (s : State) :
    (failRun c reqs s).alarms = (raiseAlarm (.levelProbeFault c) s).alarms :=
  runEnded_touches _ _ _ _ .alarms (by decide)

theorem failRun_handed (c : Comp) (reqs : List Requester) (s : State) :
    (failRun c reqs s).handed = s.handed ++ resultsFor c .failed reqs := runEnded_handed _ _ _ _

/-! ## Samples (R118, R124) -/

theorem offerLevel_not_receiving (hd : ∀ d, s.store.delivery = some d → d.comp = c → d.state ≠ .receiving) :
    offerLevel c s = s := by
  cases h : s.store.delivery with
  | none => simp only [offerLevel, h]
  | some d =>
    have elsewhere : ¬ (d.comp = c ∧ d.state = .receiving) := fun ⟨hc, hs⟩ => hd d h hc hs
    simp only [offerLevel, h, if_neg elsewhere]

theorem setLevel_unit (c : Comp) (x : Option Nat) (s : State) :
    (setLevel c x s).unit c = { s.unit c with level := x } := State.unit_putUnit _ s

theorem setLevel_run (c : Comp) (x : Option Nat) (s : State) : ((setLevel c x s).unit c).run = (s.unit c).run := by
  rw [setLevel_unit]

theorem setRun_setLevel (c : Comp) (run : Run) (x : Option Nat) (s : State) : setRun c run (setLevel c x s) =
    s.setUnits (s.units.set c { s.unit c with level := x, run := run }) := by
  rw [setRun, setLevel_unit]
  exact congrArg s.setUnits (PerComp.set_set _ _ _ _)

theorem sampleRun_counts (hr : (s.unit c).run = .sampling reqs w n sum) (hn : n + 1 < w) (level : Nat) :
    sampleRun c level s = setRun c (.sampling reqs w (n + 1) (sum + level)) s := by
  simp only [sampleRun, hr, if_neg hn.not_ge]

theorem sampleRun_completes (hr : (s.unit c).run = .sampling reqs w n sum) (hn : w ≤ n + 1) (level : Nat) :
    sampleRun c level s = completeRun c reqs (n + 1) (sum + level) s := by
  simp only [sampleRun, hr, if_pos hn]

theorem faultRun_fails (hr : (s.unit c).run = .sampling reqs w n sum) : faultRun c s = failRun c reqs s := by
  simp only [faultRun, hr]

section Observed

variable (hp : s.power = .on) (hd : ∀ d, s.store.delivery = some d → d.comp = c → d.state ≠ .receiving)

include hp hd

theorem levelReading_observed (level : Nat) : exec (.levelReading c level) s =
    .next (sampleRun c level (setLevel c (some level) s)) := by
  rw [exec_levelReading hp, offerLevel_not_receiving (s := setLevel c (some level) s) hd]

theorem levelFault_observed : exec (.levelFaultIndication c) s = .next (faultRun c (setLevel c none s)) := by
  rw [exec_levelFaultIndication hp, offerLevel_not_receiving (s := setLevel c none s) hd]

/-- R118: without a run in SAMPLING an observation is the live level alone. -/
theorem level_unsampled (hn : ∀ reqs w n sum, (s.unit c).run ≠ .sampling reqs w n sum) (level : Nat) :
    exec (.levelReading c level) s =
        .next (s.setUnits (s.units.set c { s.unit c with level := some level })) ∧
      exec (.levelFaultIndication c) s = .next (s.setUnits (s.units.set c { s.unit c with level := none })) := by
  have still (x : Option Nat) (reqs : List Requester) (w n sum : Nat) :
      ((setLevel c x s).unit c).run ≠ .sampling reqs w n sum := by
    rw [setLevel_run]
    exact hn reqs w n sum
  rw [levelReading_observed hp hd, levelFault_observed hp hd, sampleRun_of_not_sampling (still _),
    faultRun_of_not_sampling (still _)]
  exact ⟨rfl, rfl⟩

section Sampling

variable (hr : (s.unit c).run = .sampling reqs w n sum)

include hr

/-- R124: a reading before the last is one sample. -/
theorem levelReading_counts (hn : n + 1 < w) (level : Nat) : exec (.levelReading c level) s =
    .next (s.setUnits (s.units.set c
      { s.unit c with level := some level, run := .sampling reqs w (n + 1) (sum + level) })) := by
  rw [levelReading_observed hp hd, sampleRun_counts ((setLevel_run c _ s).trans hr) hn, setRun_setLevel]

/-- R121, R125: the last sample completes the run. -/
theorem levelReading_completes (hn : w ≤ n + 1) (level : Nat) :
    ∃ t g, exec (.levelReading c level) s = .next t ∧ OnlyIn [.comps, .units, .handed] s t ∧ OtherComp c s t ∧
      t.unit c = { s.unit c with level := some level, run := .idle } ∧
      g.time = s.clock ∧ g.level = (sum + level) / (n + 1) ∧
      (g.gross, g.above) = strapGross (s.comp c).strapping g.level ∧
      g.net = (g.gross : Int) * vcfOf (s.store.cal.set.alpha.get c) (sourceTemp (s.source (probeOf c))) / 1000000 ∧
      t.comp c = { s.comp c with gauging := ⟨true, false, some ⟨s.clock, g.level,
        sourceTemp (s.source (probeOf c)), g.gross, g.net, g.net - (s.comp c).book, g.above⟩⟩ } ∧
      t.handed = s.handed ++ resultsFor c (.ok g) reqs := by
  refine ⟨_, gaugeLevel c ((sum + level) / (n + 1)) (setLevel c (some level) s), levelReading_observed hp hd level, ?_⟩
  rw [sampleRun_completes ((setLevel_run c _ s).trans hr) hn]
  refine ⟨((setLevel_touches c _ s).mono (by decide)).then (completeRun_touches _ _ _ _ _) (by decide),
    completeRun_otherComp c reqs _ _ (setLevel c _ s), ?_, rfl, rfl, rfl, rfl,
    completeRun_comp c reqs _ _ (setLevel c _ s), completeRun_handed c reqs _ _ (setLevel c _ s)⟩
  rw [completeRun_unit, setLevel_unit]

/-- R118, R125: a fault fails the run, with the alarm. -/
theorem levelFault_fails : ∃ t, exec (.levelFaultIndication c) s = .next t ∧
      OnlyIn [.comps, .units, .alarms, .handed] s t ∧ OtherComp c s t ∧
      t.unit c = { s.unit c with level := none, run := .idle } ∧
      t.comp c = { s.comp c with gauging := { (s.comp c).gauging with ok := false } } ∧
      t.alarms = (raiseAlarm (.levelProbeFault c) s).alarms ∧ t.handed = s.handed ++ resultsFor c .failed reqs := by
  refine ⟨_, levelFault_observed hp hd, ?_⟩
  rw [faultRun_fails ((setLevel_run c _ s).trans hr)]
  refine ⟨((setLevel_touches c _ s).mono (by decide)).then (failRun_touches _ _ _) (by decide),
    failRun_otherComp c reqs (setLevel c _ s), ?_, failRun_comp c reqs (setLevel c _ s),
    failRun_alarms c reqs (setLevel c _ s), failRun_handed c reqs (setLevel c _ s)⟩
  rw [failRun_unit, setLevel_unit]

end Sampling
end Observed

/-- Settles O46: the table's points and what is between, below and above them, and an observation by the state of the
run. -/
theorem levelObservationsServeTheRun : Obligations.LevelObservationsServeTheRun := by
  unfold Obligations.LevelObservationsServeTheRun
  refine ⟨?_, fun c level s hp hd => ⟨fun hi => level_unsampled hp hd (fun _ _ _ _ hr => ?_) level,
    fun reqs w n sum hr => ⟨fun hn => levelReading_counts hp hd hr hn level,
      fun hn => levelReading_completes hp hd hr hn level, levelFault_fails hp hd hr⟩⟩⟩
  · rintro l p q pre post rfl levels volumes level
    have levels : LevelsAscend (pre ++ p :: q :: post) := levels
    have tail : LevelsAscend (p :: q :: post) := levels.of_append
    have upper : LevelsAscend (q :: post) := LevelsAscend.of_append (pre := [p]) tail
    have upward := volumes.sublist ((List.sublist_append_right pre (p :: q :: post)).map Point.volume)
    have rises : p.volume < q.volume := (List.pairwise_cons.mp upward).1 q.volume (by simp)
    refine ⟨?_, fun low high => ?_, ?_, ?_, ?_⟩
    · rintro rfl
      rw [strapGross_reached levels le_rfl, strapGross_point tail]
    · rw [strapGross_reached levels low.le, strapGross_between low.le high]
      exact ⟨Nat.le_add_right _ _, interpolation_lt high low rises, rfl, rfl⟩
    · rintro rfl hl
      exact strapGross_below hl
    · rintro rfl
      rw [strapGross_upper levels le_rfl, strapGross_point upper]
    · rintro rfl hl
      rw [strapGross_upper levels hl.le, strapGross_above hl]
  · rcases hi with hi | ⟨reqs, hi⟩ <;> rw [hi] at hr <;> cases hr

end Sys2Proof.Machine
end

section
/-! PROOF. DELIVERY OPEN, the pre-gauge's result and DELIVERY CLOSE (R134 to R136, R141, R142, R150). -/

namespace Sys2Proof.Machine

variable {s : State} {c e : Comp} {d : Delivery} {k : DeliveryCause} {docket : Text} {declared : Option Int}
  {level : Nat} {r : GaugeResult}

/-! ## DELIVERY OPEN (R134, R150) -/

section Passes

variable (hw : docketWithin (s.comp c) docket declared = true) (hd : s.store.delivery = none)
  (he : s.inputs.emergency = false) (hr : ∀ h, compOf h = c → (s.hose h).state.resting = true)

include hw hd he hr

/-- R134: with its first three checks passed, DELIVERY OPEN turns on the log. -/
theorem ownDeliveryOpen_checked : ownDeliveryOpen (compNumber c, docket, declared) s =
    if canCommit s then .ok (openDelivery c docket declared s, [.count (compNumber c), .code 1])
    else .error .logFull := by
  have code : deliveryCode ((openDelivery c docket declared s).store.delivery.map Delivery.state) = 1 := by
    rw [openDelivery, requestRun_touches c _ _ .delivery (by decide)]
    rfl
  have closed : ¬ (s.store.delivery.isSome = true ∨ s.inputs.emergency = true) := by simp [hd, he]
  have rests : (hosesOf c).all (fun h => (s.hose h).state.resting) = true :=
    List.all_eq_true.mpr fun h hh => hr h (mem_hosesOf.mp hh)
  cases hc : canCommit s <;>
    simp only [ownDeliveryOpen, compOfNumber_compNumber, hw, if_neg closed, rests, hc, code, Bool.not_true,
      Bool.not_false, Bool.false_eq_true, if_false, if_true]

theorem ownDeliveryOpen_opens (hc : canCommit s = true) : ownDeliveryOpen (compNumber c, docket, declared) s =
    .ok (openDelivery c docket declared s, [.count (compNumber c), .code 1]) :=
  (ownDeliveryOpen_checked hw hd he hr).trans (if_pos hc)

theorem ownDeliveryOpen_logFull (hc : canCommit s = false) :
    ownDeliveryOpen (compNumber c, docket, declared) s = .error .logFull :=
  (ownDeliveryOpen_checked hw hd he hr).trans (if_neg (Bool.eq_false_iff.mp hc))

end Passes

/-- R134: what an opening does after its commitment. -/
theorem openDelivery_after (c : Comp) (docket : Text) (declared : Option Int) (s : State) :
    OnlyIn [.delivery, .selector, .units] (takeCommitment s) (openDelivery c docket declared s) :=
  (((only_setDelivery _ _).mono (by decide)).then (only_setSelector _ _) (by decide)).then
    (requestRun_touches _ _ _) (by decide)

theorem openDelivery_touches (c : Comp) (docket : Text) (declared : Option Int) (s : State) :
    OnlyIn [.delivery, .selector, .log, .logWatch, .alarms, .units] s (openDelivery c docket declared s) :=
  ((takeCommitment_touches s).mono (by decide)).then (openDelivery_after c docket declared s) (by decide)

theorem openDelivery_delivery (c : Comp) (docket : Text) (declared : Option Int) (s : State) :
    (openDelivery c docket declared s).store.delivery = some (newDelivery c docket declared) :=
  requestRun_touches c _ _ .delivery (by decide)

theorem openDelivery_selector (c : Comp) (docket : Text) (declared : Option Int) (s : State) :
    (openDelivery c docket declared s).store.selector = c :=
  requestRun_touches c _ _ .selector (by decide)

/-- R147: an opening takes one slot. -/
theorem openDelivery_log (c : Comp) (docket : Text) (declared : Option Int) (s : State) :
    (openDelivery c docket declared s).store.log =
      { s.store.log with commitments := s.store.log.commitments + 1 } :=
  (openDelivery_after c docket declared s .log (by decide)).trans (takeCommitment_log s)

theorem openDelivery_unit_ne (docket : Text) (declared : Option Int) (s : State) (he : e ≠ c) :
    (openDelivery c docket declared s).unit e = s.unit e :=
  (requestRun_unit_ne _ _ he).trans ((takeCommitment_touches s).unit e)

theorem openDelivery_watched (c : Comp) (docket : Text) (declared : Option Int) (s : State) :
    LogWatched s (openDelivery c docket declared s) := by
  have after := openDelivery_after c docket declared s
  exact (takeCommitment_watched s).congr rfl rfl rfl (congrArg LogWatch.armed (after .logWatch (by decide)))
    (after .log (by decide)) (after.row _)

theorem openDelivery_otherAlarms (c : Comp) (docket : Text) (declared : Option Int) (s : State) :
    OtherAlarms [.logNearFull] s (openDelivery c docket declared s) :=
  (takeCommitment_otherAlarms s).trans (openDelivery_after c docket declared s).otherAlarms

/-! ## DELIVERY CLOSE (R135, R141, R142) -/

/-- R135, R141: a delivery in PRE_GAUGE withdrawn from its run and cancelled. -/
def gaugeCancelled (d : Delivery) (s : State) : State := cancelDelivery (cancelRequest d.comp .preDelivery s)

theorem gaugeCancelled_touches (d : Delivery) (s : State) :
    OnlyIn [.delivery, .log, .logWatch, .alarms, .units, .handed] s (gaugeCancelled d s) :=
  ((cancelRequest_touches _ _ s).mono (by decide)).then (cancelDelivery_touches _) (by decide)

theorem gaugeCancelled_log (d : Delivery) (s : State) : (gaugeCancelled d s).store.log = released s.store.log :=
  (cancelDelivery_log _).trans (congrArg released (cancelRequest_touches _ _ s .log (by decide)))

theorem gaugeCancelled_requesters (d : Delivery) (s : State) : ((gaugeCancelled d s).unit d.comp).run.requesters =
    (s.unit d.comp).run.requesters.erase .preDelivery := by
  rw [gaugeCancelled, (cancelDelivery_touches _).unit d.comp]
  exact withdraw_requesters d.comp .preDelivery s

/-- R135: no result of the run waits any longer. -/
theorem gaugeCancelled_handed (d : Delivery) (s : State) :
    (gaugeCancelled d s).handed = s.handed.filter fun e => !e.isResult d.comp .preDelivery :=
  (cancelDelivery_touches _ .handed (by decide)).trans (cancelRequest_handed _ _ s)

theorem gaugeCancelled_watched (d : Delivery) (s : State) : LogWatched s (gaugeCancelled d s) := by
  have before := cancelRequest_touches d.comp .preDelivery s
  exact (cancelDelivery_watched _).congr (congrArg LogWatch.armed (before .logWatch (by decide)).symm)
    (before .clock (by decide)).symm (before.row _).symm rfl rfl rfl

theorem gaugeCancelled_otherAlarms (d : Delivery) (s : State) : OtherAlarms [.logNearFull] s (gaugeCancelled d s) :=
  (cancelRequest_touches _ _ s).otherAlarms.trans (cancelDelivery_otherAlarms _)

theorem ownDeliveryClose_none (hd : s.store.delivery = none) : ownDeliveryClose () s = .error .state := by
  simp only [ownDeliveryClose, hd]

section Open

variable (hd : s.store.delivery = some d)

include hd

theorem ownDeliveryClose_closes : ownDeliveryClose () s = .ok (closeDelivery d s,
    [.code (deliveryCode ((closeDelivery d s).store.delivery.map Delivery.state))]) := by
  simp only [ownDeliveryClose, hd]

theorem ownDeliveryClose_preGauge (hs : d.state = .preGauge) :
    ownDeliveryClose () s = .ok (gaugeCancelled d s, [.code 0]) := by
  have closes : closeDelivery d s = gaugeCancelled d s := by simp only [closeDelivery, hs, gaugeCancelled]
  rw [ownDeliveryClose_closes hd, closes]
  rfl

theorem ownDeliveryClose_receiving (hs : d.state = .receiving) :
    ownDeliveryClose () s = .ok (drainDelivery { d with cause := some .closed } s, [.code 3]) := by
  have closes : closeDelivery d s = drainDelivery { d with cause := some .closed } s := by
    simp only [closeDelivery, hs, closeInlet_receiving hd hs]
  rw [ownDeliveryClose_closes hd, closes, drainDelivery_delivery]
  rfl

/-- R141: a delivery whose valve is shut already stands. -/
theorem ownDeliveryClose_later (hs : d.state = .draining ∨ d.state = .postGauge) :
    ownDeliveryClose () s = .ok (s, [.code (deliveryCode (some d.state))]) := by
  have stands : closeDelivery d s = s := by obtain hs | hs := hs <;> simp only [closeDelivery, hs]
  rw [ownDeliveryClose_closes hd, stands, hd]
  rfl

end Open

/-! ## What keeps the inlet valve closed (R136) -/

theorem inletCondition_emergency (he : s.inputs.emergency = true) : inletCondition c s = some .emergency :=
  if_pos he

section Released

variable (he : s.inputs.emergency = false)

include he

theorem inletCondition_overfill (ho : s.inputs.overfill.get c = true) : inletCondition c s = some .overfill := by
  rw [inletCondition, he, if_neg Bool.false_ne_true, if_pos ho]

variable (ho : s.inputs.overfill.get c = false)

include ho

theorem inletCondition_level (hl : (s.unit c).level = some level) :
    inletCondition c s = if (s.comp c).cutoff ≤ level then some .highLevel else none := by
  simp only [inletCondition, he, ho, hl, Bool.false_eq_true, if_false]

theorem inletCondition_absent (hl : (s.unit c).level = none) : inletCondition c s = some .highLevel := by
  simp only [inletCondition, he, ho, hl, Bool.false_eq_true, if_false]

end Released

/-! ## Entry into RECEIVING (R136, R142) -/

/-- R136 step 2: the delivery whose valve stays closed drains, with its cause. -/
def barred (d : Delivery) (k : DeliveryCause) (s : State) : Delivery :=
  { startCount d s with
    state := .draining
    cause := some k
    levelFault := d.levelFault || decide (k = .highLevel) && (s.unit d.comp).level.isNone }

/-- R136 step 3: the inlet opens for the delivery that counts. -/
def inletOpened (d : Delivery) (s : State) : State :=
  (s.setDelivery (some (startCount d s))).setInlet { s.inlet with valveOpen := true }

theorem enterReceiving_barred (hk : inletCondition d.comp s = some k) : enterReceiving d s =
    drainDelivery (barred d k s) (levelAlarm d.comp k (startInterval .m4 s)) := by
  have condition : inletCondition (startCount d s).comp (startInterval .m4 s) = some k := hk
  simp only [enterReceiving, condition]
  rfl

theorem enterReceiving_opens (hk : inletCondition d.comp s = none) :
    enterReceiving d s = evalRest d.comp (inletOpened d (startInterval .m4 s)) := by
  have condition : inletCondition (startCount d s).comp (startInterval .m4 s) = none := hk
  simp only [enterReceiving, condition]
  rfl

/-- R136: the entry follows the start of the inlet meter's interval. -/
theorem enterReceiving_after (d : Delivery) (s : State) :
    OnlyIn [.delivery, .inlet, .units, .alarms] (startInterval .m4 s) (enterReceiving d s) := by
  cases hk : inletCondition d.comp s with
  | some k =>
    rw [enterReceiving_barred hk]
    exact ((levelAlarm_touches _ _ _).mono (by decide)).then (drainDelivery_touches _ _) (by decide)
  | none =>
    rw [enterReceiving_opens hk]
    exact (((only_setDelivery _ _).mono (by decide)).then (only_setInlet _ _) (by decide)).then
      (evalRest_touches _ _) (by decide)

theorem enterReceiving_meter (d : Delivery) (s : State) : (enterReceiving d s).meter .m4 =
    { s.meter .m4 with band := 1, acc := 0, interval := .running 1 } :=
  ((enterReceiving_after d s).meter .m4).trans (State.meter_putMeter _ s)

/-- R136: the delivery after its entry. -/
def entered (d : Delivery) (s : State) : Delivery :=
  match inletCondition d.comp s with
  | some k => barred d k s
  | none => startCount d s

theorem entered_barred (hk : inletCondition d.comp s = some k) : entered d s = barred d k s := by
  rw [entered, hk]

theorem entered_receives (hk : inletCondition d.comp s = none) : entered d s = startCount d s := by
  rw [entered, hk]

theorem enterReceiving_delivery (d : Delivery) (s : State) :
    (enterReceiving d s).store.delivery = some (entered d s) := by
  cases hk : inletCondition d.comp s with
  | some k =>
    rw [enterReceiving_barred hk, drainDelivery_delivery, entered_barred hk]
    rfl
  | none =>
    rw [enterReceiving_opens hk, evalRest_touches _ _ .delivery (by decide), entered_receives hk]
    rfl

/-- R136 step 1: a delivery counts from zero remainder, with the time and the VCF of its start. -/
structure CountStarted (d : Delivery) (s : State) (e : Delivery) : Prop where
  preGauge : e.preGauge = d.preGauge
  comp : e.comp = d.comp
  docket : e.docket = d.docket
  declared : e.declared = d.declared
  start : e.start = some s.clock.time
  unset : e.unset = (d.unset || s.clock.unset)
  remainder : e.volume.remainder = 0
  gross : e.volume.gross = d.volume.gross
  net : e.volume.net = d.volume.net
  vcf : e.volume.vcf = vcfOf (s.store.cal.set.alpha.get d.comp) (sourceTemp (s.source .p3))

theorem startCount_countStarted (d : Delivery) (s : State) : CountStarted d s (startCount d s) :=
  ⟨rfl, rfl, rfl, rfl, rfl, rfl, rfl, rfl, rfl, rfl⟩

theorem barred_countStarted (d : Delivery) (k : DeliveryCause) (s : State) : CountStarted d s (barred d k s) :=
  ⟨rfl, rfl, rfl, rfl, rfl, rfl, rfl, rfl, rfl, rfl⟩

/-- R136: the count starts whether or not the valve opens. -/
theorem entered_countStarted (d : Delivery) (s : State) : CountStarted d s (entered d s) := by
  cases hk : inletCondition d.comp s with
  | some k =>
    rw [entered_barred hk]
    exact barred_countStarted d k s
  | none =>
    rw [entered_receives hk]
    exact startCount_countStarted d s

theorem levelAlarm_other (c : Comp) (s : State) (hk : k ≠ .highLevel) : levelAlarm c k s = s :=
  if_neg fun both => hk both.1

theorem levelAlarm_high (hl : (s.unit c).level = some level) :
    levelAlarm c .highLevel s = raiseAlarm (.highLevel c) s :=
  if_pos ⟨rfl, by rw [hl]; rfl⟩

theorem levelAlarm_absent (hl : (s.unit c).level = none) : levelAlarm c k s = s :=
  if_neg fun both => by simp [hl] at both

/-- R136, R142: a delivery whose valve stays closed drains with the cause of that. -/
theorem enterReceiving_drains (hk : inletCondition d.comp s = some k) :
    (entered d s).state = .draining ∧ (entered d s).cause = some k ∧
      (enterReceiving d s).inlet = ⟨false, .running 2, .running 15⟩ ∧
      (enterReceiving d s).alarms = (levelAlarm d.comp k (startInterval .m4 s)).alarms := by
  rw [entered_barred hk, enterReceiving_barred hk]
  exact ⟨rfl, rfl, drainDelivery_inlet _ _, drainDelivery_touches _ _ .alarms (by decide)⟩

/-- R136: the emergency stop and the overfill switch raise no alarm of level. -/
theorem enterReceiving_shut (hk : inletCondition d.comp s = some k) (hh : k ≠ .highLevel) :
    (entered d s).state = .draining ∧ (entered d s).cause = some k ∧
      (enterReceiving d s).inlet = ⟨false, .running 2, .running 15⟩ ∧ (enterReceiving d s).alarms = s.alarms := by
  obtain ⟨state, cause, inlet, alarms⟩ := enterReceiving_drains hk
  rw [levelAlarm_other _ _ hh] at alarms
  exact ⟨state, cause, inlet, alarms⟩

/-- R136: a level at the cutoff is no level fault, and raises its alarm. -/
theorem enterReceiving_high (hk : inletCondition d.comp s = some .highLevel)
    (hl : (s.unit d.comp).level = some level) : (entered d s).state = .draining ∧
      (entered d s).cause = some .highLevel ∧ (entered d s).levelFault = d.levelFault ∧
      (enterReceiving d s).inlet = ⟨false, .running 2, .running 15⟩ ∧
      (enterReceiving d s).alarms = (raiseAlarm (.highLevel d.comp) s).alarms := by
  obtain ⟨state, cause, inlet, alarms⟩ := enterReceiving_drains hk
  rw [levelAlarm_high (s := startInterval .m4 s) hl] at alarms
  refine ⟨state, cause, ?_, inlet, alarms⟩
  rw [entered_barred hk]
  simp only [barred, hl, Option.isNone_some, Bool.and_false, Bool.or_false]

/-- R136: an absent level is a level fault, without an alarm. -/
theorem enterReceiving_absent (hk : inletCondition d.comp s = some .highLevel) (hl : (s.unit d.comp).level = none) :
    (entered d s).state = .draining ∧ (entered d s).cause = some .highLevel ∧ (entered d s).levelFault = true ∧
      (enterReceiving d s).inlet = ⟨false, .running 2, .running 15⟩ ∧ (enterReceiving d s).alarms = s.alarms := by
  obtain ⟨state, cause, inlet, alarms⟩ := enterReceiving_drains hk
  rw [levelAlarm_absent (s := startInterval .m4 s) hl] at alarms
  refine ⟨state, cause, ?_, inlet, alarms⟩
  rw [entered_barred hk]
  simp only [barred, hl, Option.isNone_none, decide_true, Bool.and_true, Bool.or_true]

/-- R136: a delivery that nothing bars receives. -/
theorem enterReceiving_receives (hk : inletCondition d.comp s = none) :
    (entered d s).state = .receiving ∧ (entered d s).cause = d.cause ∧
      (enterReceiving d s).inlet = { s.inlet with valveOpen := true } ∧
      (enterReceiving d s).alarms = s.alarms := by
  rw [entered_receives hk, enterReceiving_opens hk]
  exact ⟨rfl, rfl, evalRest_touches _ _ .inlet (by decide), evalRest_touches _ _ .alarms (by decide)⟩

/-! ## The pre-gauge's result (R135) -/

/-- R135: a delivery with the pre-gauge that it takes. -/
def withPreGauge (r : GaugeResult) (d : Delivery) : Delivery := { d with preGauge := deliveryGauge r }

theorem exec_preGaugeResult (hp : s.power = .on) (hd : s.store.delivery = some d) (hs : d.state = .preGauge)
    (r : GaugeResult) : exec (.preGaugeResult d.comp r) s =
      .next (enterReceiving (withPreGauge r d) (takeHanded (.result .preDelivery d.comp r) s)) := by
  have takes : takePreGauge d.comp r (takeHanded (.result .preDelivery d.comp r) s) =
      enterReceiving (withPreGauge r d) (takeHanded (.result .preDelivery d.comp r) s) := by
    have delivery : (takeHanded (.result .preDelivery d.comp r) s).store.delivery = some d := hd
    simp only [takePreGauge, delivery, hs, and_self, if_true, withPreGauge]
  exact congrArg Host.Outcome.next ((if_pos (live_of_on hp)).trans takes)

theorem preGaugeResult_touches (r : GaugeResult) (d : Delivery) (s : State) :
    OnlyIn [.delivery, .inlet, .meters, .units, .alarms, .handed] s
      (enterReceiving (withPreGauge r d) (takeHanded (.result .preDelivery d.comp r) s)) :=
  ((takeHanded_touches _ s).mono (by decide)).then (enterReceiving_touches _ _) (by decide)

/-- Settles O48: the two requests are their owner's equations in the state that has heard them, the result is the
entry into RECEIVING by what keeps the valve closed. -/
theorem deliveriesOpenReceiveAndClose : Obligations.DeliveriesOpenReceiveAndClose := by
  unfold Obligations.DeliveriesOpenReceiveAndClose
  refine fun tag c s => ⟨fun body docket declared ready hp hw hd he hr => ⟨fun hc => ?_, fun hc => ?_⟩,
    fun ready hd => ?_, fun d hd => ⟨fun ready hs => ?_, fun ready hs => ?_, fun ready hs => ?_, fun ready hs => ?_,
      fun r hp hs hc => ?_⟩⟩
  · exact ⟨_, congrArg Host.Outcome.next (takeRequest_ok ready hp
        (ownDeliveryOpen_opens (s := heard s) hw hd he hr hc)),
      openDelivery_delivery c docket declared _, openDelivery_selector c docket declared _,
      openDelivery_log c docket declared (heard s), requestRun_mem c _ _,
      fun e he => openDelivery_unit_ne docket declared (heard s) he,
      (openDelivery_watched c docket declared (heard s)).congr rfl rfl rfl rfl rfl rfl,
      openDelivery_otherAlarms c docket declared (heard s),
      (((heard_touches s).mono (by decide)).then (openDelivery_touches c docket declared _) (by decide)).then
        (replied_touches _ _) (by decide), rfl⟩
  · exact request_refused ready hp (ownDeliveryOpen_logFull (s := heard s) hw hd he hr hc)
  · exact request_refused (parse := parseNone) ready rfl (ownDeliveryClose_none (s := heard s) hd)
  · exact ⟨_, congrArg Host.Outcome.next (takeRequest_ok (parse := parseNone) ready rfl
        (ownDeliveryClose_preGauge (s := heard s) hd hs)),
      rfl, gaugeCancelled_log d (heard s), gaugeCancelled_requesters d (heard s), gaugeCancelled_handed d (heard s),
      (gaugeCancelled_watched d (heard s)).congr rfl rfl rfl rfl rfl rfl, gaugeCancelled_otherAlarms d (heard s),
      (((heard_touches s).mono (by decide)).then (gaugeCancelled_touches d _) (by decide)).then
        (replied_touches _ _) (by decide), rfl⟩
  · exact ⟨_, congrArg Host.Outcome.next (takeRequest_ok (parse := parseNone) ready rfl
        (ownDeliveryClose_receiving (s := heard s) hd hs)),
      drainDelivery_delivery _ _, drainDelivery_inlet _ _,
      (((heard_touches s).mono (by decide)).then (drainDelivery_touches _ _) (by decide)).then
        (replied_touches _ _) (by decide), rfl⟩
  · have stands := ownDeliveryClose_later (s := heard s) hd (.inl hs)
    rw [hs] at stands
    exact request_answered (parse := parseNone) ready rfl stands
  · have stands := ownDeliveryClose_later (s := heard s) hd (.inr hs)
    rw [hs] at stands
    exact request_answered (parse := parseNone) ready rfl stands
  · subst hc
    have counts := entered_countStarted (withPreGauge r d) (takeHanded (.result .preDelivery d.comp r) s)
    refine ⟨_, _, exec_preGaugeResult hp hd hs r, enterReceiving_delivery _ _,
      counts.preGauge.trans (by cases r <;> rfl), counts.comp, counts.docket, counts.declared, counts.start,
      counts.unset, counts.remainder, counts.gross, counts.net, counts.vcf, enterReceiving_meter _ _,
      preGaugeResult_touches r d s, fun he => ?_, fun he ho => ?_,
      fun he ho => ⟨fun level hl => ?_, fun hl => ?_⟩⟩
    · exact enterReceiving_shut (inletCondition_emergency (s := takeHanded _ s) he) (by decide)
    · exact enterReceiving_shut (inletCondition_overfill (s := takeHanded _ s) he ho) (by decide)
    · exact ⟨fun high =>
          enterReceiving_high ((inletCondition_level (s := takeHanded _ s) he ho hl).trans (if_pos high)) hl,
        fun low =>
          enterReceiving_receives ((inletCondition_level (s := takeHanded _ s) he ho hl).trans (if_neg low.not_ge))⟩
    · exact enterReceiving_absent (inletCondition_absent (s := takeHanded _ s) he ho hl) hl

end Sys2Proof.Machine
end

section
/-! PROOF. LOG READ, LOG CONFIRM and LOG REWIND (R150, R154 to R156, R189). -/

namespace Sys2Proof.Machine

variable {s t : State} {r : Record} {full : List Septet} {fields : List Field} {part : Option Nat} {n : Nat}
  {ps qs : List Part}

/-- What an owner leaves of the state that has heard a request, the reply leaves too. -/
theorem OnlyIn.ofRequest (h : OnlyIn qs (heard s) t) (r : Reply) (hq : qs ⊆ ps := by decide)
    (hl : [Part.link] ⊆ ps := by decide) : OnlyIn ps s (replied r t) :=
  (((heard_touches s).mono hl).then h hq).then (replied_touches r t) hl

/-! ## LOG READ (R154, R189) -/

/-- R189: every full answer has a part 1. -/
theorem exists_answerPart_one (full : List Septet) : ∃ fs, answerPart full 1 = .ok fs := by
  have first : ¬ (1 = 0 ∨ partCount full < 1) := by
    have parts : 1 ≤ partCount full := le_max_left _ _
    omega
  exact ⟨_, if_neg first⟩

/-- R154: the full answer that hands a record over. -/
def recordAnswer (r : Record) (s : State) : List Septet :=
  fieldBytes (logReadFields (some r) ((unsent s.store.log).length - 1))

/-- R154: the full answer that hands nothing over. -/
def emptyAnswer : List Septet := fieldBytes [.absent, .count2 0]

/-- R154: the log keeps a full answer, from which later parts are cut. -/
def answerKept (full : List Septet) (s : State) : State := s.setLogWatch { s.logWatch with kept := some full }

/-- R154: the state after record `r` has been handed over. -/
def recordHandedOver (r : Record) (s : State) : State :=
  answerKept (recordAnswer r s) (s.setLog (markSent r.seq s.store.log))

theorem keepAndAnswer_ok (ha : answerPart full 1 = .ok fields) (s : State) :
    keepAndAnswer full s = .ok (answerKept full s, fields) := by
  rw [keepAndAnswer, ha]
  rfl

theorem ownLogRead_first (hp : part.getD 1 = 1) (s : State) : ownLogRead part s = handOverRecord s := by
  simp only [ownLogRead, hp]

theorem ownLogRead_record (hp : part.getD 1 = 1) (hr : (unsent s.store.log).head? = some r)
    (ha : answerPart (recordAnswer r s) 1 = .ok fields) :
    ownLogRead part s = .ok (recordHandedOver r s, fields) := by
  simp only [ownLogRead_first hp, handOverRecord, hr]
  exact keepAndAnswer_ok ha _

theorem ownLogRead_empty (hp : part.getD 1 = 1) (hu : unsent s.store.log = [])
    (ha : answerPart emptyAnswer 1 = .ok fields) : ownLogRead part s = .ok (answerKept emptyAnswer s, fields) := by
  simp only [ownLogRead_first hp, handOverRecord, hu, List.head?_nil]
  exact keepAndAnswer_ok ha s

theorem ownLogRead_later (hn : 2 ≤ n) (s : State) : ownLogRead (some n) s = laterPart n s := by
  obtain ⟨m, rfl⟩ := Nat.exists_eq_add_of_le' hn
  rfl

theorem laterPart_none (hk : s.logWatch.kept = none) : laterPart n s = .error .state := by
  simp only [laterPart, hk]

theorem laterPart_kept (hk : s.logWatch.kept = some full) :
    laterPart n s = (answerPart full n).map fun fs => (s, fs) := by
  simp only [laterPart, hk]

theorem answerKept_touches (full : List Septet) (s : State) : OnlyIn [.logWatch] s (answerKept full s) :=
  only_setLogWatch _ s

theorem recordHandedOver_touches (r : Record) (s : State) :
    OnlyIn [.log, .logWatch] s (recordHandedOver r s) :=
  ((only_setLog _ s).mono (by decide)).then (answerKept_touches _ _) (by decide)

/-! ## LOG CONFIRM (R150, R155) -/

theorem removeSent_log (n : Nat) (s : State) : (removeSent n s).store.log =
    ⟨s.store.log.records.filter fun r => !confirmable n r, s.store.log.commitments, s.store.log.nextSeq⟩ :=
  watchLog_touches _ .log (by decide)

theorem removeSent_touches (n : Nat) (s : State) : OnlyIn [.log, .logWatch, .alarms] s (removeSent n s) :=
  ((only_setLog _ s).mono (by decide)).then (watchLog_touches _) (by decide)

/-- R150: the near-full watch is evaluated on the slots that a removal frees. -/
theorem removeSent_watched (n : Nat) (s : State) : LogWatched s (removeSent n s) :=
  (watchLog_watched (s.setLog { s.store.log with
    records := s.store.log.records.filter fun r => !confirmable n r })).congr rfl rfl rfl rfl rfl rfl

theorem removeSent_otherAlarms (n : Nat) (s : State) : OtherAlarms [.logNearFull] s (removeSent n s) :=
  (only_setLog _ s).otherAlarms.trans (watchLog_otherAlarms _)

/-- R155: as many records are removed as are missing afterwards. -/
theorem length_filter_confirmable (n : Nat) (s : State) : (s.store.log.records.filter (confirmable n)).length =
    s.store.log.records.length - (removeSent n s).store.log.records.length := by
  have split := List.length_eq_length_filter_add (l := s.store.log.records) (confirmable n)
  rw [removeSent_log]
  exact Nat.eq_sub_of_add_eq split.symm

theorem any_confirmable_iff {l : List Record} :
    l.any (confirmable n) = true ↔ ∃ r ∈ l, r.sent = true ∧ r.seq ≤ n := by
  simp only [List.any_eq_true, confirmable, Bool.and_eq_true, decide_eq_true_eq]

/-- R155: the answer of LOG CONFIRM, by the log that it leaves. -/
def confirmAnswer (n : Nat) (s : State) : List Field :=
  let after := (removeSent n s).store.log
  [.count2 (s.store.log.records.length - after.records.length), .count2 after.records.length,
    .count2 (unsent after).length]

section InRange

variable (low : 1 ≤ n) (high : n ≤ 4294967295)

include low high

/-- R155: with its number in range, LOG CONFIRM turns on whether it removes a record. -/
theorem ownLogConfirm_inRange : ownLogConfirm n s =
    if s.store.log.records.any (confirmable n) then .ok (removeSent n s, confirmAnswer n s)
    else .error .notFound := by
  have inRange : ¬ (n = 0 ∨ Config.seqMax < n) := by
    unfold Config.seqMax
    omega
  cases any : s.store.log.records.any (confirmable n)
  · simp only [ownLogConfirm, if_neg inRange, any, Bool.not_false, Bool.false_eq_true, if_true, if_false]
  · simp only [ownLogConfirm, if_neg inRange, any, Bool.not_true, Bool.false_eq_true, if_true, if_false,
      length_filter_confirmable, confirmAnswer]

theorem ownLogConfirm_removes (hr : ∃ r ∈ s.store.log.records, r.sent = true ∧ r.seq ≤ n) :
    ownLogConfirm n s = .ok (removeSent n s, confirmAnswer n s) :=
  (ownLogConfirm_inRange low high).trans (if_pos (any_confirmable_iff.mpr hr))

theorem ownLogConfirm_notFound (hr : ∀ r ∈ s.store.log.records, r.sent = true → n < r.seq) :
    ownLogConfirm n s = .error .notFound := by
  have none : ¬ s.store.log.records.any (confirmable n) = true := fun any =>
    have ⟨r, mem, sent, le⟩ := any_confirmable_iff.mp any
    le.not_gt (hr r mem sent)
  exact (ownLogConfirm_inRange low high).trans (if_neg none)

end InRange

/-- Settles O51: each request is its owner's equation in the state that has heard it, whose log is as it was. -/
theorem logIsReadConfirmedAndRewound : Obligations.LogIsReadConfirmedAndRewound := by
  unfold Obligations.LogIsReadConfirmedAndRewound
  refine fun tag body s ready => ⟨fun part r hp h1 hr => ?_, fun part hp h1 hu => ?_,
    fun n hp hn => ⟨fun hk => ?_, fun full fs hk ha => ?_, fun full r hk he => ?_⟩,
    fun n hp low high => ⟨fun hr => ?_, fun hr => ?_⟩, fun hb => ?_⟩
  · obtain ⟨fs, ha⟩ := exists_answerPart_one (recordAnswer r s)
    exact ⟨_, fs, congrArg Host.Outcome.next (takeRequest_ok ready hp
        (ownLogRead_record (s := heard s) h1 hr ha)),
      (recordHandedOver_touches r (heard s)).ofRequest _, rfl, rfl, rfl, rfl, rfl, ha, rfl⟩
  · obtain ⟨fs, ha⟩ := exists_answerPart_one emptyAnswer
    exact ⟨_, fs, congrArg Host.Outcome.next (takeRequest_ok ready hp
        (ownLogRead_empty (s := heard s) h1 hu ha)),
      (answerKept_touches emptyAnswer (heard s)).ofRequest _, ha, rfl⟩
  · exact request_refused ready hp ((ownLogRead_later hn (heard s)).trans (laterPart_none hk))
  · exact (longRead_answers ready hp
      ((ownLogRead_later hn (heard s)).trans (laterPart_kept hk))).1 fs ha
  · exact (longRead_answers ready hp
      ((ownLogRead_later hn (heard s)).trans (laterPart_kept hk))).2 r he
  · have log := removeSent_log n (heard s)
    exact ⟨_, congrArg Host.Outcome.next (takeRequest_ok ready hp
        (ownLogConfirm_removes (s := heard s) low high hr)),
      (removeSent_touches n (heard s)).ofRequest _, congrArg Log.records log, (congrArg Log.commitments log :),
      (congrArg Log.nextSeq log :), (removeSent_watched n (heard s)).congr rfl rfl rfl rfl rfl rfl,
      watchLog_kept _, removeSent_otherAlarms n (heard s), rfl⟩
  · exact request_refused ready hp (ownLogConfirm_notFound (s := heard s) low high hr)
  · subst hb
    exact congrArg Host.Outcome.next (takeRequest_ok (parse := parseNone) (owner := ownLogRewind) ready rfl rfl)

end Sys2Proof.Machine
end

section
/-! PROOF. CLOCK SET, the tick and SHIFT CLOSE (R147, R148, R150, R158, R159, R161, R162). -/

namespace Sys2Proof.Machine

variable {s : State} {n : Nat}

/-! ## The clock (R158, R159) -/

theorem ownClockSet_sets (hn : n ≤ 34359738367) (s : State) : ownClockSet n s =
    .ok (s.setClock ⟨n, false⟩, [.time s.clock.time, .flag s.clock.unset, .time n]) :=
  if_neg (Nat.not_lt.mpr hn)

theorem exec_siteClockTick (hp : s.power = .on) : exec .siteClockTick s = .next (elapseTimers (advanceClock s)) :=
  congrArg Host.Outcome.next (if_pos (live_of_on hp))

theorem elapseTimers_channel (h : Hose) (s : State) : (elapseTimers s).channel h = (s.channel h).elapse := by
  have channels : (elapseTimers s).channels = ⟨s.channels.h1.elapse, s.channels.h2.elapse, s.channels.h3.elapse⟩ := by
    simp [elapseTimers]
  rw [State.channel, channels]
  cases h <;> rfl

/-- R158: the timers that run down at a tick move no hose, channel or pump to another state. -/
theorem elapseTimers_states (s : State) :
    (∀ h, ((elapseTimers s).hose h).state = (s.hose h).state ∧ ((elapseTimers s).hose h).valve = (s.hose h).valve ∧
      ((elapseTimers s).channel h).state = (s.channel h).state) ∧
    ∀ c, ((elapseTimers s).pump c).isRunning = (s.pump c).isRunning := by
  refine ⟨fun h => ?_, fun c => ?_⟩
  · rw [elapseTimers_hose, elapseTimers_channel]
    exact ⟨rfl, rfl, rfl⟩
  · rw [elapseTimers_pump, isRunning_elapse]

/-! ## The checks of SHIFT CLOSE (R161) -/

theorem HoseState.isHolding_of {st : HoseState}
    (h : st.isAwaiting = true ∨ st = .flowing ∨ st = .paused ∨ st = .draining) : st.isHolding = true := by
  obtain awaiting | rfl | rfl | rfl := h
  · cases st with
    | awaiting => rfl
    | _ => cases awaiting
  all_goals rfl

theorem ownShiftClose_busy (hb : (∃ h, (s.hose h).state.isHolding = true) ∨ s.store.delivery ≠ none) :
    ownShiftClose () s = .error .busy :=
  if_pos (hb.imp (fun ⟨h, holds⟩ => List.any_eq_true.mpr ⟨h, mem_allHoses h, holds⟩) Option.isSome_iff_ne_none.mpr)

/-- R161: the answer of SHIFT CLOSE. -/
def shiftAnswer (s : State) : List Field :=
  [.long s.store.shift.number, .long (min (s.store.shift.number + 1) 4294967295), .long s.store.log.nextSeq]

section Quiet

variable (hh : ∀ h, (s.hose h).state.isHolding = false) (hd : s.store.delivery = none)

include hh hd

/-- R161: with no hose holding and no delivery open, SHIFT CLOSE turns on the log. -/
theorem ownShiftClose_quiet :
    ownShiftClose () s = if canCommit s then .ok (closeShift s, shiftAnswer s) else .error .logFull := by
  have quiet : ¬ (allHoses.any (fun h => (s.hose h).state.isHolding) = true ∨ s.store.delivery.isSome = true) := by
    simp [hh, hd]
  rw [ownShiftClose, if_neg quiet]
  cases canCommit s <;> rfl

theorem ownShiftClose_logFull (hc : canCommit s = false) : ownShiftClose () s = .error .logFull :=
  (ownShiftClose_quiet hh hd).trans (if_neg (Bool.eq_false_iff.mp hc))

theorem ownShiftClose_closes (hc : canCommit s = true) : ownShiftClose () s = .ok (closeShift s, shiftAnswer s) :=
  (ownShiftClose_quiet hh hd).trans (if_pos hc)

end Quiet

/-! ## What SHIFT CLOSE does (R147, R148, R150, R161, R162) -/

/-- R161 step 1: the SHIFT record is written into a slot committed for it. -/
def shiftRecorded (s : State) : State := writeRecord (.shift (shiftRecord s)) (takeCommitment s)

/-- R150: the near-full watch is evaluated as a slot is committed, and once more as it is written. -/
theorem writeRecord_takeCommitment_watched (body : RecordBody) (s : State) :
    LogWatched s (writeRecord body (takeCommitment s)) := by
  refine (takeCommitment_watched s).again (writeRecord_watched body _) (freeSlots_committed body _ ?_)
  rw [takeCommitment_log]
  exact Nat.succ_pos _

theorem shiftRecorded_touches (s : State) : OnlyIn [.log, .logWatch, .alarms] s (shiftRecorded s) :=
  ((takeCommitment_touches s).mono (by decide)).then (writeRecord_touches _ _) (by decide)

theorem shiftRecorded_otherAlarms (s : State) : OtherAlarms [.logNearFull] s (shiftRecorded s) :=
  (takeCommitment_otherAlarms s).trans (writeRecord_otherAlarms _ _)

/-- R161: what follows the record leaves the log and its watch. -/
theorem closeShift_after (s : State) :
    OnlyIn [.machines, .accounts, .comps, .shift] (shiftRecorded s) (closeShift s) :=
  ((shiftTurned_touches (shiftRecorded s)).mono (by decide)).then (only_setShift _ _) (by decide)

/-- R148: the close takes the next number for its record, and leaves the commitments. -/
theorem closeShift_log (s : State) : (closeShift s).store.log = ⟨s.store.log.records ++
    [⟨s.store.log.nextSeq, false, s.store.shift.number, .shift (shiftRecord s)⟩],
    s.store.log.commitments, s.store.log.nextSeq + 1⟩ := by
  rw [closeShift_after s .log (by decide), shiftRecorded, writeRecord_committed_log _ rfl,
    takeCommitment_touches s .shift (by decide)]

theorem closeShift_watched (s : State) : LogWatched s (closeShift s) :=
  (writeRecord_takeCommitment_watched (.shift (shiftRecord s)) s).congr rfl rfl rfl rfl rfl rfl

theorem closeShift_kept (s : State) : (closeShift s).logWatch.kept = s.logWatch.kept :=
  (watchLog_kept _).trans (watchLog_kept _)

theorem closeShift_otherAlarms (s : State) : OtherAlarms [.logNearFull] s (closeShift s) :=
  (shiftRecorded_otherAlarms s).trans (closeShift_after s).otherAlarms

/-- R161: the next shift, with its number, its opening time and no fills. -/
theorem closeShift_shift (s : State) :
    (closeShift s).store.shift = ⟨min (s.store.shift.number + 1) 4294967295, s.clock, ⟨0, 0⟩⟩ := by
  have recorded := shiftRecorded_touches s
  have number : (shiftRecorded s).store.shift = s.store.shift := recorded .shift (by decide)
  have clock : (shiftRecorded s).clock = s.clock := recorded .clock (by decide)
  rw [← number, ← clock]
  rfl

theorem closeShift_comp (c : Comp) (s : State) : (closeShift s).comp c = (s.comp c).newShift :=
  (shiftTurned_comp (shiftRecorded s) c).trans (congrArg Compartment.newShift ((shiftRecorded_touches s).comp c))

theorem closeShift_machine (k : Nat) (s : State) :
    (closeShift s).machine k = (s.machine k).map MachineEntry.newShift :=
  (shiftTurned_machine (shiftRecorded s) k).trans
    (congrArg (Option.map MachineEntry.newShift) ((shiftRecorded_touches s).machine k))

theorem closeShift_account (k : Nat) (s : State) : (closeShift s).account k = (s.account k).map Account.newShift :=
  (shiftTurned_account (shiftRecorded s) k).trans
    (congrArg (Option.map Account.newShift) ((shiftRecorded_touches s).account k))

/-- R162: the record has the figures of each compartment. -/
theorem shiftRecord_figures (c : Comp) (s : State) :
    (shiftRecord s).figures.get c = shiftFigures (s.comp c) (s.store.shift.fills.get c) := by
  cases c <;> rfl

/-- Settles O52: the two requests are their owner's equations in the state that has heard them, and the tick moves
timers and the clock alone. -/
theorem clockAndShiftAdvance : Obligations.ClockAndShiftAdvance := by
  unfold Obligations.ClockAndShiftAdvance
  refine fun s => ⟨fun tag body n ready hp hn => ?_, fun hp => ?_, fun tag ready hb => ?_,
    fun tag ready hh hd => ⟨fun hc => ?_, fun hc => ?_⟩⟩
  · exact congrArg Host.Outcome.next (takeRequest_ok ready hp (ownClockSet_sets hn (heard s)))
  · obtain ⟨hoses, pumps⟩ := elapseTimers_states (advanceClock s)
    have only := elapseTimers_touches (advanceClock s)
    exact ⟨_, exec_siteClockTick hp, only .clock (by decide),
      ((only_setClock _ s).mono (by decide)).then only (by decide), hoses, pumps, rfl, rfl, rfl, rfl⟩
  · exact request_refused (parse := parseNone) ready rfl (ownShiftClose_busy (s := heard s)
      (hb.imp_left fun ⟨h, holds⟩ => ⟨h, HoseState.isHolding_of holds⟩))
  · exact request_refused (parse := parseNone) ready rfl (ownShiftClose_logFull (s := heard s) hh hd hc)
  · refine ⟨_, shiftRecord (heard s), congrArg Host.Outcome.next (takeRequest_ok (parse := parseNone) ready rfl
        (ownShiftClose_closes (s := heard s) hh hd hc)),
      (closeShift_touches (heard s)).ofRequest _, closeShift_log (heard s),
      (closeShift_watched (heard s)).congr rfl rfl rfl rfl rfl rfl, closeShift_kept (heard s),
      closeShift_otherAlarms (heard s), rfl, rfl, fun c => ?_, closeShift_shift (heard s),
      fun k => closeShift_machine k (heard s), fun k => closeShift_account k (heard s), rfl⟩
    rw [shiftRecord_figures]
    exact ⟨rfl, rfl, rfl, rfl, rfl, rfl, closeShift_comp c (heard s)⟩

end Sys2Proof.Machine
end

section
/-! PROOF. The laws of the metrology guard (O56) as laws that one change of the state keeps, and the changes of the
calibration, the guard, the inputs and the power (R165 to R170, R173, R174, R197). -/

namespace Sys2Proof.Machine

variable {s t u : State} {ps : List Part} {a b c : Calibration} {v : Inputs} {g : Guard}

/-! ## The audit trail (R170) -/

/-- R170: the trail holds the last 32 entries, numbered up to the audit counter, or all while there are fewer. -/
def Calibration.Numbered (c : Calibration) : Prop :=
  c.trail.map AuditEntry.number = List.range' (c.audits + 1 - min c.audits 32) (min c.audits 32)

theorem trailLaw_iff : TrailLaw s ↔ s.store.cal.Numbered := Iff.rfl

/-- The last 32 numbers up to `n`, once the next number is added at the newest end. -/
theorem range'_last_succ (n : Nat) :
    (List.range' (n + 1 - min n 32) (min n 32) ++ [n + 1]).drop (min n 32 + 1 - 32) =
      List.range' (n + 1 + 1 - min (n + 1) 32) (min (n + 1) 32) := by
  have joined : List.range' (n + 1 - min n 32) (min n 32) ++ [n + 1] =
      List.range' (n + 1 - min n 32) (min n 32 + 1) := by
    rw [List.range'_1_concat]
    congr 2
    omega
  rw [joined, List.drop_range']
  congr 1 <;> omega

theorem map_number_addToTrail (e : AuditEntry) (l : List AuditEntry) :
    (addToTrail e l).map AuditEntry.number =
      (l.map AuditEntry.number ++ [e.number]).drop ((l.map AuditEntry.number).length + 1 - 32) := by
  simp only [addToTrail, List.map_drop, List.map_append, List.map_cons, List.map_nil, List.length_map,
    Config.trailEntries]

/-- A change of the calibration that keeps the trail numbered, and under which the audit counter does not fall. -/
structure Calibration.Grows (a b : Calibration) : Prop where
  numbered : a.Numbered → b.Numbered
  audits : a.audits ≤ b.audits

theorem Calibration.Grows.refl (a : Calibration) : a.Grows a := ⟨id, le_rfl⟩

theorem Calibration.Grows.trans (x : a.Grows b) (y : b.Grows c) : a.Grows c :=
  ⟨fun n => y.numbered (x.numbered n), x.audits.trans y.audits⟩

/-- R173: the set and its check value have no part in the law. -/
theorem Calibration.Grows.of_set (set : CalSet) (a : Calibration) : a.Grows { a with set := set } := ⟨id, le_rfl⟩

/-- R169, R170: a write takes the next number, and its entry joins the trail at the newest end. -/
theorem Calibration.write_grows (item : CalItem) (x : CalValue) (now : Stamp) (a : Calibration) :
    a.Grows (a.write item x now) := by
  refine ⟨fun numbered => ?_, Nat.le_succ _⟩
  rw [Numbered] at numbered ⊢
  change (addToTrail _ a.trail).map AuditEntry.number = _
  rw [map_number_addToTrail, numbered, List.length_range']
  exact range'_last_succ a.audits

/-! ## What it means to keep the laws -/

/-- The laws of the guard hold after a change where they held before, and the audit counter has not fallen. -/
structure GuardKept (s t : State) : Prop where
  window : WindowLaw s → WindowLaw t
  cal : s.store.cal.Grows t.store.cal

theorem GuardKept.refl (s : State) : GuardKept s s := ⟨id, .refl _⟩

theorem GuardKept.trans (x : GuardKept s t) (y : GuardKept t u) : GuardKept s u :=
  ⟨fun w => y.window (x.window w), x.cal.trans y.cal⟩

theorem GuardKept.ite {p : Prop} [Decidable p] (x : p → GuardKept s t) (y : ¬ p → GuardKept s u) :
    GuardKept s (if p then t else u) := by
  split
  · exact x ‹_›
  · exact y ‹_›

/-- An event that is taken under a condition, and comes to nothing without it. -/
theorem GuardKept.when {p : Prop} [Decidable p] (x : p → GuardKept s t) : GuardKept s (if p then t else s) :=
  .ite x fun _ => .refl s

/-- A change that leaves the calibration. -/
theorem GuardKept.of_cal (hc : t.store.cal = s.store.cal) (hw : WindowLaw s → WindowLaw t) : GuardKept s t :=
  ⟨hw, hc ▸ .refl _⟩

/-- The parts that the laws do not look at: neither the calibration, nor the guard, the inputs or the power. -/
abbrev guardFreeParts : List Part :=
  [.machines, .queue, .accounts, .hoseConfigs, .txs, .pumpConfigs, .comps, .delivery, .selector, .log, .shift, .site,
    .clock, .channels, .hoses, .meters, .sources, .pumps, .units, .inlet, .logWatch, .park, .link, .alarms, .handed,
    .draws, .pending, .line]

/-- A change of the guard that opens no window, but for the parts that the laws do not look at. -/
theorem GuardKept.of_window (ho : OnlyIn ps s t) (hw : t.guard.windowOpen = true → s.guard.windowOpen = true)
    (hp : ps ⊆ .guard :: guardFreeParts := by decide) : GuardKept s t := by
  have ho := ho.mono hp
  refine .of_cal (ho .cal (by decide)) fun law on opened => ?_
  rw [ho .power (by decide)] at on
  rw [ho .inputs (by decide)]
  exact law on (hw opened)

/-- A change within the parts that the laws do not look at. -/
theorem OnlyIn.guardKept (ho : OnlyIn ps s t) (hp : ps ⊆ guardFreeParts := by decide) : GuardKept s t :=
  .of_window (ho.mono hp) (by rw [(ho.mono hp) .guard (by decide)]; exact id)

theorem GuardKept.then (x : GuardKept s t) (ho : OnlyIn ps t u) (hp : ps ⊆ guardFreeParts := by decide) :
    GuardKept s u := x.trans (ho.guardKept hp)

theorem carries_guardKept : Carries GuardKept := ⟨GuardKept.trans, fun ho => ho.guardKept⟩

/-! ## The window (R165 to R167) -/

theorem windowOpen_iff : g.windowOpen = true ↔ g.window ≠ .stopped := decide_eq_true_iff

theorem windowOpen_of_stopped (hg : g.window = .stopped) : g.windowOpen = false := by
  simp [Guard.windowOpen, hg]

theorem windowOpen_of_ne (hg : g.window ≠ .stopped) : g.windowOpen = true := windowOpen_iff.mpr hg

theorem windowLaw_of_stopped (hw : t.guard.window = .stopped) : WindowLaw t := fun _ opened =>
  absurd hw (windowOpen_iff.mp opened)

theorem windowLaw_of_not_on (hp : t.power ≠ .on) : WindowLaw t := fun on => absurd on hp

theorem closeWindow_guardKept (s : State) : GuardKept s (closeWindow s) :=
  .of_cal rfl fun _ => windowLaw_of_stopped rfl

/-- R158: a tick of the clock neither opens the window nor closes it. -/
theorem windowOpen_elapse (g : Guard) : g.elapse.windowOpen = g.windowOpen := by
  obtain ⟨fault, window, check⟩ := g
  cases window <;> rfl

theorem elapseTimers_guard (s : State) : (elapseTimers s).guard = s.guard.elapse := by simp [elapseTimers]

theorem elapseTimers_guardKept (s : State) : GuardKept s (elapseTimers s) :=
  .of_window (elapseTimers_touches s) (by rw [elapseTimers_guard, windowOpen_elapse]; exact id)

/-! ## The inputs (R165) -/

/-- A level of the inputs under which the seal has not closed. -/
theorem setInputs_guardKept (hv : s.inputs.sealOpen = true → v.sealOpen = true) : GuardKept s (s.setInputs v) :=
  .of_cal rfl fun law on opened => hv (law on opened)

/-- A discrete input that does not close the seal changes its level; a part that runs takes the change as an event. -/
theorem GuardKept.input {p q : Prop} [Decidable p] [Decidable q] (hv : s.inputs.sealOpen = true → v.sealOpen = true)
    (x : GuardKept (s.setInputs v) t) : GuardKept s (if p then s else if q then t else s.setInputs v) :=
  have level : GuardKept s (s.setInputs v) := setInputs_guardKept hv
  .ite (fun _ => .refl s) fun _ => .ite (fun _ => level.trans x) fun _ => level

/-- R165, R167: the seal's closing ends the window at a part that runs; a part that does not run has none. -/
theorem sealSwitchClosed_guardKept (s : State) :
    GuardKept s (if !s.inputs.sealOpen then s else if s.live then closeWindow (setSeal false s) else setSeal false s) :=
  .ite (fun _ => .refl s) fun _ => .ite (fun _ => .of_cal rfl fun _ => windowLaw_of_stopped rfl) fun hl =>
    .of_cal rfl fun _ => windowLaw_of_not_on (not_on_of_not_live hl)

/-! ## The integrity check (R173, R174) -/

/-- R174: the entry into FAULT is all that a check changes in the guard. -/
theorem enterFault_guard (s : State) : (enterFault s).guard = { s.guard with fault := true } :=
  (strikeAll_touches _ _ _ _) .guard (by decide)

theorem integrityCheck_window (s : State) : (integrityCheck s).guard.window = s.guard.window := by
  unfold integrityCheck
  split
  · rfl
  · rw [enterFault_guard]

theorem integrityCheck_guardKept (s : State) : GuardKept s (integrityCheck s) :=
  .of_window (integrityCheck_touches s) (by rw [windowOpen_iff, windowOpen_iff, integrityCheck_window]; exact id)

/-! ## Start-up, RESTART and the loss of power (R19, R173, R197) -/

/-- R173: start-up leaves the calibration as stored, with the window CLOSED. -/
theorem startUpAt_guardKept (clock : Stamp) (s : State) : GuardKept s (startUpAt clock s) :=
  .of_cal ((startUpAt_touches clock s) .cal (by decide)) fun _ =>
    windowLaw_of_stopped (by rw [startUpAt_guard]; rfl)

theorem losePower_guardKept (s : State) : GuardKept s (losePower s) :=
  .of_cal rfl fun _ => windowLaw_of_not_on (t := losePower s) nofun

theorem endReply_guardKept (s : State) : GuardKept s (endReply s) :=
  .ite (fun _ => startUpAt_guardKept _ s) fun _ => (only_setLink _ s).guardKept

/-! ## The owners of the guard's requests (R166 to R169) -/

theorem ownRestart_guardKept (s : State) : Takes GuardKept s (ownRestart () s) :=
  .ite (fun _ => .ok (.of_cal rfl fun _ => windowLaw_of_not_on (t := s.setPower .restarting) nofun)) fun _ => .error

/-- R166: the window opens under an OPEN seal alone. -/
theorem ownCalOpen_guardKept (s : State) : Takes GuardKept s (ownCalOpen () s) := by
  refine .ite (fun _ => .error) fun hs => ?_
  have opened : s.inputs.sealOpen = true := by simpa using hs
  exact .ok (.of_cal rfl fun _ _ _ => opened)

theorem ownCalClose_guardKept (s : State) : Takes GuardKept s (ownCalClose () s) :=
  .ite (fun _ => .error) fun _ => .ok (closeWindow_guardKept s)

/-- R168: the first check of CAL WRITE passes within the window alone. -/
theorem windowOpen_of_calWriteBar (hb : calWriteBar s = none) : s.guard.windowOpen = true := by
  cases hw : s.guard.windowOpen with
  | true => rfl
  | false =>
    rw [calWriteBar, hw] at hb
    cases hb

/-- R169: within the window a write leaves it OPEN, and adds one entry to the trail. -/
theorem writeItem_guardKept (hw : s.guard.windowOpen = true) (item : CalItem) (x : CalValue) :
    GuardKept s (writeItem item x s) := by
  have base : GuardKept s ((s.setCal (s.store.cal.write item x s.now)).setGuard
      { s.guard with fault := false, window := .running Config.windowTime }) :=
    ⟨fun law on _ => law on hw, Calibration.write_grows item x s.now _⟩
  cases item with
  | alpha c => exact base.then (setStale_touches c _)
  | meter | offset => exact base

theorem ownCalWrite_guardKept (o : Option (CalItem × CalValue)) (s : State) :
    Takes GuardKept s (ownCalWrite o s) := by
  obtain ⟨r, -, he⟩ | ⟨-, -, he⟩ | ⟨item, x, hb, -, ⟨-, he⟩ | ⟨-, -, he⟩ | ⟨-, -, fields, he⟩⟩ :=
    ownCalWrite_cases o s <;> rw [he]
  case inr.inr.inr.inr => exact .ok (writeItem_guardKept (windowOpen_of_calWriteBar hb) item x)
  all_goals exact .error

end Sys2Proof.Machine
end

section
/-! PROOF. The frames of the hoses' events and of the owners that change hoses or deliveries (R58 to R70, R83 to R87,
R98, R99, R107, R112, R134, R141, R142): the parts in which the state that each leaves can differ. -/

namespace Sys2Proof.Machine

variable {s : State}

/-! ## Events -/

theorem hangHose_touches (h : Hose) (s : State) : OnlyIn (.channels :: strikeParts) s (hangHose h s) := by
  have off {ps : List Part} {u : State} (ho : OnlyIn ps s u) (hp : ps ⊆ .channels :: strikeParts := by decide) :
      OnlyIn (.channels :: strikeParts) s (channelOff h u) := (ho.mono hp).then (channelOff_touches h u) (by decide)
  unfold hangHose
  split
  · exact off (idleHose_touches h s)
  · exact off (idleHose_touches h s)
  · exact off (stopFill_touches h _ s)
  · exact off (stopFill_touches h _ s)
  · exact off (.refl [] s)
  · exact off (moveHose_touches h _ s)
  · exact off (moveHose_touches h _ s)
  all_goals exact .refl _ s

theorem stopHose_touches (h : Hose) (s : State) : OnlyIn strikeParts s (stopHose h s) := by
  unfold stopHose
  split
  · exact (refuseHose_touches h _ s).mono (by decide)
  · exact (refuseHose_touches h _ s).mono (by decide)
  · exact (stopFill_touches h _ s).mono (by decide)
  · exact (stopFill_touches h _ s).mono (by decide)
  all_goals exact .refl _ s

theorem takeConfirmed_touches (h : Hose) (id : TagId) (s : State) : OnlyIn grantParts s (takeConfirmed h id s) := by
  unfold takeConfirmed
  split
  · exact lookup_touches h id s
  · unfold confirmPaused
    split
    · exact .refl _ s
    · exact .ite (.refl _ s) (.ite ((resumeFill_touches h _ s).mono (by decide))
        ((stopFill_touches h _ s).mono (by decide)))
  all_goals exact .refl _ s

theorem takeLost_touches (h : Hose) (s : State) : OnlyIn stopParts s (takeLost h s) :=
  .ite (.ite (stopFill_touches h _ s) (pauseFill_touches h s)) (.refl _ s)

theorem emergencyStop_touches (s : State) :
    OnlyIn (.park :: .handed :: .delivery :: .inlet :: .alarms :: strikeParts) s (emergencyStop s) :=
  (((((((disturbPark_touches _ _ s).mono (by decide)).then (evalPump_touches _ _) (by decide)).then
    (evalPump_touches _ _) (by decide)).then (strikeAll_touches _ _ _ _) (by decide)).then
    (closeInlet_touches _ _) (by decide)).then (raiseAlarm_touches _ _) (by decide)).then
    ((evalRest_touches _ _).trans (evalRest_touches _ _)) (by decide)

theorem endDrain_touches (cut : Bool) (s : State) :
    OnlyIn [.delivery, .inlet, .units, .meters, .comps, .alarms] s (endDrain cut s) := by
  unfold endDrain
  split
  · exact .refl _ s
  · split
    · exact endDeliveryDrain_touches _ s
    all_goals exact .refl _ s

theorem closeDelivery_touches (d : Delivery) (s : State) :
    OnlyIn [.delivery, .inlet, .units, .handed, .log, .logWatch, .alarms] s (closeDelivery d s) := by
  unfold closeDelivery
  split
  · exact ((cancelRequest_touches _ _ s).mono (by decide)).then (cancelDelivery_touches _) (by decide)
  · exact (closeInlet_touches _ s).mono (by decide)
  all_goals exact .refl _ s

/-! ## Owners -/

theorem ownApprove_frame (o : Nat × Option Int) (s : State) : Takes (OnlyIn grantParts) s (ownApprove o s) := by
  unfold ownApprove
  split
  · exact .error
  · refine .ite (fun _ => .error) fun _ => ?_
    split
    · exact .ok (grant_touches _ s)
    all_goals exact .error

theorem ownDecline_frame (n : Nat) (s : State) :
    Takes (OnlyIn [.hoses, .machines, .queue]) s (ownDecline n s) := by
  unfold ownDecline
  split
  · exact .error
  · exact .ite (fun _ => .ok (refuseHose_touches _ _ s)) fun _ => .error

theorem ownAuthorise_frame (o : Nat × Nat × Option Int) (s : State) :
    Takes (OnlyIn grantParts) s (ownAuthorise o s) := by
  unfold ownAuthorise
  split
  · exact .error
  · refine .ite (fun _ => .error) fun _ => .ite (fun _ => .error) fun _ => .ite (fun _ => .error) fun _ => ?_
    split
    · exact .error
    · exact .ok (authorise_touches _ _ _ _ s)

theorem ownHoseStatus_frame (n : Nat) (s : State) : Takes (OnlyIn [.hoses]) s (ownHoseStatus n s) := by
  unfold ownHoseStatus
  split
  · exact .error
  · exact .ok (only_setHoses _ s)

theorem ownStop_frame (n : Nat) (s : State) : Takes (OnlyIn strikeParts) s (ownStop n s) := by
  unfold ownStop
  split
  · exact .error
  · exact .ite (fun _ => .error) fun _ => .ok (stopHose_touches _ s)

theorem ownHoseEnable_frame (n : Nat) (s : State) : Takes (OnlyIn [.hoses, .hoseConfigs]) s (ownHoseEnable n s) := by
  unfold ownHoseEnable
  split
  · exact .error
  · exact .ok (hoseEnabled_touches _ s)

theorem ownHoseDisable_frame (n : Nat) (s : State) :
    Takes (OnlyIn [.hoses, .channels, .hoseConfigs]) s (ownHoseDisable n s) := by
  unfold ownHoseDisable
  split
  · exact .error
  · exact .ite (fun _ => .error) fun _ => .ok (hoseDisabled_touches _ s)

theorem ownDeliveryOpen_frame (o : Nat × Text × Option Int) (s : State) :
    Takes (OnlyIn [.delivery, .selector, .units, .log, .logWatch, .alarms]) s (ownDeliveryOpen o s) := by
  unfold ownDeliveryOpen
  split
  · exact .error
  · exact .ite (fun _ => .error) fun _ => .ite (fun _ => .error) fun _ => .ite (fun _ => .error) fun _ =>
      .ite (fun _ => .error) fun _ => .ok ((openDelivery_touches _ _ _ s).mono (by decide))

theorem ownDeliveryClose_frame (s : State) :
    Takes (OnlyIn [.delivery, .inlet, .units, .handed, .log, .logWatch, .alarms]) s (ownDeliveryClose () s) := by
  unfold ownDeliveryClose
  split
  · exact .error
  · exact .ok (closeDelivery_touches _ s)

end Sys2Proof.Machine
end

section
/-! PROOF. The laws of the metrology guard over every command and every step, and O56. -/

namespace Sys2Proof.Machine

variable {s t : State} {ps : List Part}

/-- An event that a part takes under a condition, within the parts that the laws do not look at. -/
theorem leads_guardFree_when {p : Prop} [Decidable p] (ho : OnlyIn ps s t) (hp : ps ⊆ guardFreeParts := by decide) :
    Leads GuardKept s (.next (if p then t else s)) := .next (.when fun _ => ho.guardKept hp)

theorem exec_guardKept (i : Instr) (s : State) : Leads GuardKept s (exec i s) := by
  have request {α : Type} {tag : SeqTag} {code : Nat} {parse : List Septet → Option α} {body : List Septet}
      {owner : α → State → Owned} (ho : ∀ a u, Takes GuardKept u (owner a u)) :
      Leads GuardKept s (.next (takeRequest tag code parse body owner s)) :=
    .next (carries_guardKept.takeRequest ho)
  have framed {α : Type} {tag : SeqTag} {code : Nat} {parse : List Septet → Option α} {body : List Septet}
      {owner : α → State → Owned} {ps : List Part} (ho : ∀ a u, Takes (OnlyIn ps) u (owner a u))
      (hp : ps ⊆ guardFreeParts := by decide) :
      Leads GuardKept s (.next (takeRequest tag code parse body owner s)) :=
    request fun a u => (ho a u).mono fun _ h => h.guardKept hp
  have taken (e : Handed) : GuardKept s (takeHanded e s) := (takeHanded_touches e s).guardKept
  cases i with
  | siteStatus | settingsRead | equipmentStatus | deliveryStatus | logStatus | parkStatus =>
    exact framed fun _ _ => Takes.read
  | alarms => exact framed fun _ u => .ok (only_setAlarms _ u)
  | linkCounters => exact framed fun _ u => .ok (only_setLink _ u)
  | settingsWrite => exact framed ownSettingsWrite_frame
  | restart => exact request fun _ u => ownRestart_guardKept u
  | tagChannelRead => exact framed ownTagChannelRead_frame
  | machineRead => exact framed ownMachineRead_frame
  | machineWrite => exact framed ownMachineWrite_frame
  | machineDelete => exact framed ownMachineDelete_frame
  | machineFind => exact framed ownMachineFind_frame
  | machineList => exact framed ownMachineList_frame
  | accountRead => exact framed ownAccountRead_frame
  | accountWrite => exact framed ownAccountWrite_frame
  | accountDelete => exact framed ownAccountDelete_frame
  | approve => exact framed ownApprove_frame
  | decline => exact framed ownDecline_frame
  | authorise => exact framed ownAuthorise_frame
  | hoseStatus => exact framed ownHoseStatus_frame
  | stop => exact framed ownStop_frame
  | hoseEnable => exact framed ownHoseEnable_frame
  | hoseDisable => exact framed ownHoseDisable_frame
  | hoseSettingsRead => exact framed ownHoseSettingsRead_frame
  | hoseSettingsWrite => exact framed ownHoseSettingsWrite_frame
  | pumpSettingsRead => exact framed ownPumpSettingsRead_frame
  | pumpSettingsWrite => exact framed ownPumpSettingsWrite_frame
  | inhibitClear => exact framed ownInhibitClear_frame
  | stockStatus => exact framed ownStockStatus_frame
  | tankSetupRead => exact framed ownTankSetupRead_frame
  | tankSetupWrite => exact framed ownTankSetupWrite_frame
  | strappingRead => exact framed ownStrappingRead_frame
  | strappingWrite =>
    exact .next (carries_guardKept.takeFrame fun _ => carries_guardKept.handleLast fun o u =>
      (ownStrappingWrite_frame o u).mono fun _ h => h.guardKept)
  | strappingWritePart =>
    exact .next (carries_guardKept.takeFrame fun u => (handlePart_touches _ _ _ _ u).guardKept)
  | gauge => exact framed ownGauge_frame
  | gaugeRead => exact framed ownGaugeRead_frame
  | bookAdjust => exact framed ownBookAdjust_frame
  | deliveryOpen => exact framed ownDeliveryOpen_frame
  | deliveryClose => exact framed fun _ u => ownDeliveryClose_frame u
  | logRead => exact framed ownLogRead_frame
  | logConfirm => exact framed ownLogConfirm_frame
  | logRewind => exact framed fun _ u => ownLogRewind_frame u
  | clockSet => exact framed ownClockSet_frame
  | shiftClose => exact framed fun _ u => ownShiftClose_frame u
  | shiftTotals => exact framed ownShiftTotals_frame
  | calRead => exact framed ownCalRead_frame
  | calOpen => exact request fun _ u => ownCalOpen_guardKept u
  | calWrite => exact request ownCalWrite_guardKept
  | calClose => exact request fun _ u => ownCalClose_guardKept u
  | auditRead => exact framed ownAuditRead_frame
  | park => exact framed fun _ u => ownPark_frame u
  | unknown =>
    exact .next (carries_guardKept.takeFrame fun u => carries_guardKept.trans (carries_guardKept.link _ u)
      (carries_guardKept.link _ _))
  | check tag code => exact leads_guardFree_when (takeBadCheck_touches tag code s)
  | overlap | byteError => exact leads_guardFree_when ((only_setLink _ s).trans (only_setLink _ _))
  | brokenFrame kind => exact leads_guardFree_when (takeBroken_touches kind s)
  | waking => exact .next (.when fun _ => carries_guardKept.takeFrame fun u => .refl u)
  | nozzleLift h => exact .next (.input id ((disturbPark_touches _ _ _).guardKept.then (liftHose_touches h _)))
  | nozzleHang h => exact .next (.input id (hangHose_touches h _).guardKept)
  | meterPulse m =>
    refine .next (.when fun _ => ?_)
    cases m with
    | m1 | m2 | m3 => exact (hosePulse_touches _ s).guardKept
    | m4 => exact (inletPulse_touches s).guardKept
  | tempReading p r => exact leads_guardFree_when (takeReading_touches p r s)
  | tempFaultIndication p => exact leads_guardFree_when (takeFault_touches p s)
  | levelReading c level =>
    exact .next (.when fun _ => ((setLevel_touches c _ s).guardKept.then (offerLevel_touches c _)).then
      (sampleRun_touches c level _))
  | levelFaultIndication c =>
    exact .next (.when fun _ => ((setLevel_touches c _ s).guardKept.then (offerLevel_touches c _)).then
      (faultRun_touches c _))
  | valid h id => exact leads_guardFree_when (takeValid_touches h id s)
  | inverted h => exact leads_guardFree_when (takeInverted_touches h s)
  | checkBad h | badStart h => exact leads_guardFree_when (onChannel_touches h _ s)
  | confirmed h id => exact .next (.when fun _ => (taken _).then (takeConfirmed_touches h id _))
  | lost h => exact .next (.when fun _ => (taken _).then (takeLost_touches h _))
  | changed h => exact .next (.when fun _ => (taken _).trans (.when fun _ => (stopFill_touches h _ _).guardKept))
  | emergencyStopActive => exact .next (.input id (emergencyStop_touches _).guardKept)
  | emergencyStopInactive => exact .next (.input id ((evalPump_touches _ _).guardKept.then (evalPump_touches _ _)))
  | overfillSwitchActive c =>
    exact .next (.input id ((raiseAlarm_touches _ _).guardKept.then (overfillDelivery_touches c _)))
  | overfillSwitchInactive => exact .next (setInputs_guardKept id)
  | sealSwitchOpen => exact .next (.input (fun _ => rfl) (raiseAlarm_touches _ _).guardKept)
  | sealSwitchClosed => exact .next (sealSwitchClosed_guardKept s)
  | storeDisturbance set => exact .next ⟨id, .of_set set _⟩
  | startUp => exact .next (startUpAt_guardKept _ s)
  | intervalEnd m =>
    exact .next (.when fun _ => (endInterval_touches m s).guardKept.then (recomputeVcf_touches m _))
  | sourceHoldTimerExpiry p => exact leads_guardFree_when (enterDefault_touches p s)
  | channelHoldTimerExpiry h =>
    exact .next (.when fun _ => (only_setChannels _ s).guardKept.then (report_touches h _ _))
  | identifyTimerExpiry h | approvalTimerExpiry h => exact leads_guardFree_when (refuseHose_touches h _ s)
  | noFlowTimerExpiry h | resumeGraceTimerExpiry h => exact leads_guardFree_when (stopFill_touches h _ s)
  | hoseDrainQuietExpiry h => exact leads_guardFree_when (closeFill_touches h s)
  | hoseDrainCapExpiry h => exact .next (.when fun _ => (cutDrain_touches h s).guardKept.then (closeFill_touches h _))
  | deliveryDrainQuietExpiry => exact leads_guardFree_when (endDrain_touches false s)
  | deliveryDrainCapExpiry => exact leads_guardFree_when (endDrain_touches true s)
  | maxRunReached c => exact leads_guardFree_when (guardPump_touches c s)
  | restTimerExpiry => exact leads_guardFree_when (only_setPumps _ s)
  | windowTimerExpiry => exact .next (.when fun _ => closeWindow_guardKept s)
  | checkTimerExpiry =>
    have restarted : GuardKept s (s.setGuard { s.guard with check := .running Config.checkTime }) :=
      .of_window (only_setGuard _ s) id
    exact .next (.when fun _ => restarted.trans (integrityCheck_guardKept _))
  | watchdogExpiry order => exact .next (.when fun _ => (only_setLink _ s).guardKept.then (dropLinks_touches _ _))
  | watchTimerExpiry =>
    exact .next (.when fun _ => ((only_setPark _ s).guardKept.then (requestWatch_touches _ _)).then
      (requestWatch_touches _ _))
  | confirmTimerExpiry => exact leads_guardFree_when (only_setPark _ s)
  | siteClockTick =>
    have clock : GuardKept s (advanceClock s) := (only_setClock _ s).guardKept
    exact .next (.ite (fun _ => clock.trans (elapseTimers_guardKept _)) fun _ => .when fun _ => clock)
  | preGaugeResult c r => exact .next (.when fun _ => (taken _).then (takePreGauge_touches c r _))
  | postGaugeResult c r => exact .next (.when fun _ => (taken _).then (takePostGauge_touches c r _))
  | parkBaselineResult c r =>
    exact .next (.when fun _ => (taken _).trans (.when fun _ => (takeBaseline_touches c r _).guardKept))
  | parkWatchResult c r => exact .next (.when fun _ => (taken _).then (takeWatch_touches c r _))
  | answerSent => exact .next (.when fun _ => endReply_guardKept s)
  | lossOfPower => exact .next (losePower_guardKept s)

/-- A step keeps the laws of the guard, and the audit counter does not fall. -/
theorem step_guardKept (hs : step s = .next t) : GuardKept s t :=
  Followed.step { carries_guardKept with queues := fun ho => ho.guardKept, exec := exec_guardKept } hs

/-- Settles O56: every command keeps the two laws, by `exec_guardKept`, and so does every step. -/
theorem metrologyKeepsItsLaws : Obligations.MetrologyKeepsItsLaws := by
  unfold Obligations.MetrologyKeepsItsLaws
  intro s t hs
  have kept := step_guardKept hs
  exact ⟨kept.window, fun trail => trailLaw_iff.mpr (kept.cal.numbered (trailLaw_iff.mp trail)), kept.cal.audits⟩

end Sys2Proof.Machine
end

section
/-! PROOF. The seal switch (R165, R167, R197): its changes at a part that runs and at one that restarts, and its level
as a start-up takes it. -/

namespace Sys2Proof.Machine

variable {s : State} {clock : Stamp}

/-! ## A change of the level (R165, R167) -/

theorem exec_sealSwitchOpen_on (hp : s.power = .on) (hs : s.inputs.sealOpen = false) :
    exec .sealSwitchOpen s = .next (raiseAlarm .sealOpen (setSeal true s)) :=
  congrArg Host.Outcome.next ((if_neg (by simp [hs])).trans (if_pos (live_of_on hp)))

theorem exec_sealSwitchClosed_on (hp : s.power = .on) (hs : s.inputs.sealOpen = true) :
    exec .sealSwitchClosed s = .next (closeWindow (setSeal false s)) :=
  congrArg Host.Outcome.next ((if_neg (by simp [hs])).trans (if_pos (live_of_on hp)))

theorem setSeal_same (s : State) : setSeal s.inputs.sealOpen s = s := rfl

/-- R197: at a part that does not run a change of the seal is the level alone. -/
theorem exec_sealSwitch_not_on (hp : s.power ≠ .on) :
    exec .sealSwitchOpen s = .next (setSeal true s) ∧ exec .sealSwitchClosed s = .next (setSeal false s) := by
  have still : ¬ s.live = true := mt of_decide_eq_true hp
  cases hs : s.inputs.sealOpen with
  | true =>
    have same : setSeal true s = s := hs ▸ setSeal_same s
    refine ⟨congrArg Host.Outcome.next ((if_pos hs).trans same.symm), ?_⟩
    exact congrArg Host.Outcome.next ((if_neg (by simp [hs])).trans (if_neg still))
  | false =>
    have same : setSeal false s = s := hs ▸ setSeal_same s
    refine ⟨congrArg Host.Outcome.next ((if_neg (by simp [hs])).trans (if_neg still)), ?_⟩
    exact congrArg Host.Outcome.next ((if_pos (by simp [hs])).trans same.symm)

/-- R167: the closing leaves a guard whose window is CLOSED as it is. -/
theorem closeWindow_guard_of_closed (hw : s.guard.windowOpen = false) : (closeWindow s).guard = s.guard := by
  have stopped : s.guard.window = .stopped := by simpa [Guard.windowOpen] using hw
  change { s.guard with window := .stopped } = s.guard
  rw [← stopped]

theorem raisedRow_eq (now : Stamp) (r : Option AlarmRow) : raisedRow now r =
    match r with
    | none => { count := 1, first := now }
    | some r => { count := min (r.count + 1) 255, first := r.first } := by
  cases r <;> rfl

/-! ## The level that a start-up takes (R165, R192, R197) -/

/-- The alarm table into which the input levels are taken, up to the seal's. -/
def inputsBeforeSeal (s : State) : State :=
  raiseIf s.inputs.overfill.c2 (.overfill .c2)
    (raiseIf s.inputs.overfill.c1 (.overfill .c1) (raiseIf s.inputs.emergency .emergency s))

theorem takeInputs_eq (s : State) : takeInputs s = raiseIf s.inputs.sealOpen .sealOpen (inputsBeforeSeal s) := rfl

theorem inputsBeforeSeal_otherAlarms (s : State) :
    OtherAlarms [.emergency, .overfill .c1, .overfill .c2] s (inputsBeforeSeal s) :=
  (((raiseIf_otherAlarms _ _ _).mono (by decide)).trans ((raiseIf_otherAlarms _ _ _).mono (by decide))).trans
    ((raiseIf_otherAlarms _ _ _).mono (by decide))

theorem inputsBeforeSeal_touches (s : State) : OnlyIn [.alarms] s (inputsBeforeSeal s) :=
  ((raiseIf_touches _ _ _).trans (raiseIf_touches _ _ _)).trans (raiseIf_touches _ _ _)

/-- R165: an OPEN seal raises SEAL_OPEN on a table that does not have it, and a CLOSED one leaves it without. -/
theorem takeInputs_sealRow (hn : tableFind s.alarms Alarm.sealOpen.row = none) :
    tableFind (takeInputs s).alarms Alarm.sealOpen.row =
      if s.inputs.sealOpen then some { count := 1, first := s.clock } else none := by
  have before : tableFind (inputsBeforeSeal s).alarms Alarm.sealOpen.row = none :=
    (inputsBeforeSeal_otherAlarms s _ (by decide)).trans hn
  have clock : (inputsBeforeSeal s).clock = s.clock := (inputsBeforeSeal_touches s) .clock (by decide)
  rw [takeInputs_eq]
  cases s.inputs.sealOpen with
  | true => exact (find_raiseAlarm_self _ _).trans (by rw [before, clock]; rfl)
  | false => exact before

/-- The state of a start-up that takes the input levels. -/
def beforeInputs (clock : Stamp) (s : State) : State := watchStocks (integrityCheck (staled (closedFrom clock s)))

theorem startUpAt_takes_inputs (clock : Stamp) (s : State) :
    startUpAt clock s = takeInputs (beforeInputs clock s) := rfl

theorem beforeInputs_touches (clock : Stamp) (s : State) :
    OnlyIn (.queue :: .hoses :: .guard :: closeParts) (closesFrom clock s) (beforeInputs clock s) :=
  ((((closedFrom_touches clock s).mono (by decide)).then (staled_touches _) (by decide)).then
    (integrityCheck_staled_touches (closedFrom_no_fault clock s)) (by decide)).then (watchStocks_touches _) (by decide)

/-- R192: the alarm table is cleared, and up to the inputs the watches and the integrity check alone raise alarms. -/
theorem beforeInputs_sealRow (clock : Stamp) (s : State) :
    tableFind (beforeInputs clock s).alarms Alarm.sealOpen.row = none := by
  have closes := (closedFrom_watchedOnly clock s).alarms
  have check := integrityCheck_staled_otherAlarms (closedFrom_no_fault clock s)
  calc tableFind (beforeInputs clock s).alarms Alarm.sealOpen.row
      = tableFind (integrityCheck (staled (closedFrom clock s))).alarms Alarm.sealOpen.row :=
        (watchStocks_watchedOnly _).alarms _ (by decide)
    _ = tableFind (staled (closedFrom clock s)).alarms Alarm.sealOpen.row := check _ (by decide)
    _ = tableFind (closedFrom clock s).alarms Alarm.sealOpen.row := (staled_watchedOnly _).alarms _ (by decide)
    _ = tableFind (closesFrom clock s).alarms Alarm.sealOpen.row := closes _ (by decide)
    _ = none := rfl

/-- R165: a start-up takes the level of the seal as it stands, with the window CLOSED. -/
theorem startUpAt_seal (clock : Stamp) (s : State) :
    (startUpAt clock s).guard.windowOpen = false ∧ tableFind (startUpAt clock s).alarms Alarm.sealOpen.row =
      if s.inputs.sealOpen then some { count := 1, first := clock } else none := by
  have before := beforeInputs_touches clock s
  have inputs : (beforeInputs clock s).inputs = s.inputs := before .inputs (by decide)
  have now : (beforeInputs clock s).clock = clock := before .clock (by decide)
  refine ⟨windowOpen_of_stopped (by rw [startUpAt_guard]; rfl), ?_⟩
  rw [startUpAt_takes_inputs, takeInputs_sealRow (beforeInputs_sealRow clock s), inputs, now]

theorem exec_answerSent_restarting {r : Reply} (hp : s.power = .restarting) (hr : s.link.sending = some r) :
    exec .answerSent s = .next (startUpAt s.clock s) := by
  have taken : (s.powered && s.link.sending.isSome) = true := by simp [State.powered, hp, hr]
  exact congrArg Host.Outcome.next ((if_pos taken).trans (if_pos hp))

/-- Settles O17: a running part takes a change as `exec_sealSwitchOpen_on` and `exec_sealSwitchClosed_on` say, one that
restarts as a level alone, and what a start-up makes of the level is `startUpAt_seal`. -/
theorem sealSwitchIsWatched : Obligations.SealSwitchIsWatched := by
  unfold Obligations.SealSwitchIsWatched
  refine ⟨fun s hp => ⟨fun hs => ?_, fun hs => ?_⟩, fun s => ⟨fun hp => ?_, ?_⟩⟩
  · exact ⟨_, exec_sealSwitchOpen_on hp hs,
      ((only_setInputs _ s).mono (by decide)).then (raiseAlarm_touches _ _) (by decide), rfl,
      fun k hk => find_raiseAlarm_ne hk (setSeal true s),
      (find_raiseAlarm_self .sealOpen (setSeal true s)).trans (congrArg some (raisedRow_eq _ _))⟩
  · exact ⟨_, exec_sealSwitchClosed_on hp hs,
      ((only_setInputs _ s).mono (by decide)).then (only_setGuard _ _) (by decide), rfl, rfl,
      closeWindow_guard_of_closed (s := setSeal false s)⟩
  · obtain ⟨opens, closes⟩ := exec_sealSwitch_not_on (s := s) (by rw [hp]; nofun)
    exact ⟨opens, closes, fun r hr => ⟨_, exec_answerSent_restarting hp hr, startUpAt_seal s.clock s⟩⟩
  · exact ⟨_, exec_startUp s, startUpAt_seal _ s⟩

end Sys2Proof.Machine
end

section
/-! PROOF. The integrity check (R173, R174): a store disturbance, and what the check finds at its timer's expiry. -/

namespace Sys2Proof.Machine

variable {s : State} {h : Hose}

/-- R173: the check timer restarted at its expiry. -/
def checkRestarted (s : State) : State := s.setGuard { s.guard with check := .running 60 }

theorem exec_checkTimerExpiry {n : Nat} (hp : s.power = .on) (hn : s.guard.check = .running n) :
    exec .checkTimerExpiry s = .next (integrityCheck (checkRestarted s)) := by
  have taken : (s.live && s.guard.check.isRunning) = true := by rw [live_of_on hp, hn]; rfl
  exact congrArg Host.Outcome.next (if_pos taken)

/-- R173: a check in FAULT, or one whose value matches, changes nothing. -/
theorem integrityCheck_passes
    (hm : s.guard.fault = true ∨ Config.checkFunction s.store.cal.set = s.store.cal.check) :
    integrityCheck s = s :=
  if_pos (by simpa [checkMatches] using hm)

/-- R173, R174: a mismatch found in GOOD enters FAULT. -/
theorem integrityCheck_fails (hg : s.guard.fault = false)
    (hm : Config.checkFunction s.store.cal.set ≠ s.store.cal.check) : integrityCheck s = enterFault s :=
  if_neg (by simp [checkMatches, hg, hm])

/-! ## The entry into FAULT (R174) -/

/-- R174: FAULT entered and its alarm raised, before the hoses are reached. -/
def faultRaised (s : State) : State := raiseAlarm .metrologyFault (s.setGuard { s.guard with fault := true })

theorem enterFault_eq (s : State) :
    enterFault s = strikeAll .metrology .metrology allHoses (faultRaised s) := rfl

theorem enterFault_alarms (s : State) : (enterFault s).alarms = (raiseAlarm .metrologyFault s).alarms := by
  rw [enterFault_eq, (strikeAll_touches _ _ _ _) .alarms (by decide)]
  exact raiseAlarm_alarms _ rfl rfl

theorem enterFault_stops (st : (s.hose h).state.stops) :
    ((enterFault s).hose h).state = .draining ∧
      ((enterFault s).tx h).map Transaction.cause = (s.tx h).map fun tx => some (tx.cause.getD .metrology) := by
  obtain ⟨drains, -, caused⟩ := strikeAll_stops (cause := .metrology) (r := .metrology) allHoses_nodup
    (mem_allHoses h) (s := faultRaised s) st
  exact ⟨drains, caused⟩

theorem enterFault_refuses (hw : (s.hose h).state = .identifying ∨ (s.hose h).state.isAwaiting = true) :
    ((enterFault s).hose h).state = .refused .metrology :=
  strikeAll_refuses allHoses_nodup (mem_allHoses h) (s := faultRaised s) hw

/-- Settles O55: the expiry is the check after its timer's restart, which a match or FAULT passes; a mismatch in GOOD
is `enterFault`. -/
theorem integrityCheckFindsDisturbances : Obligations.IntegrityCheckFindsDisturbances := by
  unfold Obligations.IntegrityCheckFindsDisturbances
  refine fun s => ⟨fun set => rfl, fun n hp hn => ⟨fun hm => ?_, fun hg hm => ?_⟩⟩
  · rw [exec_checkTimerExpiry hp hn, integrityCheck_passes (s := checkRestarted s) hm]
    rfl
  · rw [exec_checkTimerExpiry hp hn, integrityCheck_fails (s := checkRestarted s) hg hm]
    exact ⟨_, rfl, enterFault_guard _, (enterFault_alarms _).trans (raiseAlarm_alarms _ rfl rfl),
      fun h st => enterFault_stops (s := checkRestarted s) st,
      fun h hw => enterFault_refuses (s := checkRestarted s) hw,
      ((only_setGuard _ s).mono (by decide)).then (enterFault_touches _) (by decide)⟩

end Sys2Proof.Machine
end

section
/-! PROOF. The requests of the metrology guard (R166 to R172): CAL OPEN and CAL CLOSE, CAL READ and AUDIT READ, and what
CAL WRITE refuses and replaces. -/

namespace Sys2Proof.Machine

variable {s : State} {n : Nat} {item other : CalItem} {v : CalValue} {o : Option (CalItem × CalValue)}

/-! ## CAL OPEN, CAL CLOSE and the window's timer (R166, R167) -/

theorem ownCalOpen_opens (hs : s.inputs.sealOpen = true) : ownCalOpen () s = .ok (openWindow s,
    [.code 0, .wide s.store.cal.audits, .code (if s.guard.fault then 1 else 0)]) :=
  if_neg (by simp [hs])

theorem ownCalOpen_locked (hs : s.inputs.sealOpen = false) : ownCalOpen () s = .error .locked :=
  if_pos (by simp [hs])

theorem ownCalClose_state (hw : s.guard.window = .stopped) : ownCalClose () s = .error .state :=
  if_pos (by simp [windowOpen_of_stopped hw])

theorem ownCalClose_closes (hw : s.guard.window ≠ .stopped) :
    ownCalClose () s = .ok (closeWindow s, [.wide s.store.cal.audits]) :=
  if_neg (by simp [windowOpen_of_ne hw])

theorem exec_windowTimerExpiry (hp : s.power = .on) (hw : s.guard.window = .running n) :
    exec .windowTimerExpiry s = .next (closeWindow s) := by
  have taken : (s.live && s.guard.window.isRunning) = true := by rw [live_of_on hp, hw]; rfl
  exact congrArg Host.Outcome.next (if_pos taken)

/-! ## CAL READ and AUDIT READ (R171, R172) -/

theorem ownCalRead_item (hi : itemOf n = some item) (s : State) :
    ownCalRead n s = .ok (s, calReadFields item s) := by
  simp only [ownCalRead, hi]

theorem ownCalRead_range (hi : itemOf n = none) (s : State) : ownCalRead n s = .error .range := by
  simp only [ownCalRead, hi]

theorem ownAuditRead_range (hn : n = 0 ∨ 65535 < n) (s : State) : ownAuditRead n s = .error .range :=
  if_pos hn

section InRange

variable (h1 : 1 ≤ n) (h2 : n ≤ 65535)

include h1 h2

theorem auditNumber_inRange : ¬ (n = 0 ∨ Config.counterMax < n) := by
  simp only [Config.counterMax]
  omega

theorem ownAuditRead_entry {e : AuditEntry}
    (hf : (s.store.cal.trail.find? fun e => decide (e.number = n)) = some e) :
    ownAuditRead n s = .ok (s, auditFields e s) := by
  simp only [ownAuditRead, if_neg (auditNumber_inRange h1 h2), hf]

theorem ownAuditRead_notFound (hf : (s.store.cal.trail.find? fun e => decide (e.number = n)) = none) :
    ownAuditRead n s = .error .notFound := by
  simp only [ownAuditRead, if_neg (auditNumber_inRange h1 h2), hf]

end InRange

/-! ## The checks of CAL WRITE (R168) -/

theorem ownCalWrite_locked (hw : s.guard.window = .stopped) : ownCalWrite o s = .error .locked := by
  have bar : calWriteBar s = some .locked := if_pos (by simp [windowOpen_of_stopped hw])
  simp only [ownCalWrite, bar]

theorem ownCalWrite_full (hw : s.guard.window ≠ .stopped) (ha : 65535 ≤ s.store.cal.audits) :
    ownCalWrite o s = .error .full := by
  have bar : calWriteBar s = some .full := (if_neg (by simp [windowOpen_of_ne hw])).trans (if_pos ha)
  simp only [ownCalWrite, bar]

section Unbarred

variable (hw : s.guard.window ≠ .stopped) (ha : s.store.cal.audits < 65535)

include hw ha

theorem calWriteBar_none : calWriteBar s = none :=
  (if_neg (by simp [windowOpen_of_ne hw])).trans (if_neg (Nat.not_le.mpr ha))

theorem ownCalWrite_noItem : ownCalWrite none s = .error .range := by
  simp only [ownCalWrite, calWriteBar_none hw ha]

theorem ownCalWrite_invalid (hv : valueValid item v = false) : ownCalWrite (some (item, v)) s = .error .range := by
  simp only [ownCalWrite, calWriteBar_none hw ha, hv, Bool.not_false, if_true]

theorem ownCalWrite_busy (hv : valueValid item v = true) (hu : itemInUse s item = true) :
    ownCalWrite (some (item, v)) s = .error .busy := by
  simp only [ownCalWrite, calWriteBar_none hw ha, hv, hu, Bool.not_true, Bool.false_eq_true, if_false, if_true]

end Unbarred

/-! ## What CAL WRITE replaces (R164, R169, R170) -/

/-- R164: a set with an item replaced has the new value there; a valid value is of its item's kind. -/
theorem itemValue_setItem_self (hv : valueValid item v = true) (set : CalSet) :
    itemValue (setItem set item v) item = v := by
  cases item with
  | meter m =>
    cases v with
    | bands l => exact congrArg CalValue.bands (PerMeter.get_set_self _ m l)
    | alpha | offset => cases hv
  | alpha c =>
    cases v with
    | alpha k => exact congrArg CalValue.alpha (PerComp.get_set_self _ c k)
    | bands | offset => cases hv
  | offset p =>
    cases v with
    | offset i => exact congrArg CalValue.offset (PerProbe.get_set_self _ p i)
    | bands | alpha => cases hv

/-- R169: every other item of the set stands. -/
theorem itemValue_setItem_ne (hi : other ≠ item) (v : CalValue) (set : CalSet) :
    itemValue (setItem set item v) other = itemValue set other := by
  cases item with
  | meter m =>
    cases v with
    | bands l =>
      cases other with
      | meter k => exact congrArg CalValue.bands (PerMeter.get_set_ne _ l fun e => hi (congrArg _ e))
      | alpha | offset => rfl
    | alpha | offset => rfl
  | alpha c =>
    cases v with
    | alpha k =>
      cases other with
      | alpha e => exact congrArg CalValue.alpha (PerComp.get_set_ne _ k fun e => hi (congrArg _ e))
      | meter | offset => rfl
    | bands | offset => rfl
  | offset p =>
    cases v with
    | offset i =>
      cases other with
      | offset q => exact congrArg CalValue.offset (PerProbe.get_set_ne _ i fun e => hi (congrArg _ e))
      | meter | alpha => rfl
    | bands | alpha => rfl

/-- R170: an entry joins the trail at its newest end. -/
theorem getLast?_addToTrail (e : AuditEntry) (l : List AuditEntry) : (addToTrail e l).getLast? = some e := by
  have kept : ¬ (l ++ [e]).length ≤ l.length + 1 - Config.trailEntries := by
    simp only [List.length_append, List.length_singleton, Config.trailEntries]
    omega
  rw [addToTrail, List.getLast?_drop, if_neg kept, List.getLast?_concat]

theorem writeItem_cal (item : CalItem) (v : CalValue) (s : State) :
    (writeItem item v s).store.cal = s.store.cal.write item v s.clock := by cases item <;> rfl

theorem writeItem_guard (item : CalItem) (v : CalValue) (s : State) :
    (writeItem item v s).guard = { s.guard with fault := false, window := .running 120 } := by cases item <;> rfl

/-- R128: a write of a coefficient sets STALE of its compartment. -/
theorem writeItem_stale {c : Comp} (hi : item = .alpha c) (v : CalValue) (s : State) :
    ((writeItem item v s).comp c).gauging.stale = true := by
  subst hi
  exact congrArg (fun k => k.gauging.stale) (State.comp_putComp _ _)

theorem ownCalWrite_writes (hw : s.guard.window ≠ .stopped) (ha : s.store.cal.audits < 65535)
    (hv : valueValid item v = true) (hu : itemInUse s item = false) : ownCalWrite (some (item, v)) s =
      .ok (writeItem item v s, [.code item.code, .wide (s.store.cal.audits + 1), .code 0]) := by
  have audits : (writeItem item v s).store.cal.audits = s.store.cal.audits + 1 := by rw [writeItem_cal]; rfl
  have good : metrologyCode (writeItem item v s).guard = 0 := by rw [writeItem_guard]; rfl
  simp only [ownCalWrite, calWriteBar_none hw ha, hv, hu, Bool.not_true, Bool.false_eq_true, if_false, audits, good]

/-- Settles O54: each request is its owner's equation in the state that has heard it, the seal and the window's timer
are theirs at a running part, and a write is `writeItem`. -/
theorem calibrationNeedsTheWindow : Obligations.CalibrationNeedsTheWindow := by
  unfold Obligations.CalibrationNeedsTheWindow
  refine fun tag body s => ⟨fun hr => ⟨fun hs => ?_, fun hs => ?_, fun hw => ?_, fun hw => ?_⟩,
    fun hr => ⟨fun n item hp hi => ?_, fun n hp hi => ?_, fun n hp hn => ?_, fun n e hp h1 h2 hf => ?_,
      fun n hp h1 h2 hf => ?_⟩,
    fun o hr hp => ⟨fun hw => ?_, fun hw ha => ?_, fun hw ha hn => ?_, fun item v hw ha ho => ⟨fun hv => ?_,
      fun hv hu => ?_, fun hv hu => ?_⟩⟩,
    fun hp => ⟨exec_sealSwitchOpen_on hp, exec_sealSwitchClosed_on hp, fun n => exec_windowTimerExpiry hp⟩⟩
  · exact congrArg Host.Outcome.next (takeRequest_ok (parse := parseNone) hr rfl (ownCalOpen_opens (s := heard s) hs))
  · exact request_refused (parse := parseNone) hr rfl (ownCalOpen_locked (s := heard s) hs)
  · exact request_refused (parse := parseNone) hr rfl (ownCalClose_state (s := heard s) hw)
  · exact congrArg Host.Outcome.next (takeRequest_ok (parse := parseNone) hr rfl (ownCalClose_closes (s := heard s) hw))
  · exact request_answered hr hp (ownCalRead_item hi (heard s))
  · exact request_refused hr hp (ownCalRead_range hi (heard s))
  · exact request_refused hr hp (ownAuditRead_range hn (heard s))
  · exact request_answered hr hp (ownAuditRead_entry (s := heard s) h1 h2 hf)
  · exact request_refused hr hp (ownAuditRead_notFound (s := heard s) h1 h2 hf)
  · exact request_refused hr hp (ownCalWrite_locked (s := heard s) hw)
  · exact request_refused hr hp (ownCalWrite_full (s := heard s) hw ha)
  · subst hn
    exact request_refused hr hp (ownCalWrite_noItem (s := heard s) hw ha)
  · subst ho
    exact request_refused hr hp (ownCalWrite_invalid (s := heard s) hw ha hv)
  · subst ho
    exact request_refused hr hp (ownCalWrite_busy (s := heard s) hw ha hv hu)
  · subst ho
    have cal := writeItem_cal item v (heard s)
    refine ⟨_, congrArg Host.Outcome.next (takeRequest_ok hr hp (ownCalWrite_writes (s := heard s) hw ha hv hu)),
      ?_, fun other hi => ?_, ?_, congrArg Calibration.audits cal, ?_, writeItem_guard item v (heard s),
      fun c hi => writeItem_stale hi v (heard s), (writeItem_touches item v (heard s)).ofRequest _, rfl⟩
    · exact (congrArg (fun c => itemValue c.set item) cal).trans (itemValue_setItem_self hv _)
    · exact (congrArg (fun c => itemValue c.set other) cal).trans (itemValue_setItem_ne hi v _)
    · exact (congrArg (fun c => c.check = Config.checkFunction c.set) cal).mpr rfl
    · exact (congrArg (fun c => c.trail.getLast?) cal).trans (getLast?_addToTrail _ _)

end Sys2Proof.Machine
end

section
/-! PROOF. The frames at a PARKED and at a WAKING part (R181, R187): every request of the line reaches its handler as a
frame, and a frame at a WAKING part is one at the part that it wakes. -/

namespace Sys2Proof.Machine

variable {s : State} {c : Instr} {tag : SeqTag} {code : Septet} {handle : State → State}

/-- R186, R187: a command of the line that is taken as a frame, with a handler of its own. -/
def TakenAsFrame (c : Instr) : Prop :=
  ∃ tag code handle, ∀ s, exec c s = .next (takeFrame tag code handle s)

theorem request_takenAsFrame (hc : isRequest c = true) : TakenAsFrame c := by
  cases c with
  | siteStatus | alarms | linkCounters | settingsRead | settingsWrite | restart | tagChannelRead | machineRead
  | machineWrite | machineDelete | machineFind | machineList | accountRead | accountWrite | accountDelete | approve
  | decline | authorise | hoseStatus | stop | hoseEnable | hoseDisable | hoseSettingsRead | hoseSettingsWrite
  | equipmentStatus | pumpSettingsRead | pumpSettingsWrite | inhibitClear | stockStatus | tankSetupRead
  | tankSetupWrite | strappingRead | strappingWrite | strappingWritePart | gauge | gaugeRead | bookAdjust
  | deliveryStatus | deliveryOpen | deliveryClose | logStatus | logRead | logConfirm | logRewind | clockSet
  | shiftClose | shiftTotals | calRead | calOpen | calWrite | calClose | auditRead | parkStatus | park =>
    exact ⟨_, _, _, fun _ => rfl⟩
  | _ => exact absurd hc Bool.false_ne_true

theorem unknown_takenAsFrame (tag : SeqTag) (code : Septet) : TakenAsFrame (.unknown tag code) :=
  ⟨_, _, _, fun _ => rfl⟩

/-- R181: a PARKED part refuses a valid frame with WAKING, and its confirm timer starts. -/
theorem takeFrame_parked (hp : s.power = .on) (hs : s.link.sending = none) (hk : s.park.state = .parked) :
    takeFrame tag code handle s = refuse tag .waking code (beginWaking (goodFrame s)) := by
  simp [takeFrame, hp, hs, hk]

theorem exec_waking_parked (hp : s.power = .on) (hs : s.link.sending = none) (hk : s.park.state = .parked) :
    exec (.waking tag code) s = .next (refuse tag .waking code (beginWaking (goodFrame s))) :=
  congrArg Host.Outcome.next ((if_pos hk).trans (takeFrame_parked hp hs hk))

theorem wake_ready (hp : s.power = .on) (hs : s.link.sending = none) (o : ParkOutcome) : Ready (wake o s) :=
  ⟨hp, hs, .inl rfl⟩

/-- R187 step 2: at a WAKING part a frame reaches its handler as at the same part made ACTIVE. -/
theorem takeFrame_waking (hp : s.power = .on) (hs : s.link.sending = none) (hk : s.park.state = .waking) :
    takeFrame tag code handle s = takeFrame tag code handle (wake .frame s) := by
  have woken : takeFrame tag code handle s = handle (hear (wake .frame (goodFrame s))) := by
    simp [takeFrame, hp, hs, hk]
  calc takeFrame tag code handle s
      = handle (hear (wake .frame (goodFrame s))) := woken
    _ = handle (heard (wake .frame s)) := rfl
    _ = takeFrame tag code handle (wake .frame s) := (takeFrame_ready (wake_ready hp hs .frame) tag code handle).symm

theorem TakenAsFrame.exec_waking (hc : TakenAsFrame c) (hp : s.power = .on) (hs : s.link.sending = none)
    (hk : s.park.state = .waking) : exec c s = exec c (wake .frame s) := by
  obtain ⟨tag, code, handle, taken⟩ := hc
  rw [taken, taken, takeFrame_waking hp hs hk]

/-- Settles O11: WAKING is the refusal of a PARKED part, and a request or a frame of an unknown code, taken as a
frame, wakes a WAKING part first. -/
theorem parkedPartWakesByFrames : Obligations.ParkedPartWakesByFrames := by
  unfold Obligations.ParkedPartWakesByFrames
  refine fun s hp hs => ⟨fun tag code hk => exec_waking_parked hp hs hk, fun c hc hk => ?_⟩
  have frame : TakenAsFrame c := by
    obtain request | ⟨tag, code, rfl⟩ := hc
    · exact request_takenAsFrame request
    · exact unknown_takenAsFrame tag code
  exact frame.exec_waking hp hs hk

end Sys2Proof.Machine
end

section
/-! PROOF. PARK and its baselines (R176, R177), the watch of the stock and its timer (R179, R180) and the confirm timer
(R181). -/

namespace Sys2Proof.Machine

variable {s : State}

/-! ## PARK (R176) -/

/-- R176: the answer of an accepted PARK, from the state that it leaves. -/
def parkAnswer (s : State) : List Field :=
  [.code s.park.state.code, .code (s.unit .c1).run.code, .code (s.unit .c2).run.code]

theorem ownPark_refused (h : s.park.state = .parking ∨ parkAllowed s = false) : ownPark () s = .error .state := by
  unfold ownPark
  split
  · rfl
  · next hp => exact if_pos (by simp [h.resolve_left hp])

theorem ownPark_begins (hk : s.park.state = .active) (ha : parkAllowed s = true) :
    ownPark () s = .ok (beginPark s, parkAnswer (beginPark s)) :=
  (if_neg (by simp [hk])).trans (if_neg (by simp [ha]))

/-- R176: the park controller that awaits both baselines. -/
def parkBegun (p : Park) : Park :=
  { p with state := .parking, baselines := ⟨none, none⟩, watched := ⟨false, false⟩, awaited := ⟨true, true⟩,
           outcome := none }

theorem beginPark_eq (s : State) : beginPark s =
    requestRun .c2 .parkBaseline (requestRun .c1 .parkBaseline (s.setPark (parkBegun s.park))) := rfl

theorem beginPark_park (s : State) : (beginPark s).park = parkBegun s.park := by
  rw [beginPark_eq, (requestRun_touches _ _ _) .park (by decide), (requestRun_touches _ _ _) .park (by decide)]
  rfl

/-- R176: an accepted PARK requests a run on each compartment. -/
theorem beginPark_requests (c : Comp) (s : State) : .parkBaseline ∈ ((beginPark s).unit c).run.requesters := by
  rw [beginPark_eq]
  cases c with
  | c1 =>
    rw [requestRun_unit_ne (c := .c2) (e := .c1) _ _ (by decide)]
    exact requestRun_mem _ _ _
  | c2 => exact requestRun_mem _ _ _

theorem parkAnswer_beginPark (s : State) : parkAnswer (beginPark s) =
    [.code 1, .code ((beginPark s).unit .c1).run.code, .code ((beginPark s).unit .c2).run.code] := by
  rw [parkAnswer, beginPark_park]
  rfl

/-! ## The result of a baseline (R177) -/

variable {c : Comp} {r : GaugeResult}

/-- The state with the result of a baseline taken, before the park is finished or abandoned. -/
def baselineTaken (c : Comp) (r : GaugeResult) (s : State) : State :=
  (takeHanded (.result .parkBaseline c r) s).setPark { s.park with
    baselines := s.park.baselines.set c (baselineOf r)
    watched := s.park.watched.set c (baselineOf r).isSome
    awaited := s.park.awaited.set c false }

theorem exec_parkBaselineResult (hp : s.power = .on) (hk : s.park.state = .parking)
    (ha : s.park.awaited.get c = true) : exec (.parkBaselineResult c r) s =
      .next (finishParking (baselineTaken c r s)) :=
  congrArg Host.Outcome.next ((if_pos (live_of_on hp)).trans (if_pos ⟨hk, ha⟩))

theorem baselineTaken_touches (c : Comp) (r : GaugeResult) (s : State) :
    OnlyIn [.park, .handed] s (baselineTaken c r s) :=
  ((takeHanded_touches _ s).mono (by decide)).then (only_setPark _ _) (by decide)

theorem isSome_baselineOf (r : GaugeResult) : (baselineOf r).isSome = decide (r ≠ .failed) := by
  cases r <;> simp [baselineOf]

/-- R177: once a result is taken, a baseline is awaited where it was for another compartment. -/
theorem awaits_baselineTaken : ((baselineTaken c r s).park.awaited.c1 || (baselineTaken c r s).park.awaited.c2) =
    true ↔ ∃ e, e ≠ c ∧ s.park.awaited.get e = true := by
  rw [Bool.or_eq_true]
  constructor
  · cases c with
    | c1 => exact fun h => ⟨.c2, by decide, h.resolve_left Bool.false_ne_true⟩
    | c2 => exact fun h => ⟨.c1, by decide, h.resolve_right Bool.false_ne_true⟩
  · rintro ⟨e, he, ha⟩
    cases c <;> cases e
    case c1.c2 => exact .inr ha
    case c2.c1 => exact .inl ha
    all_goals exact absurd rfl he

theorem not_awaits_baselineTaken (h : ∀ e, e ≠ c → s.park.awaited.get e = false) :
    ¬ ((baselineTaken c r s).park.awaited.c1 || (baselineTaken c r s).park.awaited.c2) = true := fun w => by
  obtain ⟨e, he, hw⟩ := awaits_baselineTaken.mp w
  exact Bool.false_ne_true ((h e he).symm.trans hw)

theorem finishParking_awaits (h : (s.park.awaited.c1 || s.park.awaited.c2) = true) : finishParking s = s := if_pos h

theorem finishParking_parks (h : ¬ (s.park.awaited.c1 || s.park.awaited.c2) = true) (ha : parkAllowed s = true) :
    finishParking s = enterParked s :=
  (if_neg h).trans (if_pos ha)

theorem finishParking_abandons (h : ¬ (s.park.awaited.c1 || s.park.awaited.c2) = true)
    (ha : parkAllowed s = false) :
    finishParking s = s.setPark { s.park with state := .active, outcome := some .cancelled } :=
  (if_neg h).trans (if_neg (by simp [ha]))

/-- R177: the part parks or abandons the park with its baselines as they were taken. -/
theorem finishParking_keeps_baselines (s : State) : (finishParking s).park.baselines = s.park.baselines ∧
    (finishParking s).park.watched = s.park.watched ∧ (finishParking s).park.awaited = s.park.awaited := by
  unfold finishParking
  split
  · exact ⟨rfl, rfl, rfl⟩
  · split <;> exact ⟨rfl, rfl, rfl⟩

/-- R177: a PARKED part has its channels OFF. -/
theorem enterParked_channel (h : Hose) (s : State) :
    (enterParked s).channel h = { s.channel h with state := .off, run := 0, hold := .stopped } := by
  cases h <;> rfl

/-! ## The result of a watch run (R180) -/

variable {b : Baseline} {g : GaugeReading} {o : ParkOutcome}

theorem wakeIfParked_parked (hk : s.park.state = .parked ∨ s.park.state = .waking) :
    wakeIfParked o s = wake o s := by
  obtain hk | hk := hk <;> simp only [wakeIfParked, hk]

theorem wakeIfParked_active (hk : s.park.state = .active ∨ s.park.state = .parking) : wakeIfParked o s = s := by
  obtain hk | hk := hk <;> simp only [wakeIfParked, hk]

/-- The state with the result of a watch run taken, before it is compared with the baseline. -/
def watchTaken (c : Comp) (r : GaugeResult) (s : State) : State := takeHanded (.result .parkWatch c r) s

theorem watchTaken_touches (c : Comp) (r : GaugeResult) (s : State) : OnlyIn [.handed] s (watchTaken c r s) :=
  takeHanded_touches _ s

/-- R180: the state after a loss of stock above the threshold. -/
def stockLost (c : Comp) (r : GaugeResult) (s : State) : State :=
  wakeIfParked .stockLoss (raiseAlarm (.stockLoss c) (watchTaken c r s))

section Watch

variable (hp : s.power = .on) (hb : s.park.baselines.get c = some b)

include hp

theorem exec_parkWatchResult : exec (.parkWatchResult c r) s = .next (takeWatch c r (watchTaken c r s)) :=
  congrArg Host.Outcome.next (if_pos (live_of_on hp))

include hb

theorem exec_parkWatchResult_within (hl : b.net - g.net ≤ s.store.site.theftThreshold) :
    exec (.parkWatchResult c (.ok g)) s = .next (watchTaken c (.ok g) s) := by
  have baseline : (watchTaken c (.ok g) s).park.baselines.get c = some b := hb
  simp only [exec_parkWatchResult hp, takeWatch, baseline]
  exact congrArg Host.Outcome.next (if_neg (Int.not_lt.mpr hl))

theorem exec_parkWatchResult_loss (hl : (s.store.site.theftThreshold : Int) < b.net - g.net) :
    exec (.parkWatchResult c (.ok g)) s = .next (stockLost c (.ok g) s) := by
  have baseline : (watchTaken c (.ok g) s).park.baselines.get c = some b := hb
  simp only [exec_parkWatchResult hp, takeWatch, baseline]
  exact congrArg Host.Outcome.next (if_pos hl)

theorem exec_parkWatchResult_failed (hk : s.park.state = .parked ∨ s.park.state = .waking) :
    exec (.parkWatchResult c .failed) s = .next (wake .watchFailed (watchTaken c .failed s)) := by
  have baseline : (watchTaken c .failed s).park.baselines.get c = some b := hb
  simp only [exec_parkWatchResult hp, takeWatch, baseline]
  exact congrArg Host.Outcome.next (wakeIfParked_parked (s := watchTaken c .failed s) hk)

end Watch

theorem stockLost_touches (c : Comp) (r : GaugeResult) (s : State) :
    OnlyIn [.park, .alarms, .handed] s (stockLost c r s) :=
  (((watchTaken_touches c r s).mono (by decide)).then (raiseAlarm_touches _ _) (by decide)).then
    (wakeIfParked_touches _ _) (by decide)

theorem stockLost_alarms (c : Comp) (r : GaugeResult) (s : State) :
    (stockLost c r s).alarms = (raiseAlarm (.stockLoss c) s).alarms :=
  (wakeIfParked_touches _ _) .alarms (by decide)

theorem stockLost_wakes (hk : s.park.state = .parked ∨ s.park.state = .waking) : (stockLost c r s).park =
    { s.park with state := .active, watch := .stopped, confirm := .stopped, outcome := some .stockLoss } :=
  congrArg State.park (wakeIfParked_parked (s := raiseAlarm (.stockLoss c) (watchTaken c r s)) hk)

theorem stockLost_leaves_park (hk : s.park.state = .active ∨ s.park.state = .parking) :
    (stockLost c r s).park = s.park :=
  (congrArg State.park (wakeIfParked_active (s := raiseAlarm (.stockLoss c) (watchTaken c r s)) hk)).trans rfl

/-! ## The watch and confirm timers (R179, R181) -/

variable {n : Nat} {e : Comp}

/-- R179: the run of a watched compartment is requested, and one that is not watched stands. -/
def WatchRequested (c : Comp) (s t : State) : Prop :=
  (s.park.watched.get c = true → .parkWatch ∈ (t.unit c).run.requesters) ∧
    (s.park.watched.get c = false → t.unit c = s.unit c)

theorem requestWatch_requests (c : Comp) (s : State) : WatchRequested c s (requestWatch c s) := by
  unfold requestWatch
  refine ⟨fun hw => ?_, fun hw => ?_⟩
  · rw [if_pos hw]
    exact requestRun_mem c .parkWatch s
  · rw [if_neg (by simp [hw])]

theorem requestWatch_unit_ne (s : State) (he : e ≠ c) : (requestWatch c s).unit e = s.unit e := by
  unfold requestWatch
  split
  · exact requestRun_unit_ne _ s he
  · rfl

/-- A request is read off what it does at states that agree on the watch and on the compartment. -/
theorem WatchRequested.congr {t s' t' : State} (w : WatchRequested c s t) (hp : s'.park.watched = s.park.watched)
    (hs : s'.unit c = s.unit c) (ht : t'.unit c = t.unit c) : WatchRequested c s' t' := by
  unfold WatchRequested
  rw [hp, hs, ht]
  exact w

/-- R179: the runs of a watch are requested on C1 and then on C2. -/
def watchesRequested (s : State) : State := requestWatch .c2 (requestWatch .c1 s)

theorem watchesRequested_touches (s : State) : OnlyIn [.units] s (watchesRequested s) :=
  (requestWatch_touches _ s).trans (requestWatch_touches _ _)

theorem watchesRequested_requests (c : Comp) (s : State) : WatchRequested c s (watchesRequested s) := by
  have park : (requestWatch .c1 s).park = s.park := (requestWatch_touches _ s) .park (by decide)
  cases c with
  | c1 => exact (requestWatch_requests .c1 s).congr rfl rfl (requestWatch_unit_ne _ (by decide))
  | c2 =>
    exact (requestWatch_requests .c2 (requestWatch .c1 s)).congr (congrArg Park.watched park.symm)
      (requestWatch_unit_ne s (by decide)).symm rfl

/-- R179: the part with its watch timer started again. -/
def watchRestarted (s : State) : State :=
  s.setPark { s.park with watch := .running (s.store.site.watchInterval * 60) }

theorem exec_watchTimerExpiry (hp : s.power = .on) (hn : s.park.watch = .running n) :
    exec .watchTimerExpiry s = .next (watchesRequested (watchRestarted s)) := by
  have taken : (s.live && s.park.watch.isRunning) = true := by rw [live_of_on hp, hn]; rfl
  exact congrArg Host.Outcome.next (if_pos taken)

theorem exec_confirmTimerExpiry (hp : s.power = .on) (hn : s.park.confirm = .running n) :
    exec .confirmTimerExpiry s = .next (s.setPark { s.park with state := .parked, confirm := .stopped }) := by
  have taken : (s.live && s.park.confirm.isRunning) = true := by rw [live_of_on hp, hn]; rfl
  exact congrArg Host.Outcome.next (if_pos taken)

/-- Settles O57: PARK is its owner's equation in the state that has heard it, a baseline is taken and the park then
finished, a watch result is compared with its baseline, and the two timers are their equations. -/
theorem parkingWatchesTheStock : Obligations.ParkingWatchesTheStock := by
  unfold Obligations.ParkingWatchesTheStock
  refine fun s => ⟨fun tag hr => ⟨fun h => ?_, fun hk ha => ?_⟩, fun c r hp hk haw => ?_,
    fun c g b hp hb => ⟨fun hl => ?_, fun hl => ?_, fun hk => ?_⟩, fun n hp hn => ?_,
    fun n => exec_confirmTimerExpiry⟩
  · exact request_refused (parse := parseNone) hr rfl (ownPark_refused (s := heard s) h)
  · have begins := ownPark_begins (s := heard s) hk ha
    exact ⟨_, congrArg Host.Outcome.next (takeRequest_ok (parse := parseNone) hr rfl begins),
      beginPark_park (heard s), fun c => beginPark_requests c (heard s), (beginPark_touches (heard s)).ofRequest _,
      congrArg (fun fs => some (Reply.answer tag 105 fs)) (parkAnswer_beginPark (heard s))⟩
  · obtain ⟨baselines, watched, awaited⟩ := finishParking_keeps_baselines (baselineTaken c r s)
    refine ⟨_, exec_parkBaselineResult hp hk haw, baselines.trans ?_, watched.trans ?_, awaited,
      ((baselineTaken_touches c r s).mono (by decide)).then (finishParking_touches _) (by decide), fun h => ?_,
      fun h => ⟨fun ha => ?_, fun ha => ?_⟩⟩
    · cases r <;> rfl
    · exact congrArg (s.park.watched.set c) (isSome_baselineOf r)
    · rw [finishParking_awaits (awaits_baselineTaken.mpr h)]
      exact ⟨hk, rfl, rfl⟩
    · rw [finishParking_parks (not_awaits_baselineTaken h) ha]
      exact ⟨rfl, rfl, rfl, fun h => enterParked_channel h _⟩
    · rw [finishParking_abandons (not_awaits_baselineTaken h) ha]
      exact ⟨rfl, rfl, rfl, rfl⟩
  · exact ⟨_, exec_parkWatchResult_within hp hb hl, watchTaken_touches c (.ok g) s⟩
  · exact ⟨_, exec_parkWatchResult_loss hp hb hl, stockLost_touches c (.ok g) s, stockLost_alarms c (.ok g) s,
      stockLost_wakes, stockLost_leaves_park⟩
  · exact ⟨_, exec_parkWatchResult_failed hp hb hk,
      ((watchTaken_touches c .failed s).mono (by decide)).then (wake_touches _ _) (by decide), rfl⟩
  · have requests := watchesRequested_touches (watchRestarted s)
    exact ⟨_, exec_watchTimerExpiry hp hn, requests .park (by decide),
      ((only_setPark _ s).mono (by decide)).then requests (by decide),
      fun c => watchesRequested_requests c (watchRestarted s)⟩

end Sys2Proof.Machine
end

section
/-! PROOF. The step, and the requests that the site link owns (R190, R192, R193, R195, R196): SITE STATUS, ALARMS, LINK
COUNTERS and SETTINGS WRITE, with the raise of an alarm. -/

namespace Sys2Proof.Machine

variable {s : State} {o : SiteOperands}

/-! ## The queue and the line -/

theorem step_command {c : Instr} {rest : List Instr} (hp : s.pending = c :: rest) :
    step s = exec c (s.setPending rest) := by simp only [step, hp]

theorem step_byte {b : LineByte} {rest : List LineByte} (hp : s.pending = []) (hl : s.line = b :: rest) :
    step s = takeByte b (s.setLine rest) := by simp only [step, hp, hl]

theorem step_idle (hp : s.pending = []) (hl : s.line = []) : step s = .next s := by simp only [step, hp, hl]

/-- Settles O1: each branch of the step, by what waits. -/
theorem stepTakesTheFrontCommand : Obligations.StepTakesTheFrontCommand := by
  unfold Obligations.StepTakesTheFrontCommand
  exact fun s => ⟨fun _ _ => step_command, fun _ _ => step_byte, step_idle⟩

/-! ## SITE STATUS (R195) -/

/-- R191, R194: to have heard a request changes nothing that the alert line shows. -/
theorem alertActive_heard (s : State) : alertActive (heard s) = alertActive s := rfl

theorem activeCode_eq (b : Bool) : activeCode b = if b then 0 else 1 := by cases b <;> rfl

/-- Settles O3: the fields are those of the state that has heard the request, whose link is ONLINE. -/
theorem siteStatusReportsTheSite : Obligations.SiteStatusReportsTheSite := by
  unfold Obligations.SiteStatusReportsTheSite
  intro tag s hr
  rw [← alertActive_heard, ← activeCode_eq]
  exact request_answered (owner := ownSiteStatus) (parse := parseNone) hr rfl rfl

/-! ## ALARMS and the raise of an alarm (R192, R193) -/

/-- R193: the answer holds the first ten rows, and its flag says whether there are more. -/
theorem alarmFields_eq (s : State) : alarmFields s =
    .count (min 10 s.alarms.length) ::
      (s.alarms.take 10).flatMap (fun r =>
        [.count r.1, .count2 r.2.count, .time r.2.first.time, .flag r.2.first.unset]) ++
      [.flag (decide (10 < s.alarms.length))] := by
  have more : (!(s.alarms.drop 10).isEmpty) = decide (10 < s.alarms.length) := by
    rw [Bool.eq_iff_iff]
    simp
  simp [alarmFields, joinFields, listPart, alarmRows, stampFields, more]

/-! ## LINK COUNTERS (R190) -/

theorem ownLinkCounters_heard (s : State) : ownLinkCounters () (heard s) =
    .ok ((heard s).setLink { (heard s).link with counters := ⟨0, 0, 0, 0, 0, 0⟩ },
      [.wide (min (s.link.counters.good + 1) 65535), .wide s.link.counters.checkFailures,
        .wide s.link.counters.broken, .wide s.link.counters.byteErrors, .wide s.link.counters.overlaps,
        .wide s.link.counters.unknownFormat, .code 0, .count s.store.site.linkTimeout]) := rfl

/-- Settles O5: the rows by `alarmFields_eq`, a raise by what it reads back as, the counters by the owner in the state
that has counted the frame. -/
theorem alarmsAndCountersAreReadAndCleared : Obligations.AlarmsAndCountersAreReadAndCleared := by
  unfold Obligations.AlarmsAndCountersAreReadAndCleared
  refine ⟨fun tag s hr => ?_, fun a s => ⟨raiseAlarm_touches a s, fun k hk => find_raiseAlarm_ne hk s, ?_⟩,
    fun tag s hr => ?_⟩
  · have answer : ownAlarms () (heard s) = .ok ((heard s).setAlarms (s.alarms.drop 10), alarmFields s) := rfl
    rw [alarmFields_eq] at answer
    exact congrArg Host.Outcome.next (takeRequest_ok (parse := parseNone) hr rfl answer)
  · exact (find_raiseAlarm_self a s).trans (congrArg some (raisedRow_eq _ _))
  · exact congrArg Host.Outcome.next (takeRequest_ok (parse := parseNone) hr rfl (ownLinkCounters_heard s))

/-! ## SETTINGS WRITE (R196) -/

theorem siteOperands_inRange_iff : o.inRange = true ↔
    o.linkTimeout ∈ [0, 5, 15, 30, 60] ∧ 10000 ≤ o.offlineCap ∧ o.offlineCap ≤ 1000000 ∧
      10 ≤ o.watchInterval ∧ o.watchInterval ≤ 240 ∧ 5000 ≤ o.theftThreshold ∧ o.theftThreshold ≤ 500000 := by
  have watch : (10 ≤ (o.watchInterval : Int) ∧ (o.watchInterval : Int) ≤ 240) ↔
      10 ≤ o.watchInterval ∧ o.watchInterval ≤ 240 := by omega
  simp only [SiteOperands.inRange, within, Bool.and_eq_true, decide_eq_true_eq, watch, and_assoc]

/-- R196: a link timeout of OFF changes the watchdog alone. -/
theorem stopIfOff_eq (n : Nat) (s : State) : stopIfOff n s =
    s.setLink { s.link with watchdog := if n = 0 then .stopped else s.link.watchdog } := by
  unfold stopIfOff
  split <;> rfl

/-- R196: the settings that a write in range replaces. -/
def settingsWritten (o : SiteOperands) (s : State) : State :=
  s.setSite ⟨o.linkTimeout, o.offlineCap.toNat, o.watchInterval, o.theftThreshold.toNat⟩

theorem ownSettingsWrite_writes (hi : o.inRange = true) (s : State) :
    ownSettingsWrite o s = .ok (stopIfOff o.linkTimeout (settingsWritten o s), []) := if_pos hi

theorem ownSettingsWrite_range (hi : ¬ o.inRange = true) (s : State) : ownSettingsWrite o s = .error .range := if_neg hi

/-- Settles O6: the owner in and out of the range of `siteOperands_inRange_iff`. -/
theorem settingsWriteReplacesTheSettings : Obligations.SettingsWriteReplacesTheSettings := by
  unfold Obligations.SettingsWriteReplacesTheSettings
  intro tag body o s hr hp
  simp only [← siteOperands_inRange_iff]
  refine ⟨fun hi => ?_, fun hi => request_refused hr hp (ownSettingsWrite_range hi _)⟩
  have written : OnlyIn [.site, .link] (heard s) (stopIfOff o.linkTimeout (settingsWritten o (heard s))) := by
    rw [stopIfOff_eq]
    exact ((only_setSite _ _).mono (by decide)).then (only_setLink _ _) (by decide)
  refine ⟨_, congrArg Host.Outcome.next (takeRequest_ok hr hp (ownSettingsWrite_writes hi _)),
    written.ofRequest _, ?_, ?_⟩ <;> rw [stopIfOff_eq] <;> rfl

end Sys2Proof.Machine
end

section
/-! PROOF. Every command completes, and leaves the commands and the bytes that wait (R185 to R188), and O2. -/

namespace Sys2Proof.Machine

variable {s t u : State} {ps : List Part} {v : Inputs}

/-! ## Changes that leave what waits -/

/-- The commands and the bytes that wait are the same. -/
structure QueuesKept (s t : State) : Prop where
  pending : t.pending = s.pending
  line : t.line = s.line

theorem QueuesKept.refl (s : State) : QueuesKept s s := ⟨rfl, rfl⟩

theorem QueuesKept.trans (x : QueuesKept s t) (y : QueuesKept t u) : QueuesKept s u :=
  ⟨y.pending.trans x.pending, y.line.trans x.line⟩

theorem QueuesKept.ite {p : Prop} [Decidable p] (x : QueuesKept s t) (y : QueuesKept s u) :
    QueuesKept s (if p then t else u) := by
  split <;> assumption

/-- An event that is taken under a condition, and comes to nothing without it. -/
theorem QueuesKept.when {p : Prop} [Decidable p] (x : QueuesKept s t) : QueuesKept s (if p then t else s) :=
  x.ite (.refl s)

/-- A change of other parts of the state. -/
theorem OnlyIn.queuesKept (ho : OnlyIn ps s t) (hp : .pending ∉ ps ∧ .line ∉ ps := by decide) : QueuesKept s t :=
  ⟨ho .pending hp.1, ho .line hp.2⟩

theorem QueuesKept.then (x : QueuesKept s t) (ho : OnlyIn ps t u) (hp : .pending ∉ ps ∧ .line ∉ ps := by decide) :
    QueuesKept s u := x.trans (ho.queuesKept hp)

theorem carries_queuesKept : Carries QueuesKept := ⟨QueuesKept.trans, fun ho => ho.queuesKept⟩

/-- A discrete input changes its level; a part that runs takes the change as an event. -/
theorem QueuesKept.input {p q : Prop} [Decidable p] [Decidable q] (x : QueuesKept (s.setInputs v) t) :
    QueuesKept s (if p then s else if q then t else s.setInputs v) :=
  have level : QueuesKept s (s.setInputs v) := (only_setInputs v s).queuesKept
  .ite (.refl s) (.ite (level.trans x) level)

/-- R101: a start-up takes the commands and the bytes that wait as it finds them. -/
theorem startUpAt_queuesKept (clock : Stamp) (s : State) : QueuesKept s (startUpAt clock s) :=
  (closesFrom_touches clock s).queuesKept.then (startUpAt_touches clock s)

/-! ## Every command -/

theorem Leads.exists_next {R : State → State → Prop} {o : Host.Outcome State Fault Refusal} (l : Leads R s o) :
    ∃ t, o = .next t ∧ R s t := by
  cases l with
  | next k => exact ⟨_, rfl, k⟩

/-- An event that is taken under a condition, in parts other than the queues. -/
theorem leads_queuesKept_when {p : Prop} [Decidable p] (ho : OnlyIn ps s t)
    (hp : .pending ∉ ps ∧ .line ∉ ps := by decide) : Leads QueuesKept s (.next (if p then t else s)) :=
  .next (ho.queuesKept hp).when

theorem exec_queuesKept (i : Instr) (s : State) : Leads QueuesKept s (exec i s) := by
  have framed {α : Type} {tag : SeqTag} {code : Nat} {parse : List Septet → Option α} {body : List Septet}
      {owner : α → State → Owned} {ps : List Part} (ho : ∀ a u, Takes (OnlyIn ps) u (owner a u))
      (hp : .pending ∉ ps ∧ .line ∉ ps := by decide) :
      Leads QueuesKept s (.next (takeRequest tag code parse body owner s)) :=
    .next (carries_queuesKept.takeRequest fun a u => (ho a u).mono fun _ h => h.queuesKept hp)
  have taken (e : Handed) : QueuesKept s (takeHanded e s) := (takeHanded_touches e s).queuesKept
  cases i with
  | siteStatus | settingsRead | equipmentStatus | deliveryStatus | logStatus | parkStatus =>
    exact framed fun _ _ => Takes.read
  | alarms => exact framed fun _ u => .ok (only_setAlarms _ u)
  | linkCounters => exact framed fun _ u => .ok (only_setLink _ u)
  | settingsWrite => exact framed ownSettingsWrite_frame
  | restart => exact framed fun _ u => .ite (fun _ => .ok (only_setPower _ u)) fun _ => .error
  | tagChannelRead => exact framed ownTagChannelRead_frame
  | machineRead => exact framed ownMachineRead_frame
  | machineWrite => exact framed ownMachineWrite_frame
  | machineDelete => exact framed ownMachineDelete_frame
  | machineFind => exact framed ownMachineFind_frame
  | machineList => exact framed ownMachineList_frame
  | accountRead => exact framed ownAccountRead_frame
  | accountWrite => exact framed ownAccountWrite_frame
  | accountDelete => exact framed ownAccountDelete_frame
  | approve => exact framed ownApprove_frame
  | decline => exact framed ownDecline_frame
  | authorise => exact framed ownAuthorise_frame
  | hoseStatus => exact framed ownHoseStatus_frame
  | stop => exact framed ownStop_frame
  | hoseEnable => exact framed ownHoseEnable_frame
  | hoseDisable => exact framed ownHoseDisable_frame
  | hoseSettingsRead => exact framed ownHoseSettingsRead_frame
  | hoseSettingsWrite => exact framed ownHoseSettingsWrite_frame
  | pumpSettingsRead => exact framed ownPumpSettingsRead_frame
  | pumpSettingsWrite => exact framed ownPumpSettingsWrite_frame
  | inhibitClear => exact framed ownInhibitClear_frame
  | stockStatus => exact framed ownStockStatus_frame
  | tankSetupRead => exact framed ownTankSetupRead_frame
  | tankSetupWrite => exact framed ownTankSetupWrite_frame
  | strappingRead => exact framed ownStrappingRead_frame
  | strappingWrite =>
    exact .next (carries_queuesKept.takeFrame fun _ => carries_queuesKept.handleLast fun o u =>
      (ownStrappingWrite_frame o u).mono fun _ h => h.queuesKept)
  | strappingWritePart =>
    exact .next (carries_queuesKept.takeFrame fun u => (handlePart_touches _ _ _ _ u).queuesKept)
  | gauge => exact framed ownGauge_frame
  | gaugeRead => exact framed ownGaugeRead_frame
  | bookAdjust => exact framed ownBookAdjust_frame
  | deliveryOpen => exact framed ownDeliveryOpen_frame
  | deliveryClose => exact framed fun _ u => ownDeliveryClose_frame u
  | logRead => exact framed ownLogRead_frame
  | logConfirm => exact framed ownLogConfirm_frame
  | logRewind => exact framed fun _ u => ownLogRewind_frame u
  | clockSet => exact framed ownClockSet_frame
  | shiftClose => exact framed fun _ u => ownShiftClose_frame u
  | shiftTotals => exact framed ownShiftTotals_frame
  | calRead => exact framed ownCalRead_frame
  | calOpen => exact framed fun _ u => ownCalOpen_frame u
  | calWrite => exact framed ownCalWrite_frame
  | calClose => exact framed fun _ u => ownCalClose_frame u
  | auditRead => exact framed ownAuditRead_frame
  | park => exact framed fun _ u => ownPark_frame u
  | unknown =>
    exact .next (carries_queuesKept.takeFrame fun u => carries_queuesKept.trans (carries_queuesKept.link _ u)
      (carries_queuesKept.link _ _))
  | check tag code => exact leads_queuesKept_when (takeBadCheck_touches tag code s)
  | overlap | byteError => exact leads_queuesKept_when ((only_setLink _ s).trans (only_setLink _ _))
  | brokenFrame kind => exact leads_queuesKept_when (takeBroken_touches kind s)
  | waking => exact .next (QueuesKept.when (carries_queuesKept.takeFrame fun u => .refl u))
  | nozzleLift h => exact .next (.input ((disturbPark_touches _ _ _).queuesKept.then (liftHose_touches h _)))
  | nozzleHang h => exact .next (.input (hangHose_touches h _).queuesKept)
  | meterPulse m =>
    cases m with
    | m1 | m2 | m3 => exact leads_queuesKept_when (hosePulse_touches _ s)
    | m4 => exact leads_queuesKept_when (inletPulse_touches s)
  | tempReading p r => exact leads_queuesKept_when (takeReading_touches p r s)
  | tempFaultIndication p => exact leads_queuesKept_when (takeFault_touches p s)
  | levelReading c level =>
    exact .next (.when (((setLevel_touches c _ s).queuesKept.then (offerLevel_touches c _)).then
      (sampleRun_touches c level _)))
  | levelFaultIndication c =>
    exact .next (.when (((setLevel_touches c _ s).queuesKept.then (offerLevel_touches c _)).then
      (faultRun_touches c _)))
  | valid h id => exact leads_queuesKept_when (takeValid_touches h id s)
  | inverted h => exact leads_queuesKept_when (takeInverted_touches h s)
  | checkBad h | badStart h => exact leads_queuesKept_when (onChannel_touches h _ s)
  | confirmed h id => exact .next (.when ((taken _).then (takeConfirmed_touches h id _)))
  | lost h => exact .next (.when ((taken _).then (takeLost_touches h _)))
  | changed h => exact .next (.when ((taken _).trans (.when (stopFill_touches h _ _).queuesKept)))
  | emergencyStopActive => exact .next (.input (emergencyStop_touches _).queuesKept)
  | emergencyStopInactive => exact .next (.input ((evalPump_touches _ _).queuesKept.then (evalPump_touches _ _)))
  | overfillSwitchActive c =>
    exact .next (.input ((raiseAlarm_touches _ _).queuesKept.then (overfillDelivery_touches c _)))
  | overfillSwitchInactive => exact .next (only_setInputs _ s).queuesKept
  | sealSwitchOpen => exact .next (.input (raiseAlarm_touches _ _).queuesKept)
  | sealSwitchClosed => exact .next (.input (only_setGuard _ _).queuesKept)
  | storeDisturbance => exact .next (only_setCal _ s).queuesKept
  | startUp => exact .next (startUpAt_queuesKept _ s)
  | intervalEnd m =>
    exact .next (.when ((endInterval_touches m s).queuesKept.then (recomputeVcf_touches m _)))
  | sourceHoldTimerExpiry p => exact leads_queuesKept_when (enterDefault_touches p s)
  | channelHoldTimerExpiry h =>
    exact .next (.when ((only_setChannels _ s).queuesKept.then (report_touches h _ _)))
  | identifyTimerExpiry h | approvalTimerExpiry h => exact leads_queuesKept_when (refuseHose_touches h _ s)
  | noFlowTimerExpiry h | resumeGraceTimerExpiry h => exact leads_queuesKept_when (stopFill_touches h _ s)
  | hoseDrainQuietExpiry h => exact leads_queuesKept_when (closeFill_touches h s)
  | hoseDrainCapExpiry h => exact .next (.when ((cutDrain_touches h s).queuesKept.then (closeFill_touches h _)))
  | deliveryDrainQuietExpiry => exact leads_queuesKept_when (endDrain_touches false s)
  | deliveryDrainCapExpiry => exact leads_queuesKept_when (endDrain_touches true s)
  | maxRunReached c => exact leads_queuesKept_when (guardPump_touches c s)
  | restTimerExpiry => exact leads_queuesKept_when (only_setPumps _ s)
  | windowTimerExpiry => exact leads_queuesKept_when (only_setGuard _ s)
  | checkTimerExpiry =>
    exact .next (.when ((only_setGuard _ s).queuesKept.then (integrityCheck_touches _)))
  | watchdogExpiry => exact .next (.when ((only_setLink _ s).queuesKept.then (dropLinks_touches _ _)))
  | watchTimerExpiry =>
    exact .next (.when (((only_setPark _ s).queuesKept.then (requestWatch_touches _ _)).then
      (requestWatch_touches _ _)))
  | confirmTimerExpiry => exact leads_queuesKept_when (only_setPark _ s)
  | siteClockTick =>
    have clock : QueuesKept s (advanceClock s) := (only_setClock _ s).queuesKept
    exact .next (.ite (clock.then (elapseTimers_touches _)) clock.when)
  | preGaugeResult c r => exact .next (.when ((taken _).then (takePreGauge_touches c r _)))
  | postGaugeResult c r => exact .next (.when ((taken _).then (takePostGauge_touches c r _)))
  | parkBaselineResult c r =>
    exact .next (.when ((taken _).trans (.when (takeBaseline_touches c r _).queuesKept)))
  | parkWatchResult c r => exact .next (.when ((taken _).then (takeWatch_touches c r _)))
  | answerSent => exact .next (.when (.ite (startUpAt_queuesKept _ s) (only_setLink _ s).queuesKept))
  | lossOfPower => exact .next (losePower_touches s).queuesKept

/-- Settles O2: every command completes and keeps the queues, by `exec_queuesKept`. -/
theorem commandsCompleteAndKeepTheQueue : Obligations.CommandsCompleteAndKeepTheQueue := by
  unfold Obligations.CommandsCompleteAndKeepTheQueue
  intro c s
  obtain ⟨t, completes, pending, line⟩ := (exec_queuesKept c s).exists_next
  exact ⟨t, completes, pending, line⟩

end Sys2Proof.Machine
end

section
/-! PROOF. What the line brings that is no request (R185 to R187), RESTART and the end of its answer (R197), and what a
part that does not run takes (R197). -/

namespace Sys2Proof.Machine

variable {s t u : State} {c : Instr} {tag : SeqTag} {code : Septet} {handle : State → State}

/-! ## Rows of the line at a powered part (R185, R186) -/

/-- A row of the line that a powered part takes. -/
theorem if_powered (hp : s.power ≠ .off) : (if s.powered then t else s) = t := if_pos (decide_eq_true hp)

theorem if_unpowered (hp : s.power = .off) : (if s.powered then t else s) = s := if_neg (by simp [State.powered, hp])

theorem exec_overlap (hp : s.power ≠ .off) : exec .overlap s = .next (overlapFrame s) :=
  congrArg Host.Outcome.next (if_powered hp)

theorem exec_check (hp : s.power ≠ .off) : exec (.check tag code) s = .next (takeBadCheck tag code s) :=
  congrArg Host.Outcome.next (if_powered hp)

theorem exec_brokenFrame (hp : s.power ≠ .off) (kind : BrokenFrame) :
    exec (.brokenFrame kind) s = .next (takeBroken kind s) := congrArg Host.Outcome.next (if_powered hp)

theorem exec_byteError (hp : s.power ≠ .off) :
    exec .byteError s = .next (countLink .addByteError (setAssembly .hunt s)) :=
  congrArg Host.Outcome.next (if_powered hp)

/-- R185: a broken frame is counted, and its assembly left; R186 test 1 has the other one. -/
theorem takeBroken_counts {kind : BrokenFrame} (h : ¬ (kind = .wrongClass ∧ s.link.sending.isSome)) :
    takeBroken kind s = countLink .addBroken (setAssembly (brokenAssembly kind) s) := if_neg h

theorem not_sending (hs : s.link.sending = none) : ¬ s.link.sending.isSome := by simp [hs]

theorem sending_of_ne (hs : s.link.sending ≠ none) : s.link.sending.isSome := Option.isSome_iff_ne_none.mpr hs

/-! ## Frames at a part that sends, that restarts, and that has no power (R186, R197) -/

/-- R186 test 1, R197: while the part sends, and from an accepted RESTART on, a frame is an overlap. -/
theorem takeFrame_overlap (hp : s.power ≠ .off) (ho : s.power = .restarting ∨ s.link.sending ≠ none) :
    takeFrame tag code handle s = overlapFrame s := by
  cases hq : s.power with
  | off => exact absurd hq hp
  | restarting => simp [takeFrame, hq]
  | on =>
    have sends : s.link.sending.isSome := sending_of_ne (ho.resolve_left (by simp [hq]))
    simp [takeFrame, hq, sends]

theorem takeFrame_off (hp : s.power = .off) : takeFrame tag code handle s = s := by simp [takeFrame, hp]

theorem TakenAsFrame.exec_overlaps (hc : TakenAsFrame c) (hp : s.power ≠ .off)
    (ho : s.power = .restarting ∨ s.link.sending ≠ none) : exec c s = exec .overlap s := by
  obtain ⟨tag, code, handle, taken⟩ := hc
  rw [taken, takeFrame_overlap hp ho, exec_overlap hp]

theorem TakenAsFrame.exec_off (hc : TakenAsFrame c) (hp : s.power = .off) : exec c s = .next s := by
  obtain ⟨tag, code, handle, taken⟩ := hc
  rw [taken, takeFrame_off hp]

theorem exec_waking_overlaps (hp : s.power ≠ .off) (ho : s.power = .restarting ∨ s.link.sending ≠ none)
    (hk : s.park.state = .parked) : exec (.waking tag code) s = exec .overlap s := by
  rw [exec_overlap hp]
  exact congrArg Host.Outcome.next ((if_pos hk).trans (takeFrame_overlap hp ho))

/-- R187 step 4: a ready part refuses a frame of a code outside the table, and counts it. -/
theorem exec_unknown_ready (hr : Ready s) : exec (.unknown tag code) s = .next (refusedCounted tag .unknown code s) :=
  congrArg Host.Outcome.next (takeFrame_ready hr tag code _)

/-- Settles O10: each row by its equation at a powered part, and the frames that overlap by `takeFrame_overlap`. -/
theorem faultyFramesAreCounted : Obligations.FaultyFramesAreCounted := by
  unfold Obligations.FaultyFramesAreCounted
  refine ⟨fun s hp => ⟨fun tag code hs => ?_, exec_overlap hp, fun lead => ?_, ?_, fun hs => ?_, exec_byteError hp,
    fun hs => ⟨fun tag code => ?_, ?_⟩, fun ho => ⟨fun c hc => ?_, fun tag code => ⟨?_, fun hk => ?_⟩⟩⟩,
    fun tag code s hr => exec_unknown_ready hr⟩
  · exact (exec_check hp).trans (congrArg Host.Outcome.next (if_neg (not_sending hs)))
  · exact (exec_brokenFrame hp _).trans (congrArg Host.Outcome.next (takeBroken_counts fun h => nomatch h.1))
  · exact (exec_brokenFrame hp _).trans (congrArg Host.Outcome.next (takeBroken_counts fun h => nomatch h.1))
  · exact (exec_brokenFrame hp _).trans (congrArg Host.Outcome.next (takeBroken_counts fun h => not_sending hs h.2))
  · rw [exec_overlap hp]
    exact (exec_check hp).trans (congrArg Host.Outcome.next (if_pos (sending_of_ne hs)))
  · rw [exec_overlap hp]
    exact (exec_brokenFrame hp _).trans (congrArg Host.Outcome.next (if_pos ⟨rfl, sending_of_ne hs⟩))
  · exact (request_takenAsFrame hc).exec_overlaps hp ho
  · exact (unknown_takenAsFrame tag code).exec_overlaps hp ho
  · exact exec_waking_overlaps hp ho hk

/-! ## RESTART and the end of an answer (R197) -/

theorem restartAllowed_iff : restartAllowed s = true ↔
    (∀ h, (s.hose h).state.resting = true) ∧ s.store.delivery = none := by
  have all : (∀ h ∈ allHoses, (s.hose h).state.resting = true) ↔ ∀ h, (s.hose h).state.resting = true :=
    ⟨fun a h => a h (by cases h <;> decide), fun a h _ => a h⟩
  rw [restartAllowed, Bool.and_eq_true, List.all_eq_true, all, Option.isNone_iff_eq_none]

theorem ownRestart_accepts (ha : restartAllowed s = true) : ownRestart () s =
    .ok (s.setPower .restarting, [.time s.clock.time, .flag s.clock.unset]) := if_pos ha

theorem ownRestart_state (ha : ¬ restartAllowed s = true) : ownRestart () s = .error .state := if_neg ha

/-- R187: the end of an answer at a part that runs. -/
theorem exec_answerSent_on {r : Reply} (hp : s.power = .on) (hr : s.link.sending = some r) :
    exec .answerSent s = .next (s.setLink { s.link with sending := none }) := by
  have taken : (s.powered && s.link.sending.isSome) = true := by simp [State.powered, hp, hr]
  exact congrArg Host.Outcome.next ((if_pos taken).trans (if_neg (by simp [hp])))

/-! ## A part that does not run (R197) -/

section NotRunning

variable (hp : s.power ≠ .on)

include hp

theorem not_live : ¬ s.live = true := mt of_decide_eq_true hp

/-- An event that only a running part takes, and that alone or under a further condition. -/
theorem event_not_live : (if s.live then t else s) = s := if_neg (not_live hp)

theorem condition_not_live (b : Bool) : (s.live && b) = false := by simp [State.live, hp]

/-- A pulse, a reading, a tag frame, a report, a result or an expiry has no effect. -/
theorem exec_running_not_live (hc : rowKind c = .running) : exec c s = .next s := by
  have still {b : Bool} {t : State} : (if s.live && b then t else s) = s := if_neg (by simp [condition_not_live hp])
  cases c with
  | meterPulse | tempReading | tempFaultIndication | levelReading | levelFaultIndication | valid | inverted | checkBad
  | badStart | confirmed | lost | changed | preGaugeResult | postGaugeResult | parkBaselineResult | parkWatchResult =>
    exact congrArg Host.Outcome.next (event_not_live hp)
  | intervalEnd | sourceHoldTimerExpiry | channelHoldTimerExpiry | noFlowTimerExpiry | resumeGraceTimerExpiry
  | deliveryDrainQuietExpiry | deliveryDrainCapExpiry | maxRunReached | restTimerExpiry | windowTimerExpiry
  | checkTimerExpiry | watchdogExpiry | watchTimerExpiry | confirmTimerExpiry =>
    exact congrArg Host.Outcome.next still
  | identifyTimerExpiry | approvalTimerExpiry | hoseDrainQuietExpiry | hoseDrainCapExpiry =>
    exact congrArg Host.Outcome.next (if_neg (by simp [condition_not_live hp]))
  | _ => cases hc

/-- A discrete input that is at its level presents no event, and otherwise takes its level alone. -/
theorem input_not_live {b : Bool} (hb : b = true → s = t) :
    (if b then s else if s.live then u else t) = t := by
  cases b with
  | true => exact hb rfl
  | false => exact if_neg (not_live hp)

theorem exec_inputs_not_live :
    (∀ h, exec (.nozzleLift h) s = .next (setLifted h true s) ∧ exec (.nozzleHang h) s = .next (setLifted h false s)) ∧
    (∀ c, exec (.overfillSwitchActive c) s = .next (setOverfill c true s)) ∧
    exec .emergencyStopActive s = .next (setEmergency true s) ∧
    exec .emergencyStopInactive s = .next (setEmergency false s) := by
  have lifted {h : Hose} {b : Bool} (hb : s.inputs.lifted.get h = b) : s = setLifted h b s := by
    simp [setLifted, State.setInputs, ← hb]
  have overfill {c : Comp} (hb : s.inputs.overfill.get c = true) : s = setOverfill c true s := by
    simp [setOverfill, State.setInputs, ← hb]
  have emergency {b : Bool} (hb : s.inputs.emergency = b) : s = setEmergency b s := by subst hb; rfl
  refine ⟨fun h => ⟨?_, ?_⟩, fun c => ?_, ?_, ?_⟩ <;> refine congrArg Host.Outcome.next (input_not_live hp fun hb => ?_)
  · exact lifted hb
  · exact lifted (by simpa using hb)
  · exact overfill hb
  · exact emergency hb
  · exact emergency (by simpa using hb)

end NotRunning

theorem exec_siteClockTick_restarting (hp : s.power = .restarting) : exec .siteClockTick s =
    .next (s.setClock { s.clock with time := min (s.clock.time + 1) 34359738367 }) :=
  congrArg Host.Outcome.next ((if_neg (not_live (by simp [hp]))).trans (if_pos (by simp [State.powered, hp])))

/-! ## A part without power (R197) -/

section Unpowered

variable (hp : s.power = .off)

include hp

theorem exec_siteClockTick_off : exec .siteClockTick s = .next s :=
  congrArg Host.Outcome.next ((if_neg (not_live (by simp [hp]))).trans (if_unpowered hp))

theorem exec_line_off (hc : rowKind c = .line) : exec c s = .next s := by
  cases c with
  | unknown tag code => exact (unknown_takenAsFrame tag code).exec_off hp
  | check | overlap | brokenFrame | byteError => exact congrArg Host.Outcome.next (if_unpowered hp)
  | waking =>
    refine congrArg Host.Outcome.next ?_
    split
    · exact takeFrame_off hp
    · rfl
  | answerSent => exact congrArg Host.Outcome.next (if_neg (by simp [State.powered, hp]))
  | _ => cases hc

theorem takeByte_off (b : LineByte) : takeByte b s = .next s := if_neg (by simp [State.powered, hp])

end Unpowered

/-- Settles O7: RESTART by its owner, the end of its answer by what every start-up does, and a part that does not run by
the branch that each row has for it. -/
theorem restartFollowsItsAnswer : Obligations.RestartFollowsItsAnswer := by
  unfold Obligations.RestartFollowsItsAnswer
  refine ⟨fun tag s hr => ?_, fun r s hs => ⟨fun hp => ?_, fun hp => exec_answerSent_on hp hs⟩, fun s hp => ?_⟩
  · have allowed : restartAllowed (heard s) = true ↔ _ := restartAllowed_iff (s := s)
    rw [← allowed]
    exact ⟨fun ha => congrArg Host.Outcome.next (takeRequest_ok (parse := parseNone) hr rfl (ownRestart_accepts ha)),
      fun ha => request_refused (parse := parseNone) hr rfl (ownRestart_state ha)⟩
  · exact ⟨_, exec_answerSent_restarting hp hs, startUpAt_startedUp s.clock s⟩
  · obtain ⟨nozzles, overfills, stops, releases⟩ := exec_inputs_not_live hp
    obtain ⟨opens, closes⟩ := exec_sealSwitch_not_on hp
    refine ⟨fun c => exec_running_not_live hp, nozzles, fun c => ⟨overfills c, rfl⟩, stops, releases, opens, closes,
      exec_siteClockTick_restarting, fun hp => ⟨exec_siteClockTick_off hp, fun c hc => ?_, takeByte_off hp⟩⟩
    obtain hc | hc := hc
    · exact (request_takenAsFrame (decide_eq_true hc)).exec_off hp
    · exact exec_line_off hp hc

end Sys2Proof.Machine
end

section
/-! PROOF. Refusals (R187 to R189): the reader and the owner of each request, what a request that is refused leaves, and
bodies that do not parse. -/

namespace Sys2Proof.Machine

variable {s t u : State} {c : Instr} {tag : SeqTag} {code part : Septet} {body fragment : List Septet} {α : Type}
  {parse : List Septet → Option α} {owner : α → State → Owned} {l : LongRequest}

/-! ## The rows of the requests (R184, R187, R189) -/

/-- A request of one telegram: its body is read by one reader, as `bodyParses` has it, and handed to one owner. -/
def ReadByOwner (code : Septet) (tag : SeqTag) (body : List Septet) (c : Instr) : Prop :=
  ∃ (α : Type) (parse : List Septet → Option α) (owner : α → State → Owned),
    (∀ s, exec c s = .next (takeRequest tag code.toNat parse body owner s)) ∧
      bodyParses code.toNat body = (parse body).isSome

/-- R184, R189: how a request is read: as one telegram, or as a frame of a STRAPPING WRITE. -/
inductive RequestRead (code : Septet) (tag : SeqTag) (body : List Septet) : Instr → Prop
  | telegram {c : Instr} (h : ReadByOwner code tag body c) : RequestRead code tag body c
  | lastPart (hc : code = 60) : RequestRead code tag body (.strappingWrite tag body)
  | part {part : Septet} {fragment : List Septet} (hc : code = 60) (hb : body = part :: 0 :: fragment) :
      RequestRead code tag body (.strappingWritePart tag part fragment)

/-- R184: a request with its telegram, which names a well-formed request as its row, with a body that fits. -/
structure IsRequestOf (code : Septet) (tag : SeqTag) (body : List Septet) (c : Instr) : Prop where
  request : isRequest c = true
  row : c.wf = true → requestRow code tag body = c
  fits : c.wf = true → body.length ≤ 99
  read : RequestRead code tag body c

/-- R184: a command is a request with its telegram, or an event without one. -/
inductive FormOf (c : Instr) : Option (Septet × SeqTag × List Septet) → Prop
  | event (h : isRequest c = false) : FormOf c none
  | request {code : Septet} {tag : SeqTag} {body : List Septet} (h : IsRequestOf code tag body c) :
      FormOf c (some (code, tag, body))

theorem formOf_requestForm (c : Instr) : FormOf c (requestForm c) := by
  cases c with
  | siteStatus | alarms | linkCounters | settingsRead | settingsWrite | restart | tagChannelRead | machineRead
  | machineWrite | machineDelete | machineFind | machineList | accountRead | accountWrite | accountDelete | approve
  | decline | authorise | hoseStatus | stop | hoseEnable | hoseDisable | hoseSettingsRead | hoseSettingsWrite
  | equipmentStatus | pumpSettingsRead | pumpSettingsWrite | inhibitClear | stockStatus | tankSetupRead
  | tankSetupWrite | strappingRead | gauge | gaugeRead | bookAdjust | deliveryStatus | deliveryOpen | deliveryClose
  | logStatus | logRead | logConfirm | logRewind | clockSet | shiftClose | shiftTotals | calRead | calOpen | calWrite
  | calClose | auditRead | parkStatus | park =>
    exact .request ⟨rfl, fun _ => rfl, of_decide_eq_true, .telegram ⟨_, _, _, fun _ => rfl, rfl⟩⟩
  | strappingWrite tag body =>
    exact .request ⟨rfl, (Laws.RequestRow.strappingWrite tag body).2 _ rfl,
      fun hw => of_decide_eq_true ((Bool.and_eq_true _ _).mp hw).1, .lastPart rfl⟩
  | strappingWritePart =>
    exact .request ⟨rfl, fun _ => rfl, fun hw => Nat.add_le_add_right (of_decide_eq_true hw) 2, .part rfl rfl⟩
  | _ => exact .event rfl

theorem request_of_requestForm (hf : requestForm c = some (code, tag, body)) : IsRequestOf code tag body c := by
  have form := formOf_requestForm c
  rw [hf] at form
  cases form with
  | request h => exact h

/-- R184: a host request has a telegram. -/
theorem exists_isRequestOf (hc : isRequest c = true) : ∃ code tag body, IsRequestOf code tag body c := by
  have form := formOf_requestForm c
  generalize requestForm c = f at form
  cases form with
  | event h => exact absurd hc (by simp [h])
  | request h => exact ⟨_, _, _, h⟩

/-! ## What a refused request leaves (R188) -/

/-- Where the reply of `t` is a refusal, the link alone differs. -/
def KeptIfRefused (s t : State) : Prop := ∀ tag r echo, replyOf t = some (.refusal tag r echo) → OnlyIn [.link] s t

theorem OnlyIn.keptIfRefused (h : OnlyIn [.link] s t) : KeptIfRefused s t := fun _ _ _ _ => h

theorem OnlyIn.then_keptIfRefused (h : OnlyIn [.link] s t) (k : KeptIfRefused t u) : KeptIfRefused s u :=
  fun tag r echo hr => h.trans (k tag r echo hr)

/-- An answer is no refusal, whatever the owner has changed. -/
theorem send_answer_keptIfRefused (fields : List Field) : KeptIfRefused s (send (.answer tag code fields) t) :=
  fun _ _ _ hr => nomatch hr

theorem handleRequest_keptIfRefused (s : State) : KeptIfRefused s (handleRequest tag code parse body owner s) := by
  unfold handleRequest
  split
  · exact ((only_setLink _ s).trans (only_setLink _ _)).keptIfRefused
  · split
    · exact (only_setLink _ s).keptIfRefused
    · exact send_answer_keptIfRefused _

theorem handleLast_keptIfRefused (s : State) : KeptIfRefused s (handleLast tag code parse body owner s) := by
  unfold handleLast
  split
  · split
    · exact (only_setLink _ s).keptIfRefused
    · split
      · exact (handlePart_touches _ _ _ _ s).keptIfRefused
      · split
        · exact (((only_setLink _ s).trans (only_setLink _ _)).trans (only_setLink _ _)).keptIfRefused
        · exact (only_setLink _ s).then_keptIfRefused (handleRequest_keptIfRefused _)
  all_goals exact ((only_setLink _ s).trans (only_setLink _ _)).keptIfRefused

/-- R187: a ready part hands a frame on with the link alone changed. -/
theorem takeFrame_keptIfRefused {handle : State → State} (hr : Ready s) (hh : ∀ u, KeptIfRefused u (handle u)) :
    KeptIfRefused s (takeFrame tag code handle s) := by
  rw [takeFrame_ready hr]
  exact (heard_touches s).then_keptIfRefused (hh _)

theorem request_keptIfRefused (hc : isRequest c = true) (hr : Ready s) (ht : exec c s = .next t) :
    KeptIfRefused s t := by
  obtain ⟨code, tag, body, request⟩ := exists_isRequestOf hc
  cases request.read with
  | telegram h =>
    obtain ⟨α, parse, owner, taken, -⟩ := h
    rw [taken] at ht
    cases ht
    exact takeFrame_keptIfRefused hr fun u => handleRequest_keptIfRefused u
  | lastPart =>
    cases ht
    exact takeFrame_keptIfRefused hr fun u => handleLast_keptIfRefused u
  | part =>
    cases ht
    exact takeFrame_keptIfRefused hr fun u => (handlePart_touches _ _ _ _ u).keptIfRefused

/-! ## Bodies that do not parse (R187, R189) -/

/-- R189: a frame of a STRAPPING WRITE without a part number and a flag is refused with FORMAT. -/
theorem handleLast_short (hb : body.length < 2) :
    handleLast tag code parse body owner s = refuseCounted tag .format code s := by
  match body, hb with
  | [], _ => rfl
  | [_], _ => rfl

theorem RequestRead.format (read : RequestRead code tag body c) (hr : Ready s)
    (hp : bodyParses code.toNat body = false) : exec c s = .next (refusedCounted tag .format code s) := by
  cases read with
  | telegram h =>
    obtain ⟨α, parse, owner, taken, parses⟩ := h
    have unread : parse body = none := by simpa [hp] using parses
    rw [taken, takeRequest_format hr unread, BitVec.ofNat_toNat, BitVec.setWidth_eq]
    rfl
  | lastPart hc =>
    subst hc
    have short : body.length < 2 := by simpa using (of_decide_eq_false hp : ¬ 2 ≤ body.length)
    exact congrArg Host.Outcome.next ((takeFrame_ready hr tag 60 _).trans (handleLast_short (s := heard s) short))
  | part hc hb =>
    subst hc hb
    exact absurd hp (by simp [bodyParses])

/-- R189: joined operands that do not parse are refused, with the assembly cleared. -/
theorem strappingLast_format (hr : Ready s) (hj : joinPart 60 part fragment s.link.longRequest = some l)
    (hp : parseStrapping l.got = none) : exec (.strappingWrite tag (part :: 1 :: fragment)) s =
      .next (setLongRequest none (refusedCounted tag .format 60 s)) := by
  rw [strappingLast_handedOn hr tag hj]
  simp only [handleRequest, hp]
  rfl

/-- Settles O12: the two kinds of refusal by the row that a request is, the joined operands by the last part. -/
theorem refusedRequestsLeaveTheState : Obligations.RefusedRequestsLeaveTheState := by
  unfold Obligations.RefusedRequestsLeaveTheState
  exact ⟨fun c s t tag r echo hc hr ht => request_keptIfRefused hc hr ht tag r echo,
    fun c code tag body s hr hf hp => (request_of_requestForm hf).read.format hr hp,
    fun tag part fragment l s hr hj hp => strappingLast_format hr hj hp⟩

end Sys2Proof.Machine
end

section
/-! PROOF. The fields of a telegram are read back (R184), and the parts of a long answer join to it (R189). -/

namespace Sys2Proof.Machine

variable {i : Int} {rest full : List Septet}

/-! ## Numbers (R184) -/

/-- R184: the groups of a number are joined to what has been read before them. -/
theorem readGroups_groups (k acc n : Nat) (rest : List Septet) :
    readGroups k acc (groups k n ++ rest) = some (acc * 128 ^ k + n % 128 ^ k, rest) := by
  induction k generalizing acc with
  | zero => simp [readGroups, groups, Nat.mod_one]
  | succ k ih =>
    have joined : (acc * 128 + n / 128 ^ k % 128) * 128 ^ k + n % 128 ^ k =
        acc * 128 ^ (k + 1) + n % 128 ^ (k + 1) := by
      rw [Nat.mod_pow_succ]
      ring
    simp only [groups, List.cons_append, readGroups, BitVec.toNat_ofNat, Nat.reducePow, ih, joined]

theorem readGroups_groups_of_lt {k n : Nat} (hn : n < 128 ^ k) (rest : List Septet) :
    readGroups k 0 (groups k n ++ rest) = some (n, rest) := by
  rw [readGroups_groups, Nat.mod_eq_of_lt hn, zero_mul, zero_add]

/-- R184: the groups of a signed number hold its remainder. -/
theorem readGroups_signedGroups (k : Nat) (i : Int) (rest : List Septet) :
    readGroups k 0 (signedGroups k i ++ rest) = some ((i % 128 ^ k).toNat, rest) := by
  have nonneg : 0 ≤ i % 128 ^ k := Int.emod_nonneg i (by positivity)
  have bound : i % 128 ^ k < 128 ^ k := Int.emod_lt_of_pos i (by positivity)
  exact readGroups_groups_of_lt ((Int.toNat_lt nonneg).mpr (by exact_mod_cast bound)) rest

/-- R184: two's complement gives a number of the range back from its remainder. -/
theorem twosComplement_emod {bits : Nat} (hb : 1 ≤ bits) (hl : -2 ^ (bits - 1) ≤ i) (hu : i < 2 ^ (bits - 1)) :
    twosComplement bits (i % 2 ^ bits).toNat = i := by
  obtain ⟨b, rfl⟩ := Nat.exists_eq_add_of_le' hb
  rw [Nat.add_sub_cancel] at hl hu
  have half : (2 : Int) ^ (b + 1) = 2 * 2 ^ b := by ring
  have cast : ((2 ^ b : Nat) : Int) = 2 ^ b := by norm_cast
  unfold twosComplement
  rw [Nat.add_sub_cancel, half]
  generalize (2 : Int) ^ b = p at *
  obtain neg | nonneg := lt_or_ge i 0
  · have rem : i % (2 * p) = i + 2 * p := by
      rw [← Int.add_emod_right, Int.emod_eq_of_lt] <;> omega
    rw [rem, if_neg (by omega)]
    omega
  · rw [Int.emod_eq_of_lt nonneg (by omega), if_pos (by omega)]
    omega

/-- R184: a text is its length and its characters. -/
theorem readText_text {t : Text} (ht : t.length ≤ 127) (rest : List Septet) :
    readText (Field.bytes (.text t) ++ rest) = some (t, rest) := by
  have length : (BitVec.ofNat 7 t.length).toNat = t.length := by
    rw [BitVec.toNat_ofNat]
    omega
  simp [Field.bytes, readText, length]

/-- Settles O13: numbers by the induction over their groups, signed ones by two's complement over them. -/
theorem fieldsAreReadBack : Obligations.FieldsAreReadBack := by
  unfold Obligations.FieldsAreReadBack
  refine fun rest => ⟨fun k n hn => readGroups_groups_of_lt hn rest, fun i hl hu => ?_, fun i hl hu => ?_,
    fun t ht => readText_text ht rest, fun id => readGroups_groups_of_lt (id.isLt.trans (by decide)) rest⟩
  · have back : twosComplement 21 (i % 2 ^ 21).toNat = i := twosComplement_emod (by decide) hl (by omega)
    simp only [readSigned, Field.bytes, readGroups_signedGroups, Option.map_some]
    exact congrArg (fun j => some (j, rest)) back
  · have back : twosComplement 35 (i % 2 ^ 35).toNat = i := twosComplement_emod (by decide) hl (by omega)
    simp only [readVolume, Field.bytes, readGroups_signedGroups, Option.map_some]
    exact congrArg (fun j => some (j, rest)) back

/-! ## The parts of a long answer (R189) -/

/-- Fragments of one size, in order, are the start of the list. -/
theorem flatMap_fragments {α : Type} (m : Nat) (l : List α) (n : Nat) :
    (List.range n).flatMap (fun k => (l.drop (m * k)).take m) = l.take (m * n) := by
  induction n with
  | zero => simp
  | succ n ih => rw [List.range_succ, List.flatMap_append, ih, Nat.mul_succ, List.take_add]; simp

/-- R189: the number of parts covers the full answer. -/
theorem length_le_parts (full : List Septet) : full.length ≤ 95 * partCount full := by
  unfold partCount
  omega

/-- R189: the fragment of a part. -/
def fragmentOf (full : List Septet) (part : Nat) : List Septet :=
  (full.drop (fragmentSize * (part - 1))).take fragmentSize

theorem answerPart_inRange {k : Nat} (hk : 1 ≤ k) (hp : k ≤ partCount full) : answerPart full k =
    .ok [.count k, .count (partCount full), .count2 (byteSum full % 16384), .raw (fragmentOf full k)] :=
  if_neg (by omega)

/-- Settles O15: the fragments are the runs of 95 bytes of the full answer, and the parts cover it. -/
theorem longAnswersAreCutIntoParts : Obligations.LongAnswersAreCutIntoParts := by
  unfold Obligations.LongAnswersAreCutIntoParts
  refine fun full => ⟨fragmentOf full, fun k hk hp => ⟨answerPart_inRange hk hp, List.length_take_le _ _⟩, ?_,
    fun k hk => if_pos hk⟩
  calc (List.range (partCount full)).flatMap (fun k => fragmentOf full (k + 1))
      = full.take (95 * partCount full) := flatMap_fragments 95 full _
    _ = full := List.take_of_length_le (length_le_parts full)

end Sys2Proof.Machine
end

section
/-! PROOF. The receiver (R184 to R187): what each byte does, and the bytes of a well-formed request bring it. -/

namespace Sys2Proof.Machine

variable {s u : State} {c : Instr} {tag : SeqTag} {code : Septet} {body got : List Septet} {lead b : LineByte}
  {a a' m : Assembly} {bs : List LineByte} {f : Frame} {n len : Nat}

/-! ## One byte at the assembly (R185) -/

theorem assemble_lead (hb : 128 ≤ b.toNat) :
    assemble a b = (.length b, if a = .hunt then .none else .broken (.newLead b)) := if_pos hb

theorem assemble_low (hb : b.toNat < 128) : assemble a b = assembleLow a (BitVec.ofNat 7 b.toNat) := if_neg hb.not_ge

/-- R184: a body or check byte has bit 7 clear. -/
theorem assemble_ofNat (hn : n < 128) : assemble a (BitVec.ofNat 8 n) = assembleLow a (BitVec.ofNat 7 n) := by
  have value : (BitVec.ofNat 8 n).toNat = n := by
    rw [BitVec.toNat_ofNat]
    omega
  rw [assemble_low (by omega), value]

theorem toNat_ofNat_seven (hn : n < 128) : (BitVec.ofNat 7 n).toNat = n := by
  rw [BitVec.toNat_ofNat]
  omega

theorem assembleLow_length (hl : 1 ≤ n) (hu : n ≤ 100) :
    assembleLow (.length lead) (BitVec.ofNat 7 n) = (.body lead n [], .none) := by
  rw [assembleLow, toNat_ofNat_seven (by omega), if_neg (by omega)]

theorem assembleLow_badLength (hn : n < 128) (hb : n = 0 ∨ 100 < n) :
    assembleLow (.length lead) (BitVec.ofNat 7 n) = (.hunt, .broken .badLength) := by
  rw [assembleLow, toNat_ofNat_seven hn, if_pos hb]

theorem assembleLow_body (hl : got.length + 1 ≠ len) (low : Septet) :
    assembleLow (.body lead len got) low = (.body lead len (got ++ [low]), .none) := if_neg (by simpa using hl)

theorem assembleLow_bodyEnd (hl : got.length + 1 = len) (low : Septet) :
    assembleLow (.body lead len got) low = (.checkHigh lead (got ++ [low]), .none) := if_pos (by simpa using hl)

/-! ## One byte at a powered part (R185 to R187) -/

theorem byteCommand_none (h : assemble a b = (m, .none)) (s : State) : byteCommand s a b = (m, none) := by
  simp [byteCommand, h]

theorem byteCommand_broken {kind : BrokenFrame} (h : assemble a b = (m, .broken kind)) (s : State) :
    byteCommand s a b = (m, some (.brokenFrame kind)) := by simp [byteCommand, h]

theorem byteCommand_frame (h : assemble a b = (m, .frame f)) (s : State) :
    byteCommand s a b = (m, some (frameRow s f)) := by simp [byteCommand, h]

section Powered

variable (hp : s.power ≠ .off)

include hp

theorem takeByte_keeps (h : assemble s.link.assembly b = (m, .none)) : takeByte b s = .next (setAssembly m s) :=
  takeByte_silent (decide_eq_true hp) (byteCommand_none h s)

/-- R185: a byte that breaks a frame: the broken frame is counted. -/
theorem takeByte_breaks {kind : BrokenFrame} (h : assemble s.link.assembly b = (m, .broken kind))
    (hk : kind ≠ .wrongClass) :
    takeByte b s = .next (countLink .addBroken (setAssembly (brokenAssembly kind) s)) :=
  (takeByte_command (decide_eq_true hp) (byteCommand_broken h s)).trans
    ((exec_brokenFrame hp kind).trans (congrArg Host.Outcome.next (takeBroken_counts fun w => hk w.1)))

theorem takeByte_completes (h : assemble s.link.assembly b = (m, .frame f)) : takeByte b s = exec (frameRow s f) s :=
  takeByte_command (decide_eq_true hp) (byteCommand_frame h s)

end Powered

/-! ## Bytes that end no frame (R185) -/

/-- The bytes take the receiver from one assembly to another, and none of them breaks or completes a frame. -/
inductive Assembles : Assembly → List LineByte → Assembly → Prop
  | nil (a : Assembly) : Assembles a [] a
  | cons {a m a' : Assembly} {b : LineByte} {bs : List LineByte} (h : assemble a b = (m, .none))
      (t : Assembles m bs a') : Assembles a (b :: bs) a'

theorem Assembles.append {cs : List LineByte} (h : Assembles a bs m) (g : Assembles m cs a') :
    Assembles a (bs ++ cs) a' := by
  induction h with
  | nil => exact g
  | cons e _ ih => exact .cons e (ih g)

/-- One byte of a run, as `bytesCommand` takes it. -/
def takenByte (s : State) (r : Assembly × Option Instr) (b : LineByte) : Assembly × Option Instr :=
  match byteCommand s r.1 b with
  | (a, some i) => (a, some i)
  | (a, none) => (a, r.2)

theorem bytesCommand_eq (s : State) (bs : List LineByte) : bytesCommand s bs = bs.foldl (takenByte s) (.hunt, none) :=
  rfl

theorem Assembles.foldl_takenByte (h : Assembles a bs a') (s : State) (o : Option Instr) :
    bs.foldl (takenByte s) (a, o) = (a', o) := by
  induction h with
  | nil => rfl
  | cons e _ ih =>
    rw [List.foldl_cons, takenByte, byteCommand_none e s]
    exact ih

/-- R186: a run of bytes whose last one completes a frame brings the row of that frame. -/
theorem Assembles.bytesCommand (h : Assembles .hunt bs a) (hf : assemble a b = (m, .frame f)) (s : State) :
    bytesCommand s (bs ++ [b]) = (m, some (frameRow s f)) := by
  rw [bytesCommand_eq, List.foldl_append, h.foldl_takenByte, List.foldl_cons, takenByte, byteCommand_frame hf s]
  rfl

/-! ## Bytes that wait on the line -/

/-- A step of a part with no command queued takes the byte in front. -/
theorem Assembles.steps {rest : List LineByte} (h : Assembles a bs a') (n : Nat) (hp : s.power ≠ .off)
    (hq : s.pending = []) (ha : s.link.assembly = a) (hl : s.line = bs ++ rest) :
    steps (bs.length + n) s = steps n (setAssembly a' (s.setLine rest)) := by
  induction h generalizing s with
  | nil a =>
    have same : setAssembly a (s.setLine rest) = s := by
      subst ha
      rw [← (show s.line = rest from hl)]
      rfl
    rw [same, List.length_nil, Nat.zero_add]
  | @cons a m a' b bs e _ ih =>
    have taken : step s = .next (setAssembly m (s.setLine (bs ++ rest))) := by
      rw [step_byte hq hl]
      exact takeByte_keeps (s := s.setLine _) hp (ha ▸ e)
    have next := ih (s := setAssembly m (s.setLine (bs ++ rest))) hp hq rfl rfl
    rw [List.length_cons, Nat.add_right_comm, Machine.steps, taken]
    exact next

theorem steps_one (s : State) : steps 1 s = step s := by
  rw [steps]
  cases step s <;> rfl

/-- R186: the last byte of a frame, where it waits on the line behind the rest of its frame. -/
theorem Assembles.steps_frame {rest : List LineByte} (h : Assembles .hunt bs a) (hf : assemble a b = (m, .frame f))
    (hp : s.power ≠ .off) (hq : s.pending = []) (ha : s.link.assembly = .hunt) (hl : s.line = (bs ++ [b]) ++ rest) :
    Machine.steps (bs ++ [b]).length s =
      exec (frameRow (setAssembly a (s.setLine rest)) f) (setAssembly a (s.setLine rest)) := by
  rw [List.append_assoc] at hl
  rw [List.length_append, h.steps [b].length hp hq ha hl, List.length_singleton, steps_one]
  exact (step_byte (s := setAssembly a (s.setLine (b :: rest))) hq rfl).trans
    (takeByte_completes (s := setAssembly a (s.setLine rest)) hp hf)

/-- R187: a frame that is taken leaves the receiver in HUNT, whatever its assembly was. -/
theorem TakenAsFrame.exec_setAssembly (hc : TakenAsFrame c) (hp : u.power ≠ .off) (a : Assembly) :
    exec c (setAssembly a u) = exec c u := by
  obtain ⟨tag, code, handle, taken⟩ := hc
  have power : (setAssembly a u).power = u.power := rfl
  have overlap : overlapFrame (setAssembly a u) = overlapFrame u := rfl
  have good : goodFrame (setAssembly a u) = goodFrame u := rfl
  rw [taken, taken, takeFrame, takeFrame, power, overlap, good]
  cases hq : u.power with
  | off => exact absurd hq hp
  | restarting | on => rfl

/-! ## The bytes of a request (R184) -/

/-- R184: the value of the check bytes of a request. -/
def requestCheck (tag : SeqTag) (body : List Septet) : Nat :=
  checkValueOf (128 + tag.toNat + body.length + byteSum body)

/-- R184: the bytes of a request up to its low check byte. -/
def requestFront (tag : SeqTag) (body : List Septet) : List LineByte :=
  BitVec.ofNat 8 (128 + tag.toNat) :: BitVec.ofNat 8 body.length :: ((body.map fun b => BitVec.ofNat 8 b.toNat) ++
    [BitVec.ofNat 8 (requestCheck tag body / 128)])

/-- R184: the frame of a request. -/
def requestFrame (tag : SeqTag) (body : List Septet) : Frame :=
  ⟨BitVec.ofNat 8 (128 + tag.toNat), body, BitVec.ofNat 7 (requestCheck tag body / 128),
    BitVec.ofNat 7 (requestCheck tag body % 128)⟩

theorem telegramOf_request (tag : SeqTag) (body : List Septet) : telegramOf 0 tag body =
    requestFront tag body ++ [BitVec.ofNat 8 (requestCheck tag body % 128)] := by
  simp [telegramOf, requestFront, requestCheck]

theorem requestCheck_lt (tag : SeqTag) (body : List Septet) : requestCheck tag body < 16384 :=
  Nat.mod_lt _ (by decide)

theorem requestLead_toNat (tag : SeqTag) : (BitVec.ofNat 8 (128 + tag.toNat) : LineByte).toNat = 128 + tag.toNat := by
  have bound := tag.isLt
  rw [BitVec.toNat_ofNat]
  omega

theorem checks_requestFrame (tag : SeqTag) (body : List Septet) : (requestFrame tag body).checks = true := by
  have bound := requestCheck_lt tag body
  have value : requestCheck tag body =
      (16384 - (128 + tag.toNat + body.length + byteSum body) % 16384) % 16384 := rfl
  simp only [Frame.checks, requestFrame, requestLead_toNat, decide_eq_true_eq]
  rw [toNat_ofNat_seven (by omega), toNat_ofNat_seven (by omega)]
  omega

theorem cls_requestFrame (tag : SeqTag) (body : List Septet) : (requestFrame tag body).cls = 0 := by
  have bound := tag.isLt
  simp only [Frame.cls, requestFrame, requestLead_toNat]
  omega

theorem tag_requestFrame (tag : SeqTag) (body : List Septet) : (requestFrame tag body).tag = tag := by
  have bound := tag.isLt
  apply BitVec.eq_of_toNat_eq
  simp only [Frame.tag, requestFrame, BitVec.toNat_ofNat]
  omega

/-- R185: body bytes are kept up to the length, and the last of them ends the body. -/
theorem assembles_body (lead : LineByte) (hb : body ≠ []) (got : List Septet) :
    Assembles (.body lead (got.length + body.length) got) (body.map fun b => BitVec.ofNat 8 b.toNat)
      (.checkHigh lead (got ++ body)) := by
  induction body generalizing got with
  | nil => exact absurd rfl hb
  | cons b body ih =>
    have kept : assemble (.body lead (got.length + (b :: body).length) got) (BitVec.ofNat 8 b.toNat) =
        assembleLow (.body lead (got.length + (b :: body).length) got) b := by
      rw [assemble_ofNat b.isLt, BitVec.ofNat_toNat, BitVec.setWidth_eq]
    cases body with
    | nil => exact .cons (kept.trans (assembleLow_bodyEnd rfl b)) (.nil _)
    | cons d body =>
      refine .cons (kept.trans (assembleLow_body (by simp) b)) ?_
      have tail := ih (List.cons_ne_nil d body) (got ++ [b])
      simpa [Nat.add_assoc, Nat.add_comm 1] using tail

theorem assembles_requestFront (tag : SeqTag) (hb : body ≠ []) (hl : body.length ≤ 100) :
    Assembles .hunt (requestFront tag body)
      (.checkLow (BitVec.ofNat 8 (128 + tag.toNat)) body (BitVec.ofNat 7 (requestCheck tag body / 128))) := by
  have check := requestCheck_lt tag body
  have some_byte : 1 ≤ body.length := List.length_pos_iff.mpr hb
  have bodied := assembles_body (BitVec.ofNat 8 (128 + tag.toNat)) hb []
  rw [List.length_nil, Nat.zero_add] at bodied
  refine .cons (assemble_lead (by rw [requestLead_toNat]; omega)) (.cons (m := .body _ body.length []) ?_
    (bodied.append (.cons ?_ (.nil _))))
  · rw [assemble_ofNat (by omega), assembleLow_length some_byte hl]
  · rw [assemble_ofNat (by omega)]
    rfl

theorem assemble_requestLow (tag : SeqTag) (body : List Septet) :
    assemble (.checkLow (BitVec.ofNat 8 (128 + tag.toNat)) body (BitVec.ofNat 7 (requestCheck tag body / 128)))
      (BitVec.ofNat 8 (requestCheck tag body % 128)) = (.hunt, .frame (requestFrame tag body)) := by
  rw [assemble_ofNat (Nat.mod_lt _ (by decide))]
  rfl

/-! ## The request that the bytes bring (R184 to R187) -/

/-- R184 to R187: the frame of a well-formed request, at a part that is not sending and not PARKED, is the request. -/
theorem frameRow_requestFrame (hc : IsRequestOf code tag body c) (hw : c.wf = true)
    (hs : s.link.sending = none) (hk : s.park.state ≠ .parked) : frameRow s (requestFrame tag (code :: body)) = c := by
  have row : requestRow ((requestFrame tag (code :: body)).body.headD 0) (requestFrame tag (code :: body)).tag
      (requestFrame tag (code :: body)).body.tail = c := by
    rw [tag_requestFrame]
    exact hc.row hw
  simp only [frameRow, hs, checks_requestFrame, cls_requestFrame, hk, row, Option.isSome_none, Bool.false_eq_true,
    Bool.true_eq_false, ne_eq, not_true_eq_false, if_false]

/-! ## The obligation -/

/-- Settles O14: the bytes of a request up to the last assemble its frame, whose row is the request; and each byte by
its equation at the assembly. -/
theorem telegramsBringTheirRequest : Obligations.TelegramsBringTheirRequest := by
  unfold Obligations.TelegramsBringTheirRequest
  refine ⟨fun c code tag body s hf hw hs hk => ?_, fun b s hp => ⟨fun hb => ⟨fun ha => ?_, fun ha => ?_⟩,
    fun hb => ⟨fun ha => ?_, fun lead ha => ⟨fun hl hu => ?_, fun hn => ?_⟩,
      fun lead len got ha => ⟨fun hl => ?_, fun hl => ?_⟩, fun lead got ha => ?_, fun lead got high ha => ?_⟩⟩⟩
  · have hc := request_of_requestForm hf
    have front := assembles_requestFront tag (List.cons_ne_nil code body) (Nat.succ_le_succ (hc.fits hw))
    have low := assemble_requestLow tag (code :: body)
    rw [telegramOf_request]
    refine ⟨by rw [front.bytesCommand low, frameRow_requestFrame hc hw hs hk], fun rest hp ha hq hl => ?_⟩
    have row (a : Assembly) : frameRow (setAssembly a (s.setLine rest)) (requestFrame tag (code :: body)) = c :=
      frameRow_requestFrame hc hw hs hk
    rw [front.steps_frame low hp hq ha hl, row]
    exact (request_takenAsFrame hc.request).exec_setAssembly (u := s.setLine rest) hp _
  · exact takeByte_keeps hp ((assemble_lead hb).trans (by rw [if_pos ha]))
  · exact takeByte_breaks (kind := .newLead b) hp ((assemble_lead hb).trans (by rw [if_neg ha])) nofun
  · have same : setAssembly .hunt s = s := by rw [← ha]; rfl
    exact (takeByte_keeps hp (by rw [ha, assemble_low hb]; rfl)).trans (congrArg Host.Outcome.next same)
  · exact takeByte_keeps hp (ha ▸ (assemble_low hb).trans (assembleLow_length hl hu))
  · exact takeByte_breaks (kind := .badLength) hp (ha ▸ (assemble_low hb).trans (assembleLow_badLength hb hn)) nofun
  · exact takeByte_keeps hp (ha ▸ (assemble_low hb).trans (assembleLow_body hl _))
  · exact takeByte_keeps hp (ha ▸ (assemble_low hb).trans (assembleLow_bodyEnd hl _))
  · exact takeByte_keeps hp (by rw [ha, assemble_low hb]; rfl)
  · exact takeByte_completes hp (by rw [ha, assemble_low hb]; rfl)

end Sys2Proof.Machine
end
